-- ==== Sys2Proof/Word.lean ====
section
/-!
DEFINITION. The 16-bit word of the exchange memory, the index types of the plant, and the fixed-size table that
every register file and record array of the FC48 is held in.
-/

namespace Sys2Proof

/-- A word of exchange memory or of a register is 16 bits (Conventions, "Words and addresses"). -/
abbrev Word := BitVec 16

/-- A byte of a FieldLink frame. -/
abbrev Byte := BitVec 8

/-- Row 0 to 255 (chapter 1.2). -/
abbrev RowId := Fin 256
/-- Robot 0 to 47, which is also its FieldLink id (chapter 1.2). -/
abbrev RobotId := Fin 48
/-- Shuttle record 0 to 7; its FieldLink id is 48 plus the index (R27). -/
abbrev ShuttleIx := Fin 8
/-- Soiling station 0 to 15. -/
abbrev StationIx := Fin 16
/-- FieldLink id 0 to 55 (R60). -/
abbrev LinkId := Fin 56
/-- Context record 0 to 95 (R168). -/
abbrev CtxIx := Fin 96
/-- Alert record 0 to 7 (R183). -/
abbrev AlertIx := Fin 8
/-- Order slot 0 to 15 (R6). -/
abbrev SlotIx := Fin 16
/-- Anemometer 0 to 3. -/
abbrev AnemIx := Fin 4

/-- A fixed number of like things, one per index. -/
abbrev Table (n : Nat) (α : Type) := Vector α n

/-- The table whose entry `i` is `f i`. -/
def tabulate {α : Type} {n : Nat} (f : Fin n → α) : Table n α := ⟨(List.ofFn f).toArray, by simp⟩

/-- The entry at an index. -/
def tget {α : Type} {n : Nat} (v : Table n α) (i : Fin n) : α := v[i.1]'i.2

/-- The table with one entry replaced. -/
def tset {α : Type} {n : Nat} (v : Table n α) (i : Fin n) (x : α) : Table n α := v.set i.1 x i.2

/-- The table that holds the same value at every index. -/
def tfill {α : Type} (n : Nat) (x : α) : Table n α := Vector.replicate n x

end Sys2Proof
end

