-- ==== Sys2Proof/Config.lean ====
section
/-!
DEFINITION. What the part fixes (codes, markers, region addresses) and the one free value of the model: the
outcome of a race that the manual leaves open.
-/

namespace Sys2Proof.Config

/-- The part code of ID, R201. -/
def partCode : Nat := 0x48
/-- The revision of ID, R201. -/
def revision : Nat := 1
/-- The parameter marker of word 0 of the parameter block, R204. -/
def parameterMarker : Nat := 0x4643
/-- The low-battery fault code, R203. -/
def lowBattery : Nat := 1
/-- The FieldLink broadcast address, R54. -/
def broadcastAddress : Nat := 127
/-- How many word addresses the space has: 15 address pins A0 to A14 (11.8). -/
def addressSpace : Nat := 0x8000
/-- The first of the eight register addresses, R1 and 11.2. -/
def registerBase : Nat := 0x7FF8

/-! ### First words of the regions, R1 -/
def orderBoardBase : Nat := 0x0000
def parameterBase : Nat := 0x0200
def farmBase : Nat := 0x0240
def alertBase : Nat := 0x0260
def stationBase : Nat := 0x02A0
def shuttleBase : Nat := 0x0320
def robotBase : Nat := 0x03A0
def siteBase : Nat := 0x06A0
def rowBase : Nat := 0x0EA0
def contextBase : Nat := 0x1EA0
def candidateBase : Nat := 0x24A0

/-- How many internal notices one command may give rise to before the model stops delivering them. No command
comes near it (assumption 12). -/
def cascadeFuel : Nat := 20000

/-- FREE VALUE (assumptions 9 and 10). The n-th time a host write meets a pass of the part over the same words,
whether the part had already been at the word when the host wrote it. It has no body: nothing in Lean can evaluate
it, and every statement holds for each of its values. -/
opaque partWasFirst : Nat → Bool

end Sys2Proof.Config
end

