-- ==== Sys2Proof/Syntax.lean ====
section
/-!
DEFINITION. The commands of the FC48: one constructor of `Instr` per row of spec/opcode_table.json, with the
operands the outside world supplies. A command is a host write, the taking of an order, an event of the radio
line or of a field instrument, or the expiry of one of the part's timers.
-/

namespace Sys2Proof

/-- The eight registers of 11.2, in address order from 0x7FF8. -/
inductive Register where
  | id | control | status | notice | noticeEnable | post | abort | answered
  deriving DecidableEq, Repr

/-- A mirror of R4: one change count and one rewrite-pending mark each. The candidate view belongs to `farm`. -/
inductive MirrorId where
  | farm
  | alert (n : AlertIx)
  | station (n : StationIx)
  | shuttle (n : ShuttleIx)
  | robot (n : RobotId)
  | row (n : RowId)
  | context (n : CtxIx)
  deriving DecidableEq, Repr

/-- The three samples that the receiver takes about the middle of one bit time, R52. -/
abbrev Sample := Bool × Bool × Bool

/-- One falling edge on the receive line and what follows it: the samples of the 11 bit times of a character
(start, eight data bits low first, marker, stop; R51), or of a false start (R52). -/
structure LineChar where
  samples : List Sample
  deriving DecidableEq, Repr

/-- The commands, one per row of the operation table. -/
inductive Instr where
  /-- R23: power is applied. -/
  | powerOnReset
  /-- R23, R208: the reset pin goes low. -/
  | pinResetAssert
  /-- R23: the reset pin goes high. -/
  | pinResetRelease
  /-- R20, R23: a CONTROL write with the soft reset bit set. -/
  | softReset (modeRequest statusPage : Bool)
  /-- R20, R31: a CONTROL write with mode request RUN. -/
  | runRequest (statusPage : Bool)
  /-- R20, R34: a CONTROL write with mode request SETUP. -/
  | setupRequest (statusPage : Bool)
  /-- R202: a CONTROL write made for its page bit. -/
  | statusPageSelect (modeRequest statusPage : Bool)
  /-- R31 to R33: CHECKING has read every region. -/
  | runEntryChecks
  /-- R77: the last stop bit of the frame that a taken SETUP request waits for. -/
  | setupAtFrameEnd
  /-- R7: a host write to POST. -/
  | post (mask : Word)
  /-- R14: a host write to ABORT. -/
  | abort (mask : Word)
  /-- R13: a host write to ANSWERED. -/
  | answeredCollect (mask : Word)
  /-- R16: a host write to NOTICE. -/
  | noticeClear (bits : Word)
  /-- R17: a host write to NOTICE ENABLE. -/
  | noticeEnableWrite (value : Word)
  /-- R201: a host write to ID or STATUS. -/
  | registerWriteOther (reg : Register) (value : Word)
  /-- R2: a host write of one word. -/
  | hostMemoryWrite (addr : Nat) (value : Word)
  /-- R19: the silence timer expires. -/
  | hostSilenceExpiry
  /-- R4: a pending rewrite begins. -/
  | mirrorRewriteStart (m : MirrorId)
  /-- R3: every word of a rewrite has been written. -/
  | mirrorRewriteEnd (m : MirrorId)
  /-- R9: the head slot is taken and names no order kind. -/
  | unknownOrder
  /-- R45: the head slot is taken and holds SET ROW ENABLE. -/
  | setRowEnable
  /-- R45: SET ROW DISABLE is taken. -/
  | setRowDisable
  /-- R45: SET ROW CLEAR CONTESTED is taken. -/
  | setRowClearContested
  /-- R46, R47: SERVICE WITHDRAW is taken. -/
  | serviceWithdraw
  /-- R48: SERVICE RETURN is taken. -/
  | serviceReturn
  /-- R49: SERVICE DECLARE AT ROW is taken. -/
  | serviceDeclareAtRow
  /-- R87: SCAN STATIONS is taken. -/
  | scanStations
  /-- R96: WIPE STATION is taken. -/
  | wipeStation
  /-- R104: DAY CLOSE is taken. -/
  | dayClose
  /-- R104, R86 step 4: the account unit is told of the completion that a held DAY CLOSE waits for. -/
  | dayCloseDeferred
  /-- R122: START ROUND is taken. -/
  | startRound
  /-- R141: STOP ROUND FINISH is taken. -/
  | stopRoundFinish
  /-- R141: STOP ROUND RECALL is taken. -/
  | stopRoundRecall
  /-- R126: CLEAN ROW is taken. -/
  | cleanRow
  /-- R149: MOVE ROBOT is taken. -/
  | moveRobot
  /-- R187: STORM ALERT at level WATCH is taken. -/
  | stormAlertWatch
  /-- R187: STORM ALERT at level PARK is taken. -/
  | stormAlertPark
  /-- R190: STORM CLEAR is taken. -/
  | stormClear
  /-- R61: the previous turn has ended and the next one begins. -/
  | turnStart
  /-- R53: the key lead has passed. -/
  | keyLeadExpiry
  /-- R53: the last stop bit of the frame has been sent. -/
  | frameSent
  /-- R59: the reply window closes with no character begun. -/
  | replyWindowExpiry
  /-- R59, R75: two character times of idle line after the reply's characters. -/
  | replyFrameEnd (chars : List LineChar)
  /-- R59: 32 character times have passed since the reply began. -/
  | replyLengthLimit (chars : List LineChar)
  /-- R61: two character times of idle line after the key falls end a broadcast turn. -/
  | broadcastTurnEnd
  /-- R139: the site second reaches the window end. -/
  | roundWindowEnd
  /-- R140: the site second reaches the hard end. -/
  | roundHardEnd
  /-- R158: a shuttle's stage or shelter-drive deadline expires. -/
  | stageDeadlineExpiry (k : ShuttleIx)
  /-- R82: a count stage ends; `periods` is how many of its clock periods the cell's current carried the
  integrator past its threshold. -/
  | measurementEnd (periods : Nat)
  /-- R85: the periodic timer expires. -/
  | periodicScanTimer
  /-- R94: the wipe time has passed since the pulse last started. -/
  | wiperPulseEnd (n : StationIx)
  /-- R180: a falling edge on an anemometer input. -/
  | anemometerPulse (a : AnemIx)
  /-- R180: a 3-second window ends. -/
  | anemometerWindowEnd (a : AnemIx)
  /-- R194: the deadline of a PARKING record expires. -/
  | parkDeadlineExpiry (n : AlertIx)
  /-- R197: the hold-off of a RELEASING record expires. -/
  | holdOffExpiry (n : AlertIx)
  deriving DecidableEq, Repr

end Sys2Proof
end

