-- ==== Sys2Proof/Decode.lean ====
section
/-!
DEFINITION. The commands that words of the operation table spell.
-/

namespace Sys2Proof

/-- The command that a word spells by the table's bits. spec/opcode_table.json gives no row any bits (98_reader.md:
`n_rows_with_fields` is 0): the FC48 takes its commands from its registers, its pins, its line and its timers, not from
encoded words. So no word spells one (assumption 31). -/
def decodeTableWord (_nbits _w : Nat) : Option Instr := none

end Sys2Proof
end

