-- ==== Sys2Proof/Machine/State.lean ====
section
/-!
DEFINITION. The state of the FC48 as plain data: the order board and registers, the exchange memory, the mirrors,
the plant in force, the masters of every record, the FieldLink controller, the scanner, the round planner, the
transfer arbiter, the context pool and the storm supervisor; the faults and refusals; and the state after a
power-on reset. Each field's docstring names the rule that gives it.
-/

namespace Sys2Proof.Machine

/-! ### Named values -/

/-- R20, 2.4: the operating modes. -/
inductive Mode where
  | setup | checking | run
  deriving DecidableEq, Repr

/-- R22: the cause of the last reset. -/
inductive ResetCause where
  | powerOn | pin | soft
  deriving DecidableEq, Repr

/-- R6: the states of an order slot. -/
inductive SlotState where
  | free | held | answered
  deriving DecidableEq, Repr

/-- R12: the nine status classes. -/
inductive AnswerClass where
  | done | doneLateAbort | aborted | refusedMode | refusedRange | refusedState | refusedBusy | failed | unknownOrder
  deriving DecidableEq, Repr

/-- R16: the thirteen notices, in bit order (R201). -/
inductive Notice where
  | answer | postCollision | hostSilent | linkState | storm | parkLate | poolLow | poolEmpty | roundEnd
  | stationFault | scanDone | anemometerFault | placementConflict
  deriving DecidableEq, Repr

/-- R32, R34: the refusal codes of STATUS. -/
inductive RefusalCode where
  | none | rowLength | rowBlock | rowStation | channelRange | channelReused | robotHome | homeShared
  | shuttleBlock | shuttleShared | fleetActive
  deriving DecidableEq, Repr

/-- R37: the activities of a robot. UNKNOWN and WITHDRAWN are the part's own. -/
inductive Activity where
  | unknown | docked | cleaning | returning | clamped | boarding | aboard | alighting | halted | fault | withdrawn
  deriving DecidableEq, Repr

/-- R70: the link states. -/
inductive LinkState where
  | linked | weak | mute | lost
  deriving DecidableEq, Repr

/-- R37: where the record store holds a robot to be. -/
inductive Place where
  | unknown
  | row (r : RowId)
  | shuttle (k : ShuttleIx)
  deriving DecidableEq, Repr

/-- The leg of a pass. -/
inductive Leg where
  | out | back
  deriving DecidableEq, Repr

/-- R145: the nine states of a shuttle record. -/
inductive ShuttleState where
  | idle | fetch | board | carry | alight | toShelter | sheltered | fault | withdrawn
  deriving DecidableEq, Repr

/-- R58: the states a shuttle reports. -/
inductive ShuttleReported where
  | stopped | driving | halted | fault
  deriving DecidableEq, Repr

/-- R65: the owner of a pending command. -/
inductive Owner where
  | planner | arbiter | supervisor
  deriving DecidableEq, Repr

/-- R56: the purpose of a SHUTTLE GO. -/
inductive Purpose where
  | fetch | carry | shelter
  deriving DecidableEq, Repr

/-- R56: the nine commands, with their payloads. -/
inductive Cmd where
  | clean (row : RowId) (leg : Leg) (position : Nat)
  | gotoDock
  | clamp
  | halt
  | doze
  | wake
  | board (shuttle : ShuttleIx)
  | alight (row : RowId)
  | shuttleGo (road : Nat) (purpose : Purpose)
  deriving DecidableEq, Repr

/-- Transfer class, R147. -/
inductive TransferClass where
  | host | round
  deriving DecidableEq, Repr

/-- R147: the stages of a transfer in service. -/
inductive Stage where
  | fetch | board | carry | alight
  deriving DecidableEq, Repr

/-- R163: the cause codes of the arbiter. -/
inductive TransferCause where
  | fetch | board | carry | alight | conflict | place | shuttle
  deriving DecidableEq, Repr

/-- R168: context causes. -/
inductive ContextCause where
  | none | storm | lowBattery | hardEnd | halted | fault | linkLost
  deriving DecidableEq, Repr

/-- R119: round states; CLOSED is momentary (R120). -/
inductive RoundState where
  | idle | active | winding | recalling
  deriving DecidableEq, Repr

/-- 4.4: soiling station states. -/
inductive StationState where
  | unused | ok | dark | fault | wiping
  deriving DecidableEq, Repr

/-- R183: alert states. -/
inductive AlertState where
  | free | watch | parking | parked | releasing
  deriving DecidableEq, Repr

/-- R183: alert levels. -/
inductive AlertLevel where
  | none | watch | park
  deriving DecidableEq, Repr

/-- R185: the storm summary, lowest first. -/
inductive StormSummary where
  | calm | watch | releasing | parked | parking
  deriving DecidableEq, Repr

/-- 9.5: whether a robot is in a record's set of robots to secure, and whether it has been counted secured. -/
inductive Member where
  | out | unsecured | secured
  deriving DecidableEq, Repr

/-- 9.5: the storm target of a robot. -/
inductive StormTarget where
  | none | dock | clamp
  deriving DecidableEq, Repr

/-! ### The order board and the registers (chapter 1) -/

/-- One order slot. -/
structure Slot where
  /-- R6. -/
  state : SlotState
  /-- R11: the tag copied from word 1 at taking. -/
  tag : Word
  /-- R14: an abort request is pending. -/
  abortRequested : Bool
  deriving DecidableEq, Repr

/-- The order board and the eight registers. POST, ABORT, ANSWERED, ID, STATUS and the interrupt output are read
from these fields (Flags.lean). -/
structure Board where
  slots : Table 16 Slot
  /-- R8: the intake queue, head first. -/
  intake : List SlotIx
  /-- R8: the order register, words 0 to 15 of the slot last taken; empty after a reset (R23). -/
  orderRegister : List Word
  /-- R16. -/
  notice : BitVec 13
  /-- R17. -/
  enable : BitVec 13
  /-- R20: CONTROL bit 0 as last written. -/
  modeRequest : Bool
  /-- R202: CONTROL bit 2, the page in force. -/
  statusPage : Bool
  /-- R22. -/
  resetCause : ResetCause
  /-- R18: the site second at which the silence timer last started; none while it is stopped. -/
  silenceStart : Option Nat
  /-- R19. -/
  silent : Bool
  deriving DecidableEq, Repr

/-! ### The mode machine and the plant in force (chapter 2) -/

/-- Parameters of one anemometer, R29. -/
structure AnemometerParams where
  metres : Nat
  watchGust : Nat
  parkGust : Nat
  parkMean : Nat
  releaseMean : Nat
  /-- Minutes. -/
  holdOff : Nat
  /-- Seconds. -/
  parkDeadline : Nat
  code : Nat
  mask : Nat
  deriving DecidableEq, Repr

/-- The parameters in force, R28 and R29. -/
structure Params where
  filterShift : Nat
  darkFloor : Nat
  resolution : Nat
  countClock : Nat
  scanInterval : Nat
  wipeTime : Nat
  efficiency : Nat
  passReserve : Nat
  transferCost : Nat
  /-- Hundreds of bit/s. -/
  linkRate : Nat
  replyWindow : Nat
  keyLead : Nat
  repeatLimit : Nat
  silenceLimit : Nat
  poolLow : Nat
  parkMargin : Nat
  boardTimeout : Nat
  anemometers : Table 4 AnemometerParams
  deriving DecidableEq, Repr

/-- A row of the site table in force, R24. An absent row has only its `present` flag. -/
structure SiteRow where
  present : Bool
  enabledAtStart : Bool
  block : Nat
  length : Nat
  yield : Nat
  station : Option StationIx
  road : Nat
  deriving DecidableEq, Repr

/-- Station config, R25. -/
structure StationConfig where
  used : Bool
  clean : Nat
  soiled : Nat
  deriving DecidableEq, Repr

/-- Robot config, R26. -/
structure RobotConfig where
  registered : Bool
  surfaceSensor : Bool
  block : Nat
  home : Nat
  speed : Nat
  epm : Nat
  deriving DecidableEq, Repr

/-- Shuttle config, R27. -/
structure ShuttleConfig where
  registered : Bool
  block : Nat
  shelter : Nat
  speed : Nat
  deriving DecidableEq, Repr

/-- Everything that RUN entry puts in force, R33 step 1. -/
structure Plant where
  site : Table 256 SiteRow
  stations : Table 16 StationConfig
  robots : Table 48 RobotConfig
  shuttles : Table 8 ShuttleConfig
  params : Params
  deriving DecidableEq, Repr

/-- The mode machine, R20, R21, R31, R77. -/
structure ModeUnit where
  mode : Mode
  refusal : RefusalCode
  refusalIndex : Nat
  clamped : Nat
  /-- R77: a SETUP request has been taken and waits for the end of the frame being sent. -/
  setupWaiting : Bool
  /-- R31: the words that this CHECKING had already read when the host rewrote them, with the values read. -/
  checkRead : List (Nat × Word)
  deriving DecidableEq, Repr

/-! ### Row state, robots, shuttles (chapter 2) -/

/-- Row state, R36. The candidate and forced flags are read from the candidate list (R123). -/
structure Row where
  tr : Nat
  enabled : Bool
  sheltered : Bool
  watch : Bool
  contested : Bool
  occupant : Option RobotId
  reserved : Option RobotId
  daily : Nat
  lastScore : Int
  cumLoss : Nat
  cumRecovered : Nat
  passEnergy : Nat
  passCount : Nat
  lastPassEnd : Nat
  deriving DecidableEq, Repr

/-- 6.5: the kind of a pass; a resumed pass names its context. -/
inductive PassKind where
  | fresh
  | resume (c : CtxIx)
  deriving DecidableEq, Repr

/-- 6.5: the phase of a pass. -/
inductive PassPhase where
  | issued | onRail
  deriving DecidableEq, Repr

/-- 6.5: a pass record. -/
structure Pass where
  row : RowId
  kind : PassKind
  phase : PassPhase
  covered : Nat
  furthestLeg : Leg
  furthestPosition : Nat
  energy : Nat
  deriving DecidableEq, Repr

/-- 9.5: what the storm supervisor keeps for a robot. -/
structure StormMarks where
  target : StormTarget
  /-- R193: it has reported RETURNING since its GOTO DOCK was acknowledged. -/
  enRoute : Bool
  /-- R198. -/
  release : Bool
  /-- R196: its GOTO DOCK has been acknowledged. -/
  acknowledged : Bool
  /-- R196: the last command failed or was superseded, and is set again at the next report. -/
  retry : Bool
  deriving DecidableEq, Repr

/-- A robot: its record (R37), its placement and surface-taken marks (R42, R103), the planner's state for it
(R144) and the supervisor's (9.5). Link state, error count, doze flag and noise count stand in the station table. -/
structure Robot where
  activity : Activity
  place : Place
  position : Nat
  leg : Leg
  soc : Nat
  meter : Nat
  faultCode : Nat
  lastHeard : Nat
  context : Option CtxIx
  placementMark : Bool
  surfaceTaken : Bool
  pass : Option Pass
  target : Option RowId
  noEchoBar : Bool
  recallMark : Bool
  homingMark : Bool
  storm : StormMarks
  deriving DecidableEq, Repr

/-- A queued transfer request, R147. -/
structure Request where
  robot : RobotId
  source : RowId
  destination : RowId
  cls : TransferClass
  origin : Option SlotIx
  deriving DecidableEq, Repr

/-- A transfer record, R153. -/
structure Transfer where
  robot : RobotId
  source : RowId
  destination : RowId
  cls : TransferClass
  origin : Option SlotIx
  stage : Stage
  /-- R161. -/
  stranded : Bool
  /-- R164, R165: an abort of BOARD is under way, with the detail its answer will carry. -/
  aborting : Option Nat
  deriving DecidableEq, Repr

/-- A shuttle: its record (R38) and the arbiter's queue and drive state. -/
structure Shuttle where
  state : ShuttleState
  road : Option Nat
  carried : Option RobotId
  transfer : Option Transfer
  queue : List Request
  /-- The stage or shelter-drive deadline; none while no deadline runs (R206). -/
  deadline : Option Nat
  /-- R146: the SHUTTLE GO of the drive under way has been acknowledged. -/
  goAcknowledged : Bool
  faultCode : Nat
  deriving DecidableEq, Repr

/-! ### FieldLink (chapter 3) -/

/-- A pending command, R60. The sequence is none until it is assigned (R65, R66). -/
structure PendingCommand where
  cmd : Cmd
  owner : Owner
  sequence : Option Byte
  sends : Nat
  deriving DecidableEq, Repr

/-- A station table entry, R60. The link state is read from the error counter (R70). -/
structure LinkEntry where
  inPollList : Bool
  errorCount : Nat
  doze : Bool
  recovery : Nat
  noise : Nat
  sequence : Byte
  synchronised : Bool
  command : Option PendingCommand
  baseline : Option Nat
  heldUrgent : Bool
  deriving DecidableEq, Repr

/-- An urgent queue entry, R63. -/
inductive Urgent where
  | park (record : AlertIx) (code mask : Byte)
  | station (id : LinkId)
  deriving DecidableEq, Repr

/-- A character to be sent: its marker bit and its value (R51, R54). -/
structure TxChar where
  marker : Bool
  value : Byte
  deriving DecidableEq, Repr

/-- The turn in progress: to whom (none for a broadcast), the frame in the transmit buffer, its sequence byte,
and the sequence of the pending command it sends, if it sends one. -/
structure Turn where
  station : Option LinkId
  frame : List TxChar
  sequence : Byte
  sentCommand : Option Byte
  deriving DecidableEq, Repr

/-- 3.4: where the line stands. -/
inductive LinePhase where
  /-- No turn in progress. -/
  | idle
  /-- The key is raised and the key lead runs. -/
  | keyLead (t : Turn)
  /-- The frame's characters are being sent. -/
  | sending (t : Turn)
  /-- The reply window of an addressed turn is open, or its reply is being received. -/
  | replyWindow (t : Turn)
  /-- The two idle character times after a broadcast frame. -/
  | broadcastGap
  deriving DecidableEq, Repr

/-- R53: the transmitter: the character being sent, the next one of the frame, which waits for its stop bit, and the
frame's characters behind them. -/
structure Transmitter where
  shift : Option TxChar
  holding : Option TxChar
  rest : List TxChar
  deriving DecidableEq, Repr

/-- The FieldLink controller. -/
structure LinkUnit where
  entries : Table 56 LinkEntry
  /-- R63: at most 16, head first. -/
  urgent : List Urgent
  /-- R63: the held broadcast count of each alert record. -/
  heldBroadcast : Table 8 Nat
  /-- R62. -/
  cursor : Option LinkId
  /-- R62, modulo 65536. -/
  cycle : Nat
  /-- R56. -/
  broadcastCount : Byte
  phase : LinePhase
  /-- R53: empty but while a frame's characters are being sent. -/
  transmitter : Transmitter
  deriving DecidableEq, Repr

/-! ### Scanner (chapter 4) -/

/-- A soiling station: its record (R97), its fresh mark (R100), its remembered state and pulse timer (R94). -/
structure Station where
  state : StationState
  remembered : StationState
  reseed : Bool
  /-- R93, kept whole inside the part (R206). -/
  lastValid : Nat
  saturation : Nat
  srf : Nat
  ts : Nat
  fresh : Bool
  /-- The site second at which the wiper pulse ends; none when no pulse runs. -/
  pulseEnd : Option Nat
  deriving DecidableEq, Repr

/-- A scan in flight, R83. -/
structure Scan where
  requested : Word
  /-- The measured set, less the stations dropped (R95). -/
  measured : Word
  /-- The channels still to measure; the head is being measured. -/
  channels : List Nat
  /-- The raw counts taken, by channel. -/
  raw : List (Nat × Nat)
  /-- R86: steps 1 to 3 are done, and the account unit has still to be told (step 4). -/
  telling : Bool
  deriving DecidableEq, Repr

/-- A held SCAN STATIONS order, R87. -/
structure ScanOrder where
  slot : SlotIx
  mask : Word
  covered : Bool
  deriving DecidableEq, Repr

/-- The reference scanner. -/
structure Scanner where
  scan : Option Scan
  pendingMask : Word
  orders : List ScanOrder
  /-- R85: the site second of the next periodic expiry; none while the timer is stopped. -/
  periodicDue : Option Nat
  deriving DecidableEq, Repr

/-! ### Accounts (chapter 5) -/

/-- The farm accounts, R116, and the DAY CLOSE held on a scan (R104). -/
structure Farm where
  totalLoss : Nat
  totalRecovered : Nat
  passEnergy : Nat
  transitEnergy : Nat
  shuttleEnergy : Nat
  completePasses : Nat
  partialPasses : Nat
  closeCount : Nat
  lastClose : Nat
  closeSlot : Option SlotIx
  deriving DecidableEq, Repr

/-! ### Rounds (chapter 6) -/

/-- The round record (R119), the candidate list (R123; the Bool is the forced flag), and the held STOP ROUND
RECALL orders (R141). -/
structure Round where
  state : RoundState
  number : Nat
  blocks : BitVec 8
  horizon : Nat
  leastLoss : Nat
  start : Nat
  windowEnd : Nat
  hardEnd : Nat
  graceMinutes : Nat
  held : Bool
  started : Nat
  complete : Nat
  partialCount : Nat
  assigned : Nat
  candidates : List (RowId × Bool)
  recalls : List SlotIx
  deriving DecidableEq, Repr

/-! ### Contexts (chapter 8) -/

/-- A context record, R168. -/
structure Context where
  link : Option CtxIx
  owner : Option RobotId
  row : Nat
  leg : Leg
  position : Nat
  covered : Nat
  energy : Nat
  roundNumber : Nat
  cause : ContextCause
  saved : Nat
  deriving DecidableEq, Repr

/-- The context pool, R169 and R172. -/
structure Pool where
  records : Table 96 Context
  head : Option CtxIx
  freeCount : Nat
  failedSaves : Nat
  armed : Bool
  deriving DecidableEq, Repr

/-! ### Storms (chapter 9) -/

/-- An alert record, R183, with its calm count (R186) and its set of robots (9.5). -/
structure Alert where
  code : Byte
  mask : Byte
  level : AlertLevel
  state : AlertState
  fault : Bool
  deadline : Nat
  holdOff : Nat
  toSecure : Nat
  secured : Nat
  late : Nat
  heldSlot : Option SlotIx
  calm : Nat
  members : Table 48 Member
  deriving DecidableEq, Repr

/-- An anemometer, R180 and R181. -/
structure Anemometer where
  pulses : Nat
  /-- The speeds held, latest first, at most 200. -/
  speeds : List Nat
  gust : Nat
  /-- The site second at which the window under way ends; none while windows do not run. -/
  windowDue : Option Nat
  deriving DecidableEq, Repr

/-! ### Mirrors (1.2) -/

/-- What the part keeps for one mirror, R3 and R4. `rewrite` holds the words still to be written by the rewrite in
progress, as the master stood when it began. -/
structure Mirror where
  count : Nat
  pending : Bool
  rewrite : Option (List (Nat × Word))
  deriving DecidableEq, Repr

/-- The mirrors of R4. -/
structure Mirrors where
  farm : Mirror
  alerts : Table 8 Mirror
  stations : Table 16 Mirror
  shuttles : Table 8 Mirror
  robots : Table 48 Mirror
  rows : Table 256 Mirror
  contexts : Table 96 Mirror
  deriving DecidableEq, Repr

/-! ### Notices between the blocks of the part -/

/-- A STATUS from a robot as delivered, R57. -/
structure RobotReport where
  activity : Activity
  row : RowId
  position : Nat
  leg : Leg
  soc : Nat
  meter : Nat
  echo : Byte
  faultCode : Nat
  surface : Option Nat
  deriving DecidableEq, Repr

/-- A STATUS from a shuttle as delivered, R58. -/
structure ShuttleReport where
  state : ShuttleReported
  road : Nat
  carried : Option RobotId
  echo : Byte
  faultCode : Nat
  meter : Nat
  deriving DecidableEq, Repr

/-- What FieldLink tells the owner of a command, R65, R67, R68. -/
inductive Told where
  | delivered
  | noEcho
  | superseded (by_ : Cmd)
  deriving DecidableEq, Repr

/-- What the arbiter reports to the planner on a ROUND request, R131. -/
inductive TransferReport where
  | ended | failed | cancelled
  deriving DecidableEq, Repr

/-- A notice from one block of the part to another (2.1), waiting to be acted on within the command that gave rise
to it. -/
inductive Job where
  /-- FieldLink tells a command's owner what became of it. -/
  | told (id : LinkId) (owner : Owner) (cmd : Cmd) (what : Told)
  /-- R68: the repeat limit is checked at the end of a turn that sent the command with this sequence. -/
  | repeatLimit (id : LinkId) (sequence : Byte)
  /-- R71: a robot's link has become LOST. -/
  | robotLost (r : RobotId)
  /-- R39: a STATUS of a robot is delivered, with its energy difference (R76). -/
  | robotStatus (r : RobotId) (rep : RobotReport) (diff : Nat)
  /-- R40. -/
  | shuttleStatus (k : ShuttleIx) (rep : ShuttleReport) (diff : Nat)
  /-- R39 step 4: the account unit's share of a robot's report. -/
  | accountReport (r : RobotId) (rep : RobotReport) (diff : Nat)
  /-- The planner's share. -/
  | plannerReport (r : RobotId) (rep : RobotReport) (diff : Nat)
  /-- The arbiter's share. -/
  | arbiterReport (r : RobotId) (rep : RobotReport)
  /-- The supervisor's share. -/
  | stormReport (r : RobotId) (rep : RobotReport)
  /-- R128. -/
  | examine (r : RobotId)
  /-- R128, for every robot of a block. -/
  | examineBlock (b : Nat)
  /-- R131. -/
  | transferReport (r : RobotId) (row : RowId) (what : TransferReport)
  /-- R143: the close condition is checked. -/
  | closeCheck
  /-- R152: the start rule of a shuttle is evaluated. -/
  | startRule (k : ShuttleIx)
  /-- R138: these rows have become sheltered or watch. -/
  | rowsCovered (rows : List RowId)
  /-- R165: rows of this block have become sheltered. -/
  | rowsSheltered (b : Nat)
  /-- R198: these rows have stopped being sheltered. -/
  | rowsReleased (rows : List RowId)
  /-- R166, R152: a row of this block has stopped being sheltered or watch. -/
  | blockCalmer (b : Nat)
  /-- R86: the scan in flight has made its last measurement. -/
  | scanComplete
  deriving DecidableEq, Repr

/-! ### Outcomes -/

/-- Why the machine stops. -/
inductive Fault where
  /-- Raised by HOST_MEMORY_WRITE at an address of 0x8000 or above: the part has 15 address pins (11.8), so no such
  word exists (R1). Safe: the machine stops where no hardware could be asked to go on. -/
  | noSuchAddress
  deriving DecidableEq, Repr

/-- Why a command has no meaning. -/
inductive Refusal where
  /-- Raised by a refused arm of `exec` only: the command of this mnemonic is not modelled. Safe. No arm raises it. -/
  | notModelled (mnemonic : String)
  deriving DecidableEq, Repr

/-! ### The state -/

/-- The FC48. -/
structure State where
  /-- The MODEL's own: the commands that wait, first in, first out. -/
  pending : List Instr
  /-- The MODEL's own: how many outcomes of `Config.partWasFirst` have been used. -/
  freeCount : Nat
  /-- The MODEL's own: notices between blocks not yet acted on; empty between commands (assumption 12). -/
  agenda : List Job
  /-- R23: the level of the reset pin; true while it is asserted. -/
  resetHeld : Bool
  /-- Site seconds since the last reset, a 32-bit count (Conventions). -/
  siteSecond : Nat
  board : Board
  /-- The exchange memory below the registers, R1: (address, word) pairs in canonical form. -/
  memory : List (Nat × Word)
  mirrors : Mirrors
  modes : ModeUnit
  plant : Plant
  rows : Table 256 Row
  robots : Table 48 Robot
  shuttles : Table 8 Shuttle
  stations : Table 16 Station
  link : LinkUnit
  scanner : Scanner
  farm : Farm
  round : Round
  pool : Pool
  alerts : Table 8 Alert
  anemometers : Table 4 Anemometer
  deriving DecidableEq, Repr

/-! ### Power-on values -/

/-- The default anemometer set, R29. -/
def AnemometerParams.default : AnemometerParams :=
  { metres := 700, watchGust := 120, parkGust := 180, parkMean := 140, releaseMean := 80, holdOff := 30,
    parkDeadline := 300, code := 0, mask := 0 }

/-- The default parameters, R29. -/
def Params.default : Params :=
  { filterShift := 2, darkFloor := 4096, resolution := 14, countClock := 4, scanInterval := 10, wipeTime := 20,
    efficiency := 230, passReserve := 40, transferCost := 12, linkRate := 192, replyWindow := 40, keyLead := 5,
    repeatLimit := 8, silenceLimit := 0, poolLow := 8, parkMargin := 30, boardTimeout := 120,
    anemometers := tfill 4 AnemometerParams.default }

def SiteRow.absent : SiteRow :=
  { present := false, enabledAtStart := false, block := 0, length := 0, yield := 0, station := none, road := 0 }

def StationConfig.unused : StationConfig := { used := false, clean := 0, soiled := 0 }

def RobotConfig.unregistered : RobotConfig :=
  { registered := false, surfaceSensor := false, block := 0, home := 0, speed := 0, epm := 0 }

def ShuttleConfig.unregistered : ShuttleConfig := { registered := false, block := 0, shelter := 0, speed := 0 }

/-- The plant before any RUN entry: nothing present, default parameters (DESIGN CHOICE, assumption 6). -/
def Plant.empty : Plant :=
  { site := tfill 256 SiteRow.absent, stations := tfill 16 StationConfig.unused,
    robots := tfill 48 RobotConfig.unregistered, shuttles := tfill 8 ShuttleConfig.unregistered,
    params := Params.default }

def Slot.empty : Slot := { state := .free, tag := 0, abortRequested := false }

/-- R23. -/
def Board.afterReset (cause : ResetCause) : Board :=
  { slots := tfill 16 Slot.empty, intake := [], orderRegister := [], notice := 0, enable := 0, modeRequest := false,
    statusPage := false, resetCause := cause, silenceStart := none, silent := false }

/-- R23, R30. -/
def ModeUnit.afterReset : ModeUnit :=
  { mode := .setup, refusal := .none, refusalIndex := 0, clamped := 0, setupWaiting := false, checkRead := [] }

/-- R36, power-on column. -/
def Row.powerOn : Row :=
  { tr := 32768, enabled := false, sheltered := false, watch := false, contested := false, occupant := none,
    reserved := none, daily := 0, lastScore := 0, cumLoss := 0, cumRecovered := 0, passEnergy := 0, passCount := 0,
    lastPassEnd := 0 }

def StormMarks.clear : StormMarks :=
  { target := .none, enRoute := false, release := false, acknowledged := false, retry := false }

/-- R37, after every reset. -/
def Robot.afterReset : Robot :=
  { activity := .unknown, place := .unknown, position := 0, leg := .out, soc := 0, meter := 0, faultCode := 0,
    lastHeard := 0, context := none, placementMark := false, surfaceTaken := false, pass := none, target := none,
    noEchoBar := false, recallMark := false, homingMark := false, storm := StormMarks.clear }

/-- R38, after every reset. -/
def Shuttle.afterReset : Shuttle :=
  { state := .idle, road := none, carried := none, transfer := none, queue := [], deadline := none,
    goAcknowledged := false, faultCode := 0 }

/-- R60, "any reset" column. -/
def LinkEntry.afterReset : LinkEntry :=
  { inPollList := false, errorCount := 0, doze := false, recovery := 0, noise := 0, sequence := 0,
    synchronised := false, command := none, baseline := none, heldUrgent := false }

/-- R53: no character is being sent. -/
def Transmitter.empty : Transmitter := { shift := none, holding := none, rest := [] }

def LinkUnit.afterReset : LinkUnit :=
  { entries := tfill 56 LinkEntry.afterReset, urgent := [], heldBroadcast := tfill 8 0, cursor := none, cycle := 0,
    broadcastCount := 0, phase := .idle, transmitter := Transmitter.empty }

/-- R97 and R117, power-on columns. -/
def Station.powerOn : Station :=
  { state := .unused, remembered := .unused, reseed := true, lastValid := 0, saturation := 0, srf := 32768,
    ts := 32768, fresh := false, pulseEnd := none }

def Scanner.afterReset : Scanner := { scan := none, pendingMask := 0, orders := [], periodicDue := none }

/-- R116, R117, power-on. -/
def Farm.powerOn : Farm :=
  { totalLoss := 0, totalRecovered := 0, passEnergy := 0, transitEnergy := 0, shuttleEnergy := 0,
    completePasses := 0, partialPasses := 0, closeCount := 0, lastClose := 0, closeSlot := none }

/-- R119, after every reset. -/
def Round.afterReset : Round :=
  { state := .idle, number := 0, blocks := 0, horizon := 0, leastLoss := 0, start := 0, windowEnd := 0, hardEnd := 0,
    graceMinutes := 0, held := false, started := 0, complete := 0, partialCount := 0, assigned := 0,
    candidates := [], recalls := [] }

/-- R170: record `n` of the re-formed pool links to record `n + 1`, and record 95 to none. -/
def Context.reformed (n : CtxIx) : Context :=
  { link := if h : n.1 + 1 < 96 then some ⟨n.1 + 1, h⟩ else none, owner := none, row := 0, leg := .out,
    position := 0, covered := 0, energy := 0, roundNumber := 0, cause := .none, saved := 0 }

/-- R170: the pool re-formed. -/
def Pool.reformed : Pool :=
  { records := tabulate Context.reformed, head := some 0, freeCount := 96, failedSaves := 0, armed := true }

/-- R183, after every reset. -/
def Alert.afterReset : Alert :=
  { code := 0, mask := 0, level := .none, state := .free, fault := false, deadline := 0, holdOff := 0,
    toSecure := 0, secured := 0, late := 0, heldSlot := none, calm := 0, members := tfill 48 .out }

def Anemometer.afterReset : Anemometer := { pulses := 0, speeds := [], gust := 0, windowDue := none }

/-- R23: change count 0, rewrite pending. -/
def Mirror.afterReset : Mirror := { count := 0, pending := true, rewrite := none }

def Mirrors.afterReset : Mirrors :=
  { farm := Mirror.afterReset, alerts := tfill 8 Mirror.afterReset, stations := tfill 16 Mirror.afterReset,
    shuttles := tfill 8 Mirror.afterReset, robots := tfill 48 Mirror.afterReset, rows := tfill 256 Mirror.afterReset,
    contexts := tfill 96 Mirror.afterReset }

/-- The machine right after a power-on reset (R23 and the reset tables of each chapter). Memory lists nothing: the
order slots and every host-written region are undefined after power-on (R23), and an unlisted word reads as 0
(assumption 5). -/
def State.reset : State :=
  { pending := [], freeCount := 0, agenda := [], resetHeld := false, siteSecond := 0,
    board := Board.afterReset .powerOn, memory := [], mirrors := Mirrors.afterReset, modes := ModeUnit.afterReset,
    plant := Plant.empty, rows := tfill 256 Row.powerOn, robots := tfill 48 Robot.afterReset,
    shuttles := tfill 8 Shuttle.afterReset, stations := tfill 16 Station.powerOn, link := LinkUnit.afterReset,
    scanner := Scanner.afterReset, farm := Farm.powerOn, round := Round.afterReset, pool := Pool.reformed,
    alerts := tfill 8 Alert.afterReset, anemometers := tfill 4 Anemometer.afterReset }

end Sys2Proof.Machine
end

