-- ==== Sys2Proof/Machine/Codes.lean ====
section
/-!
DEFINITION. The code values of R203: what every named value is written as in a record, an answer, STATUS or a
frame. A state code that serves as a REFUSED-STATE detail has two values: `detail` and `code` (the column "In
records").
-/

namespace Sys2Proof.Machine

/-- R203: word 16 of an answer. -/
def AnswerClass.code : AnswerClass → Nat
  | .done => 1 | .doneLateAbort => 2 | .aborted => 3 | .refusedMode => 4 | .refusedRange => 5 | .refusedState => 6
  | .refusedBusy => 7 | .failed => 8 | .unknownOrder => 9

/-- R203: robot activity, the same as a detail, in a record and in a frame. -/
def Activity.code : Activity → Nat
  | .unknown => 0 | .docked => 1 | .cleaning => 2 | .returning => 3 | .clamped => 4 | .boarding => 5 | .aboard => 6
  | .alighting => 7 | .halted => 8 | .fault => 9 | .withdrawn => 10

/-- R203, R39: the activity of a reported code. A code outside the nine that a robot reports is taken as FAULT. -/
def Activity.ofReport : Nat → Activity
  | 1 => .docked | 2 => .cleaning | 3 => .returning | 4 => .clamped | 5 => .boarding | 6 => .aboard
  | 7 => .alighting | 8 => .halted | _ => .fault

/-- R203: shuttle state in a record. -/
def ShuttleState.code : ShuttleState → Nat
  | .idle => 0 | .fetch => 1 | .board => 2 | .carry => 3 | .alight => 4 | .toShelter => 5 | .sheltered => 6
  | .fault => 7 | .withdrawn => 8

/-- R203: shuttle state as a REFUSED-STATE detail. -/
def ShuttleState.detail (x : ShuttleState) : Nat := 0x10 + x.code

/-- R207: the shuttle's reported state byte. A code outside the four is delivered as FAULT (R58). -/
def ShuttleReported.ofByte : Nat → ShuttleReported
  | 1 => .stopped | 2 => .driving | 3 => .halted | _ => .fault

/-- R203: round state in a record. -/
def RoundState.code : RoundState → Nat
  | .idle => 0 | .active => 1 | .winding => 2 | .recalling => 3

/-- R203: round state as a detail and in a result word. -/
def RoundState.detail (x : RoundState) : Nat := 0x20 + x.code

/-- R203: soiling station state in a record. -/
def StationState.code : StationState → Nat
  | .unused => 0 | .ok => 1 | .dark => 2 | .fault => 3 | .wiping => 4

/-- R203: soiling station state as a detail. -/
def StationState.detail (x : StationState) : Nat := 0x30 + x.code

/-- R203: alert state in a record. -/
def AlertState.code : AlertState → Nat
  | .free => 0 | .watch => 1 | .parking => 2 | .parked => 3 | .releasing => 4

/-- R203: alert state as a detail and in a result word. -/
def AlertState.detail (x : AlertState) : Nat := 0x40 + x.code

/-! R203: the named REFUSED-STATE details. -/
def Detail.absent : Nat := 0x80
def Detail.otherBlock : Nat := 0x81
def Detail.contested : Nat := 0x82
def Detail.occupied : Nat := 0x83
def Detail.reserved : Nat := 0x84
def Detail.clear : Nat := 0x85
def Detail.notRegistered : Nat := 0x86
def Detail.transfer : Nat := 0x87
def Detail.disabled : Nat := 0x88
def Detail.pass : Nat := 0x89
def Detail.context : Nat := 0x8A
def Detail.linkLost : Nat := 0x8B
def Detail.sheltered : Nat := 0x8C
def Detail.watch : Nat := 0x8D
def Detail.noShuttle : Nat := 0x8E

/-- R203: FAILED details of MOVE ROBOT. -/
def TransferCause.code : TransferCause → Nat
  | .fetch => 1 | .board => 2 | .carry => 3 | .alight => 4 | .conflict => 5 | .place => 6 | .shuttle => 7

/-- R203: RUN-entry refusal codes. -/
def RefusalCode.code : RefusalCode → Nat
  | .none => 0 | .rowLength => 1 | .rowBlock => 2 | .rowStation => 3 | .channelRange => 4 | .channelReused => 5
  | .robotHome => 6 | .homeShared => 7 | .shuttleBlock => 8 | .shuttleShared => 9 | .fleetActive => 10

/-- R203. -/
def LinkState.code : LinkState → Nat
  | .linked => 0 | .weak => 1 | .mute => 2 | .lost => 3

/-- R203, R206: place kind. -/
def Place.kindCode : Place → Nat
  | .unknown => 0 | .row _ => 1 | .shuttle _ => 2

/-- R206: place index; 0 with kind UNKNOWN. -/
def Place.index : Place → Nat
  | .unknown => 0 | .row r => r.1 | .shuttle k => k.1

/-- R203. -/
def Leg.code : Leg → Nat
  | .out => 0 | .back => 1

/-- R57: a leg code other than BACK is delivered as OUT. -/
def Leg.ofByte (b : Nat) : Leg := if b = 1 then .back else .out

/-- R203. -/
def TransferClass.code : TransferClass → Nat
  | .host => 0 | .round => 1

/-- R203. -/
def Stage.code : Stage → Nat
  | .fetch => 1 | .board => 2 | .carry => 3 | .alight => 4

/-- R203. -/
def ContextCause.code : ContextCause → Nat
  | .none => 0 | .storm => 1 | .lowBattery => 2 | .hardEnd => 3 | .halted => 4 | .fault => 5 | .linkLost => 6

/-- R203. -/
def AlertLevel.code : AlertLevel → Nat
  | .none => 0 | .watch => 1 | .park => 2

/-- R202: STATUS mode field. -/
def Mode.code : Mode → Nat
  | .setup => 0 | .checking => 1 | .run => 2

/-- R202: STATUS storm field; also the rank of R185. -/
def StormSummary.code : StormSummary → Nat
  | .calm => 0 | .watch => 1 | .releasing => 2 | .parked => 3 | .parking => 4

/-- R201: reset cause field of ID. -/
def ResetCause.code : ResetCause → Nat
  | .powerOn => 1 | .pin => 2 | .soft => 3

/-- R201: the bit of a notice. -/
def Notice.bit : Notice → Nat
  | .answer => 0 | .postCollision => 1 | .hostSilent => 2 | .linkState => 3 | .storm => 4 | .parkLate => 5
  | .poolLow => 6 | .poolEmpty => 7 | .roundEnd => 8 | .stationFault => 9 | .scanDone => 10
  | .anemometerFault => 11 | .placementConflict => 12

/-- R207: SHUTTLE GO purpose byte. -/
def Purpose.code : Purpose → Nat
  | .fetch => 1 | .carry => 2 | .shelter => 3

/-- R207: kind byte of a command. -/
def Cmd.kindByte : Cmd → Nat
  | .clean _ _ _ => 0x10 | .gotoDock => 0x11 | .clamp => 0x12 | .halt => 0x13 | .doze => 0x14 | .wake => 0x15
  | .board _ => 0x16 | .alight _ => 0x17 | .shuttleGo _ _ => 0x18

/-- R207: kind bytes of the frames that are not commands. -/
def FrameKind.poll : Nat := 0x01
def FrameKind.probe : Nat := 0x02
def FrameKind.park : Nat := 0x20
def FrameKind.status : Nat := 0x40

end Sys2Proof.Machine
end

