-- ==== Sys2Proof/Machine/Ops.lean ====
section
/-!
DEFINITION. The shared operations: arithmetic with clamps and saturation, site seconds, the exchange memory, one
update per record array, the mirrors, the setting of notices, the writing of answers, and the agenda of notices
between blocks.
-/

namespace Sys2Proof.Machine

/-! ### Arithmetic -/

/-- ceil(a / b), Conventions. -/
def ceilDiv (a b : Nat) : Nat := (a + b - 1) / b

/-- R115: an addition that saturates at the field's largest value. -/
def satAdd (cap a b : Nat) : Nat := min cap (a + b)

/-- The largest value of a 32-bit account. -/
def max32 : Nat := 0xFFFFFFFF
/-- The largest value of a 16-bit count. -/
def max16 : Nat := 0xFFFF

/-- The nearest limit of `lo..hi`, R29. -/
def clampTo (lo hi v : Nat) : Nat := if v < lo then lo else if hi < v then hi else v

/-- |a - b|. -/
def absDiff (a b : Nat) : Nat := if a ≤ b then b - a else a - b

/-- 1 for true. -/
def bitOf (b : Bool) : Nat := if b then 1 else 0

/-- The low word of a 32-bit quantity, R200. -/
def lowWord (n : Nat) : Word := BitVec.ofNat 16 n
/-- The high word of a 32-bit quantity, R200. -/
def highWord (n : Nat) : Word := BitVec.ofNat 16 (n / 65536)
/-- A quantity as one word. -/
def word (n : Nat) : Word := BitVec.ofNat 16 n
/-- Two's complement of a signed 32-bit quantity as a number below 2^32, R200. -/
def signed32 (z : Int) : Nat := (z % 4294967296).toNat

/-! ### Site seconds -/

/-- The site second `d` seconds from now, in the 32-bit count. -/
def later (s : State) (d : Nat) : Nat := (s.siteSecond + d) % 4294967296

/-- The expiry of a timer due at `t` comes when the site second has reached `t` (assumption 4). -/
def advanceTo (t : Nat) (s : State) : State := { s with siteSecond := max s.siteSecond t }

/-- R53: the frame's first character goes into the shift character and its second waits in the holding character. -/
def Transmitter.load (frame : List TxChar) : Transmitter :=
  { shift := frame[0]?, holding := frame[1]?, rest := frame.drop 2 }

/-- R53: a stop bit ends: the holding character moves into the shift character, and the next character of the frame
waits in its place. -/
def Transmitter.advance (x : Transmitter) : Transmitter :=
  { shift := x.holding, holding := x.rest.head?, rest := x.rest.tail }

/-- What passes while no command waits: in reset nothing; while a character waits behind the one being sent, the stop
bit of that one (R53); else one site second (assumption 3). -/
def idleTick (s : State) : State :=
  if s.resetHeld then s
  else if s.link.transmitter.holding.isSome then
    { s with link := { s.link with transmitter := s.link.transmitter.advance } }
  else { s with siteSecond := (s.siteSecond + 1) % 4294967296 }

/-! ### Exchange memory -/

/-- What a word reads as: the listed word, and 0 where none is listed (assumption 5). -/
def Memory.read : List (Nat × Word) → Nat → Word
  | [], _ => 0
  | (b, w) :: rest, a => if a = b then w else Memory.read rest a

/-- A write keeps the addresses rising and lists no word equal to what an unlisted address reads as. -/
def Memory.write : List (Nat × Word) → Nat → Word → List (Nat × Word)
  | [], a, v => if v = 0 then [] else [(a, v)]
  | (b, w) :: rest, a, v =>
    if a < b then (if v = 0 then (b, w) :: rest else (a, v) :: (b, w) :: rest)
    else if a = b then (if v = 0 then rest else (a, v) :: rest)
    else (b, w) :: Memory.write rest a v

/-- Several writes, in order. -/
def Memory.writeAll (m : List (Nat × Word)) (ws : List (Nat × Word)) : List (Nat × Word) :=
  ws.foldl (fun acc p => Memory.write acc p.1 p.2) m

/-- The canonical form: addresses strictly rising, no listed word 0. -/
def Memory.wf : List (Nat × Word) → Bool
  | [] => true
  | [(_, w)] => w != 0
  | (a, w) :: (b, w') :: rest => w != 0 && decide (a < b) && Memory.wf ((b, w') :: rest)

/-- Words with consecutive addresses. -/
def addressed : Nat → List Word → List (Nat × Word)
  | _, [] => []
  | a, w :: ws => (a, w) :: addressed (a + 1) ws

/-- The word the exchange memory holds at an address below the registers. -/
def State.mem (s : State) (a : Nat) : Word := Memory.read s.memory a

/-! ### Record updates -/

def modRow (r : RowId) (f : Row → Row) (s : State) : State := { s with rows := tset s.rows r (f (tget s.rows r)) }
def modRobot (r : RobotId) (f : Robot → Robot) (s : State) : State :=
  { s with robots := tset s.robots r (f (tget s.robots r)) }
def modShuttle (k : ShuttleIx) (f : Shuttle → Shuttle) (s : State) : State :=
  { s with shuttles := tset s.shuttles k (f (tget s.shuttles k)) }
def modStation (n : StationIx) (f : Station → Station) (s : State) : State :=
  { s with stations := tset s.stations n (f (tget s.stations n)) }
def modAlert (n : AlertIx) (f : Alert → Alert) (s : State) : State :=
  { s with alerts := tset s.alerts n (f (tget s.alerts n)) }
def modAnemometer (a : AnemIx) (f : Anemometer → Anemometer) (s : State) : State :=
  { s with anemometers := tset s.anemometers a (f (tget s.anemometers a)) }
def modContext (c : CtxIx) (f : Context → Context) (s : State) : State :=
  { s with pool := { s.pool with records := tset s.pool.records c (f (tget s.pool.records c)) } }
def modEntry (i : LinkId) (f : LinkEntry → LinkEntry) (s : State) : State :=
  { s with link := { s.link with entries := tset s.link.entries i (f (tget s.link.entries i)) } }
def modSlot (n : SlotIx) (f : Slot → Slot) (s : State) : State :=
  { s with board := { s.board with slots := tset s.board.slots n (f (tget s.board.slots n)) } }
def modBoard (f : Board → Board) (s : State) : State := { s with board := f s.board }
def modModes (f : ModeUnit → ModeUnit) (s : State) : State := { s with modes := f s.modes }
def modLink (f : LinkUnit → LinkUnit) (s : State) : State := { s with link := f s.link }
def modScanner (f : Scanner → Scanner) (s : State) : State := { s with scanner := f s.scanner }
def modFarm (f : Farm → Farm) (s : State) : State := { s with farm := f s.farm }
def modRound (f : Round → Round) (s : State) : State := { s with round := f s.round }
def modPool (f : Pool → Pool) (s : State) : State := { s with pool := f s.pool }

/-! ### Mirrors (R3, R4) -/

/-- A mirror's own state. -/
def mirrorOf (s : State) : MirrorId → Mirror
  | .farm => s.mirrors.farm
  | .alert n => tget s.mirrors.alerts n
  | .station n => tget s.mirrors.stations n
  | .shuttle n => tget s.mirrors.shuttles n
  | .robot n => tget s.mirrors.robots n
  | .row n => tget s.mirrors.rows n
  | .context n => tget s.mirrors.contexts n

/-- The mirrors with one replaced. -/
def Mirrors.replace (ms : Mirrors) (m : MirrorId) (x : Mirror) : Mirrors :=
  match m with
  | .farm => { ms with farm := x }
  | .alert n => { ms with alerts := tset ms.alerts n x }
  | .station n => { ms with stations := tset ms.stations n x }
  | .shuttle n => { ms with shuttles := tset ms.shuttles n x }
  | .robot n => { ms with robots := tset ms.robots n x }
  | .row n => { ms with rows := tset ms.rows n x }
  | .context n => { ms with contexts := tset ms.contexts n x }

/-- One mirror's state changes. -/
def modMirror (m : MirrorId) (f : Mirror → Mirror) (s : State) : State :=
  { s with mirrors := s.mirrors.replace m (f (mirrorOf s m)) }

/-- R4: a mirror is marked for rewrite by name, where a rule says so whether or not a shown field changes. -/
def markRewrite (m : MirrorId) (s : State) : State := modMirror m (fun x => { x with pending := true }) s

/-! ### Short reads -/

def State.row (s : State) (r : RowId) : Row := tget s.rows r
def State.robot (s : State) (r : RobotId) : Robot := tget s.robots r
def State.shuttle (s : State) (k : ShuttleIx) : Shuttle := tget s.shuttles k
def State.station (s : State) (n : StationIx) : Station := tget s.stations n
def State.alert (s : State) (n : AlertIx) : Alert := tget s.alerts n
def State.entry (s : State) (i : LinkId) : LinkEntry := tget s.link.entries i
def State.slot (s : State) (n : SlotIx) : Slot := tget s.board.slots n
def State.context (s : State) (c : CtxIx) : Context := tget s.pool.records c
def State.site (s : State) (r : RowId) : SiteRow := tget s.plant.site r
def State.robotConfig (s : State) (r : RobotId) : RobotConfig := tget s.plant.robots r
def State.shuttleConfig (s : State) (k : ShuttleIx) : ShuttleConfig := tget s.plant.shuttles k
def State.stationConfig (s : State) (n : StationIx) : StationConfig := tget s.plant.stations n
def State.params (s : State) : Params := s.plant.params

/-- The FieldLink id of a robot. -/
def robotLink (r : RobotId) : LinkId := ⟨r.1, by omega⟩
/-- The FieldLink id of a shuttle record, R27. -/
def shuttleLink (k : ShuttleIx) : LinkId := ⟨48 + k.1, by omega⟩

/-- R70: the link state follows the error counter. -/
def linkStateOf (errorCount : Nat) : LinkState :=
  if errorCount < 96 then .linked else if errorCount < 128 then .weak else if errorCount < 256 then .mute else .lost

def LinkEntry.state (e : LinkEntry) : LinkState := linkStateOf e.errorCount

/-- The link state of a robot. -/
def State.robotLinkState (s : State) (r : RobotId) : LinkState := (s.entry (robotLink r)).state

/-! ### Notices, agenda, answers -/

/-- R16: an event sets its notice bit. -/
def setNotice (n : Notice) (s : State) : State :=
  modBoard (fun b => { b with notice := b.notice ||| (1#13 <<< n.bit) }) s

/-- One block tells another; the notice is acted on within the same command. -/
def push (j : Job) (s : State) : State := { s with agenda := s.agenda ++ [j] }

/-- Notices in order. -/
def pushAll (js : List Job) (s : State) : State := { s with agenda := s.agenda ++ js }

/-- The first word of a slot, 11.5. -/
def slotBase (n : SlotIx) : Nat := Config.orderBoardBase + 32 * n.1

/-- Words 0 to 15 of a slot as memory holds them, R5. -/
def slotWords (s : State) (n : SlotIx) : List Word := (List.range 16).map fun i => s.mem (slotBase n + i)

/-- The thirteen result words: those given, then 0 (R11). -/
def padResults (results : List Word) : List Word := (List.range 13).map fun i => results.getD i 0

/-- R11: an answer is written into words 16 to 31, the slot moves from HELD to ANSWERED, its abort request is
cleared, and the ANSWER notice is set. A slot answered while it waits in the intake queue leaves the queue (R14). -/
def answer (n : SlotIx) (cls : AnswerClass) (detail : Nat) (results : List Word) (s : State) : State :=
  let words := word cls.code :: word detail :: (s.slot n).tag :: padResults results
  let s := { s with memory := Memory.writeAll s.memory (addressed (slotBase n + 16) words) }
  let s := modBoard (fun b => { b with intake := b.intake.filter (fun m => decide (m ≠ n)) }) s
  let s := modSlot n (fun x => { x with state := .answered, abortRequested := false }) s
  setNotice .answer s

/-- The free value of a race between a host write and the part, and the state in which it has been used. -/
def takeFree (s : State) : Bool × State :=
  (Config.partWasFirst s.freeCount, { s with freeCount := s.freeCount + 1 })

/-- Apply an update for each element, in order. -/
def forEach {α : Type} (xs : List α) (f : α → State → State) (s : State) : State :=
  xs.foldl (fun acc x => f x acc) s

/-- All robots in ascending id. -/
def allRobots : List RobotId := List.finRange 48
/-- All rows in ascending number. -/
def allRows : List RowId := List.finRange 256
def allShuttles : List ShuttleIx := List.finRange 8
def allStations : List StationIx := List.finRange 16
def allAlerts : List AlertIx := List.finRange 8
def allSlots : List SlotIx := List.finRange 16
def allLinks : List LinkId := List.finRange 56
/-- The eight plant blocks. -/
def allBlocks : List Nat := List.range 8

end Sys2Proof.Machine
end

