-- ==== Sys2Proof/Machine/Flags.lean ====
section
/-!
DEFINITION. Everything the part shows that is computed from other state: the register reads, the interrupt output,
the pins, the block-clear outputs, the row flags that the alert table gives, and the storm summary.
-/

namespace Sys2Proof.Machine

/-! ### Rows, alerts, storm summary -/

/-- R184: row r matches a code and mask when (r xor code) and mask is 0. -/
def rowMatches (r : RowId) (code mask : Byte) : Bool := (BitVec.ofNat 8 r.1 ^^^ code) &&& mask == 0

def Alert.covers (a : Alert) (r : RowId) : Bool := rowMatches r a.code a.mask

/-- R184: the states in which a record shelters its rows. -/
def AlertState.shelters : AlertState → Bool
  | .parking | .parked | .releasing => true
  | .free | .watch => false

/-- R184: a present row is sheltered while any record in PARKING, PARKED or RELEASING matches it. -/
def shelteredBy (s : State) (r : RowId) : Bool :=
  (s.site r).present && allAlerts.any fun n => (s.alert n).state.shelters && (s.alert n).covers r

/-- R184: a present row is watched while any record in WATCH matches it. -/
def watchedBy (s : State) (r : RowId) : Bool :=
  (s.site r).present && allAlerts.any fun n => (s.alert n).state == .watch && (s.alert n).covers r

/-- R185: what one record's state counts as in the summary. -/
def AlertState.summary : AlertState → StormSummary
  | .free => .calm | .watch => .watch | .releasing => .releasing | .parked => .parked | .parking => .parking

/-- The higher of two summaries by the rank of R185. -/
def StormSummary.higher (a b : StormSummary) : StormSummary := if a.code < b.code then b else a

/-- R185: the storm summary is the highest state present among the 8 records. -/
def stormSummary (s : State) : StormSummary :=
  allAlerts.foldl (fun acc n => acc.higher (s.alert n).state.summary) .calm

/-! ### Plant lookups -/

/-- The block of a row in the site table in force. -/
def blockOf (s : State) (r : RowId) : Nat := (s.site r).block

/-- A present row of a block. -/
def inBlock (s : State) (b : Nat) (r : RowId) : Bool := (s.site r).present && (s.site r).block == b

/-- R27: the registered shuttle of a block. -/
def shuttleOf (s : State) (b : Nat) : Option ShuttleIx :=
  allShuttles.find? fun k => (s.shuttleConfig k).registered && (s.shuttleConfig k).block == b

/-- Some row of the block is sheltered. -/
def blockSheltered (s : State) (b : Nat) : Bool := allRows.any fun r => inBlock s b r && (s.row r).sheltered

/-- R123: a row is in the candidate list exactly while its candidate flag is set. -/
def isCandidate (s : State) (r : RowId) : Bool := s.round.candidates.any fun p => p.1 == r

/-- R123: the forced flag. -/
def isForced (s : State) (r : RowId) : Bool := s.round.candidates.any fun p => p.1 == r && p.2

/-- The row a robot is placed at. -/
def Robot.row? (b : Robot) : Option RowId := match b.place with | .row r => some r | _ => none

/-- R37: the pass row shown in the robot record. -/
def Robot.passRow (b : Robot) : Option RowId := b.pass.map (·.row)

/-- A robot that is registered and not WITHDRAWN. -/
def inFleet (s : State) (r : RobotId) : Bool :=
  (s.robotConfig r).registered && (s.robot r).activity != .withdrawn

/-- The block a robot is placed in, R50: the block of its place row or of the shuttle it is aboard. -/
def placeBlock (s : State) (r : RobotId) : Option Nat :=
  match (s.robot r).place with
  | .unknown => none
  | .row x => some (blockOf s x)
  | .shuttle k => some (s.shuttleConfig k).block

/-! ### Outputs -/

/-- R50: block-clear output n. -/
def blockClear (s : State) (n : Nat) : Bool :=
  s.modes.mode == .run && !s.resetHeld &&
  allRobots.all (fun r =>
    !(inFleet s r && placeBlock s r == some n) ||
      (((s.robot r).activity == .docked || (s.robot r).activity == .clamped) && s.robotLinkState r != .lost)) &&
  (match shuttleOf s n with | some k => (s.shuttle k).carried.isNone | none => true)

/-- The turn whose key lead runs. -/
def leadTurn (s : State) : Option Turn := match s.link.phase with | .keyLead t => some t | _ => none

/-- The turn whose frame is being sent. -/
def sentTurn (s : State) : Option Turn := match s.link.phase with | .sending t => some t | _ => none

/-- R53, R208: the radio key. -/
def radioKey (s : State) : Bool :=
  match s.link.phase with
  | .keyLead _ | .sending _ => true
  | .idle | .replyWindow _ | .broadcastGap => false

/-- R51: the 11 bits of a character in the order they are sent: a start bit 0, eight data bits with the least
significant first, the marker bit, a stop bit 1. -/
def TxChar.bits (c : TxChar) : List Bool :=
  false :: ((List.range 8).map fun i => c.value.getLsbD i) ++ [c.marker, true]

/-- R51: the bits of a frame on the line; its characters follow each other with no idle time between them (R53). -/
def frameBits (frame : List TxChar) : List Bool := frame.flatMap TxChar.bits

/-- R51, R53, R208: the level of TXD in a bit time of the character being sent; the idle level 1 where none is, in reset
as well. -/
def txd (s : State) (bit : Nat) : Bool :=
  if s.resetHeld then true
  else match s.link.transmitter.shift with
    | some c => c.bits.getD bit true
    | none => true

/-- R51: one character time in nanoseconds at a rate in hundreds of bit/s: 11 bit times, a bit time being the reciprocal
of the rate. -/
def characterNanoseconds (rate : Nat) : Nat := 11 * 10000000 / rate

/-- R94, R208: wiper output n is high while a pulse runs. -/
def wiperOutput (s : State) (n : StationIx) : Bool := (s.station n).pulseEnd.isSome

/-- R17: the interrupt output is asserted while a bit is set in both NOTICE and NOTICE ENABLE. -/
def interruptAsserted (s : State) : Bool := s.board.notice &&& s.board.enable != 0

/-! ### Register reads (11.2). A read changes nothing (R21). -/

/-- A mask with bit n set for each slot that satisfies p. -/
def slotMask (s : State) (p : Slot → Bool) : Word :=
  allSlots.foldl (fun acc n => if p (s.slot n) then acc ||| (1#16 <<< n.1) else acc) 0

/-- R7. -/
def readPost (s : State) : Word := slotMask s fun x => x.state == .held
/-- R14. -/
def readAbort (s : State) : Word := slotMask s fun x => x.abortRequested
/-- R13. -/
def readAnswered (s : State) : Word := slotMask s fun x => x.state == .answered

/-- R201, R22. -/
def readId (s : State) : Word := word (Config.partCode + 256 * Config.revision + 4096 * s.board.resetCause.code)

/-- R202: bit 0 mode request, bit 1 reads 0, bit 2 page. -/
def readControl (s : State) : Word := word (bitOf s.board.modeRequest + 4 * bitOf s.board.statusPage)

/-- R202, page 0. -/
def statusPage0 (s : State) : Word :=
  word (s.modes.mode.code + 4 * (stormSummary s).code + 32 * s.round.state.code + 128 * bitOf s.board.silent
    + 256 * s.modes.refusal.code)

/-- R202, page 1. -/
def statusPage1 (s : State) : Word := word (s.modes.refusalIndex + 256 * s.modes.clamped)

/-- R202: a read of STATUS returns the page in force. -/
def readStatus (s : State) : Word := if s.board.statusPage then statusPage1 s else statusPage0 s

/-- R201: the register read at 0x7FF8 + i. -/
def readRegister (s : State) : Register → Word
  | .id => readId s
  | .control => readControl s
  | .status => readStatus s
  | .notice => s.board.notice.setWidth 16
  | .noticeEnable => s.board.enable.setWidth 16
  | .post => readPost s
  | .abort => readAbort s
  | .answered => readAnswered s

/-- 11.2: the register at an address of 0x7FF8 to 0x7FFF. -/
def registerAt (a : Nat) : Option Register :=
  match a - Config.registerBase with
  | 0 => if a = Config.registerBase then some .id else none
  | 1 => some .control
  | 2 => some .status
  | 3 => some .notice
  | 4 => some .noticeEnable
  | 5 => some .post
  | 6 => some .abort
  | 7 => some .answered
  | _ => none

/-- What the host reads at a word address: a register or the memory (R1, R2). -/
def hostRead (s : State) (a : Nat) : Word :=
  match registerAt a with
  | some reg => readRegister s reg
  | none => s.mem a

/-- R208: what D0 to D15 drive: the word read during a host read of an address, and nothing otherwise. -/
def dataBus (s : State) (read : Option Nat) : Option Word := read.map (hostRead s)

end Sys2Proof.Machine
end

