-- ==== Sys2Proof/Machine/Marks.lean ====
section
/-!
DEFINITION. The part-written records as words (R206), and the marks that a change to a master sets (R4).
-/

namespace Sys2Proof.Machine

/-! ### Layouts (R206) -/

/-- A one-byte field that may be absent, R200. -/
def byteOrNone {n : Nat} (x : Option (Fin n)) : Nat := match x with | some i => i.1 | none => 0xFF

/-- A word-wide field that may be absent, R200. -/
def wordOrNone {n : Nat} (x : Option (Fin n)) : Nat := match x with | some i => i.1 | none => 0xFFFF

/-- Words 1 to 15 of row state n. -/
def rowImage (s : State) (r : RowId) : List Word :=
  let x := s.row r
  [word x.tr,
   word (bitOf x.enabled + 2 * bitOf (isCandidate s r) + 4 * bitOf x.sheltered + 8 * bitOf x.watch
     + 16 * bitOf x.contested + 32 * bitOf (isForced s r)),
   word (byteOrNone x.occupant + 256 * byteOrNone x.reserved), word x.daily,
   lowWord (signed32 x.lastScore), highWord (signed32 x.lastScore), lowWord x.cumLoss, highWord x.cumLoss,
   lowWord x.cumRecovered, highWord x.cumRecovered, lowWord x.passEnergy, highWord x.passEnergy, word x.passCount,
   lowWord x.lastPassEnd, highWord x.lastPassEnd]

/-- Words 1 to 10 of robot record n. -/
def robotImage (s : State) (r : RobotId) : List Word :=
  let b := s.robot r
  let e := s.entry (robotLink r)
  [word (b.activity.code + 256 * e.state.code + 1024 * bitOf e.doze + 2048 * b.leg.code), word e.errorCount,
   word (b.place.index + 256 * b.place.kindCode), word b.position, word (b.soc + 256 * b.faultCode),
   lowWord b.meter, word (b.meter / 65536 % 256 + 256 * e.noise),
   word ((match b.passRow with | some x => x.1 + 256 | none => 0)
     + 512 * (match b.context with | some c => c.1 | none => 127)),
   lowWord b.lastHeard, highWord b.lastHeard]

/-- Words 7 to 9 of a shuttle record: the transfer record. Where it is filled and names no origin slot, the origin bits
are 0 (assumption 67). -/
def transferImage (t : Option Transfer) : List Word :=
  match t with
  | none => [0xFF#16, 0, 0]
  | some t =>
    [word (t.robot.1 + 256 * t.source.1),
     word (t.destination.1 + 256 * t.cls.code + 512 * bitOf t.stranded + 4096 * t.stage.code),
     word (match t.origin with | some n => n.1 + 16 | none => 0)]

/-- Words 1 to 11 of shuttle record n. -/
def shuttleImage (s : State) (k : ShuttleIx) : List Word :=
  let x := s.shuttle k
  let e := s.entry (shuttleLink k)
  [word x.state.code, word (e.state.code + 256 * e.noise), word e.errorCount, word (x.road.getD 0xFFFF),
   word (byteOrNone x.carried + 256 * x.queue.length), word x.faultCode]
    ++ transferImage x.transfer ++ [lowWord (x.deadline.getD 0), highWord (x.deadline.getD 0)]

/-- Words 4 to 7 of station record n. -/
def stationImage (s : State) (n : StationIx) : List Word :=
  let x := s.station n
  [word (x.state.code + 8 * bitOf x.reseed + 16 * bitOf x.fresh + 256 * x.saturation), word x.srf, word x.ts,
   lowWord x.lastValid]

/-- Words 1 to 7 of alert record n. Where no slot is held, the bits of the held slot are 0 (assumption 67). The late
count, the robots to secure and the robots secured stay within 48 (R183, assumption 69), so their 6 bits hold them. -/
def alertImage (s : State) (n : AlertIx) : List Word :=
  let a := s.alert n
  [word (a.code.toNat + 256 * a.mask.toNat),
   word (a.state.code + 8 * a.late + (match a.heldSlot with | some slot => 512 * slot.1 + 8192 | none => 0)),
   word (a.toSecure + 64 * a.secured + 4096 * bitOf a.fault + 8192 * a.level.code),
   lowWord a.deadline, highWord a.deadline, lowWord a.holdOff, highWord a.holdOff]

/-- Words 1 to 15 of context record n. -/
def contextImage (s : State) (c : CtxIx) : List Word :=
  let x := s.context c
  [word (wordOrNone x.link), word (wordOrNone x.owner), word x.row, word (x.leg.code + 256 * x.cause.code),
   word x.position, word x.covered, lowWord x.energy, highWord x.energy, word x.roundNumber,
   lowWord x.saved, highWord x.saved, 0, 0, 0, 0]

/-- Words 1 to 31 of the farm record. -/
def farmImage (s : State) : List Word :=
  let f := s.farm
  let x := s.round
  [lowWord f.totalLoss, highWord f.totalLoss, lowWord f.totalRecovered, highWord f.totalRecovered,
   lowWord f.passEnergy, highWord f.passEnergy, lowWord f.transitEnergy, highWord f.transitEnergy,
   lowWord f.shuttleEnergy, highWord f.shuttleEnergy, lowWord f.completePasses, highWord f.completePasses,
   lowWord f.partialPasses, highWord f.partialPasses, word f.closeCount, lowWord f.lastClose, highWord f.lastClose,
   word (x.state.code + 4 * bitOf x.held + 256 * x.blocks.toNat), word (x.horizon + 256 * x.graceMinutes),
   word x.number, word x.leastLoss, lowWord x.start, highWord x.start, lowWord x.windowEnd, highWord x.windowEnd,
   word x.started, word x.complete, word x.partialCount,
   word (x.candidates.length + 512 * s.pool.freeCount),
   word ((match s.pool.head with | some c => c.1 | none => 127) + 128 * x.assigned), word s.pool.failedSaves]

/-- R123, R206: the candidate view: the row ids in list order, then 0xFFFF. -/
def candidateImage (s : State) : List Word :=
  (List.range 256).map fun i => match s.round.candidates[i]? with | some p => word p.1.1 | none => 0xFFFF#16

/-- R4: the address of a mirror's change count. -/
def countAddress : MirrorId → Nat
  | .farm => Config.farmBase
  | .alert n => Config.alertBase + 8 * n.1
  | .station n => Config.stationBase + 8 * n.1 + 3
  | .shuttle n => Config.shuttleBase + 16 * n.1
  | .robot n => Config.robotBase + 16 * n.1
  | .row n => Config.rowBase + 16 * n.1
  | .context n => Config.contextBase + 16 * n.1

/-- R3: every other word of a record, with its address, from the master. The farm record's rewrite writes the
candidate view with it (R4). -/
def mirrorImage (s : State) (m : MirrorId) : List (Nat × Word) :=
  let words := match m with
    | .farm => farmImage s
    | .alert n => alertImage s n
    | .station n => stationImage s n
    | .shuttle n => shuttleImage s n
    | .robot n => robotImage s n
    | .row n => rowImage s n
    | .context n => contextImage s n
  addressed (countAddress m + 1) words
    ++ (if m = .farm then addressed Config.candidateBase (candidateImage s) else [])

/-! ### Marks (R4) -/

/-- What a master holds beyond the words of its record: the second of a station's last valid sample, kept whole inside
the part (R206), and a count of rows assigned above what its field shows (assumption 46). -/
def masterBeyond (s : State) : MirrorId → List Nat
  | .farm => [s.round.assigned]
  | .station n => [(s.station n).lastValid]
  | .alert _ | .shuttle _ | .robot _ | .row _ | .context _ => []

/-- R4: the master of a mirror differs between two states. -/
def masterChanged (old new : State) (m : MirrorId) : Bool :=
  mirrorImage old m != mirrorImage new m || masterBeyond old m != masterBeyond new m

/-- R4: the mirror is marked where its master has changed (assumption 11). -/
def Mirror.marked (x : Mirror) (changed : Bool) : Mirror := { x with pending := x.pending || changed }

/-- R4: each mirror whose master differs between two states is marked for rewrite. -/
def markedMirrors (old new : State) : Mirrors :=
  let changed := masterChanged old new
  { farm := new.mirrors.farm.marked (changed .farm)
    alerts := tabulate fun n => (tget new.mirrors.alerts n).marked (changed (.alert n))
    stations := tabulate fun n => (tget new.mirrors.stations n).marked (changed (.station n))
    shuttles := tabulate fun n => (tget new.mirrors.shuttles n).marked (changed (.shuttle n))
    robots := tabulate fun n => (tget new.mirrors.robots n).marked (changed (.robot n))
    rows := tabulate fun n => (tget new.mirrors.rows n).marked (changed (.row n))
    contexts := tabulate fun n => (tget new.mirrors.contexts n).marked (changed (.context n)) }

/-- R4: the state after a step of the part's work, with the mirrors of the masters it changed marked. -/
def commit (old new : State) : State := { new with mirrors := markedMirrors old new }

end Sys2Proof.Machine
end

