-- ==== Sys2Proof/Machine/Operands.lean ====
section
/-!
DEFINITION. The forms a command's operands take: the words of an order slot (R205), the characters on the FieldLink
line (R51, R52), and the frames they make up (R54 to R58, R207).
-/

namespace Sys2Proof.Machine

/-! ### Orders (R205) -/

/-- The eleven order kinds, in the order of their numbers 1 to 11. -/
inductive OrderKind where
  | setRow | service | scanStations | wipeStation | dayClose | startRound | stopRound | cleanRow | moveRobot
  | stormAlert | stormClear
  deriving DecidableEq, Repr

/-- R205: word 0 of a slot. -/
def orderKind (w : Word) : Option OrderKind :=
  match w.toNat with
  | 1 => some .setRow | 2 => some .service | 3 => some .scanStations | 4 => some .wipeStation | 5 => some .dayClose
  | 6 => some .startRound | 7 => some .stopRound | 8 => some .cleanRow | 9 => some .moveRobot
  | 10 => some .stormAlert | 11 => some .stormClear | _ => none

/-- Word i of the order register's copy. -/
def field (ws : List Word) (i : Nat) : Nat := (ws.getD i 0).toNat

/-- The first of the checks (word number, whether the word is in range) that fails, R9 step 3. -/
def firstOutOfRange : List (Nat × Bool) → Option Nat
  | [] => none
  | (w, ok) :: rest => if ok then firstOutOfRange rest else some w

/-- R9 step 3: the word number of the first field out of range, by the order's chapter. Clamped fields are not
checked. -/
def rangeFailure (k : OrderKind) (ws : List Word) : Option Nat :=
  match k with
  | .setRow => firstOutOfRange [(2, decide (field ws 2 ≤ 255)), (3, decide (field ws 3 ≤ 2))]
  | .service =>
    firstOutOfRange [(2, decide (field ws 2 ≤ 55) && (decide (field ws 3 ≠ 2) || decide (field ws 2 ≤ 47))),
      (3, decide (field ws 3 ≤ 2)), (4, decide (field ws 3 ≠ 2) || decide (field ws 4 ≤ 255))]
  | .scanStations | .wipeStation => firstOutOfRange [(2, decide (field ws 2 ≠ 0))]
  | .dayClose => none
  | .startRound => firstOutOfRange [(2, decide (field ws 2 ≠ 0) && decide (field ws 2 ≤ 255))]
  | .stopRound => firstOutOfRange [(2, decide (field ws 2 ≤ 1))]
  | .cleanRow => firstOutOfRange [(2, decide (field ws 2 ≤ 255))]
  | .moveRobot => firstOutOfRange [(2, decide (field ws 2 ≤ 47)), (3, decide (field ws 3 ≤ 255))]
  | .stormAlert =>
    firstOutOfRange [(2, decide (field ws 2 ≤ 255)), (3, decide (field ws 3 ≤ 255)), (4, decide (field ws 4 ≤ 1))]
  | .stormClear => firstOutOfRange [(2, decide (field ws 2 ≤ 255)), (3, decide (field ws 3 ≤ 255))]

/-- The slot holds an order of this kind. -/
def isKind (k : OrderKind) (ws : List Word) : Bool := orderKind (ws.getD 0 0) == some k

/-- The slot holds an order of this kind whose selecting word w (action, mode or level) is v, or lies above the
last value `top` it may have: an order whose selecting word names nothing stands under each of its kind's commands
(assumption 1). -/
def isKindSel (k : OrderKind) (w v top : Nat) (ws : List Word) : Bool :=
  isKind k ws && (field ws w == v || decide (top < field ws w))

/-- A row field, in range by R9 step 3. -/
def fieldRow (ws : List Word) (i : Nat) : RowId := Fin.ofNat 256 (field ws i)

/-- A robot field. -/
def fieldRobot (ws : List Word) (i : Nat) : RobotId := Fin.ofNat 48 (field ws i)

/-- A station mask names station n. -/
def maskHas (m : Word) (n : StationIx) : Bool := m.getLsbD n.1

/-- The mask of the stations that satisfy p. -/
def stationMask (p : StationIx → Bool) : Word :=
  allStations.foldl (fun acc n => if p n then acc ||| (1#16 <<< n.1) else acc) 0

/-! ### Characters on the line (R51, R52) -/

/-- R52: a bit is decided by the majority of its three samples. -/
def majority (x : Sample) : Bool := (x.1 && x.2.1) || (x.1 && x.2.2) || (x.2.1 && x.2.2)

/-- R52: the three samples disagree. -/
def disagree (x : Sample) : Bool := !(x.1 == x.2.1 && x.2.1 == x.2.2)

/-- A character as received: its marker, value and framing error. -/
structure RxChar where
  marker : Bool
  value : Byte
  framingError : Bool
  deriving DecidableEq, Repr

/-- The samples of bit time i of a character. -/
def charSample (c : LineChar) (i : Nat) : Sample := c.samples.getD i (false, false, false)

/-- R52: the majority of the start bit's samples is 1. -/
def falseStart (c : LineChar) : Bool := majority (charSample c 0)

/-- R52: a noise mark; of a false start only the start bit was sampled. -/
def charNoisy (c : LineChar) : Bool :=
  if falseStart c then disagree (charSample c 0) else c.samples.any disagree

/-- R51: eight data bits, the least significant first. -/
def charValue (c : LineChar) : Byte :=
  (List.range 8).foldl (fun acc i => if majority (charSample c (i + 1)) then acc ||| (1#8 <<< i) else acc) 0

/-- R52: what is received of one falling edge: nothing for a false start, else a character. -/
def receiveChar (c : LineChar) : Option RxChar :=
  if falseStart c then none
  else some { marker := majority (charSample c 9), value := charValue c, framingError := !majority (charSample c 10) }

/-- The characters received in a reply. -/
def received (cs : List LineChar) : List RxChar := cs.filterMap receiveChar

/-- R52, R74: a frame that contains a noise mark carries it. Every noisy false start of the operand counts as the
reply's, also one ahead of its first character or behind its last (assumption 68). -/
def replyNoisy (cs : List LineChar) : Bool := cs.any charNoisy

/-! ### CRC (R55) -/

/-- R55: one bit of the computation. -/
def crcBit (crc : Word) (bit : Bool) : Word :=
  let shifted := crc <<< 1
  if bit != crc.msb then shifted ^^^ 0x1021#16 else shifted

/-- R55: a byte, most significant bit first. -/
def crcByte (crc : Word) (b : Byte) : Word := (List.range 8).foldl (fun c i => crcBit c (b.getLsbD (7 - i))) crc

/-- R55: the CRC over kind, sequence, length and payload, from 0xFFFF. -/
def crc (bytes : List Byte) : Word := bytes.foldl crcByte 0xFFFF#16

/-- The high byte of a CRC. -/
def highByte (w : Word) : Byte := BitVec.ofNat 8 (w.toNat / 256)
/-- The low byte of a CRC. -/
def lowByte (w : Word) : Byte := BitVec.ofNat 8 w.toNat

/-! ### Frames sent (R54, R56, R64, R207) -/

/-- R54: address character with marker 1, kind, sequence, length, payload, CRC high byte, CRC low byte. -/
def frameOf (address kind : Nat) (sequence : Byte) (payload : List Byte) : List TxChar :=
  let body := BitVec.ofNat 8 kind :: sequence :: BitVec.ofNat 8 payload.length :: payload
  let c := crc body
  { marker := true, value := BitVec.ofNat 8 address } ::
    (body ++ [highByte c, lowByte c]).map fun b => { marker := false, value := b }

/-- R207: the payload bytes of a command; two-byte fields go high byte first. -/
def Cmd.payload : Cmd → List Byte
  | .clean row leg position =>
    [BitVec.ofNat 8 row.1, BitVec.ofNat 8 leg.code, BitVec.ofNat 8 (position / 256), BitVec.ofNat 8 position]
  | .gotoDock | .clamp | .halt | .doze | .wake => []
  | .board k => [BitVec.ofNat 8 (48 + k.1)]
  | .alight row => [BitVec.ofNat 8 row.1]
  | .shuttleGo road purpose =>
    [BitVec.ofNat 8 (road / 256), BitVec.ofNat 8 road, BitVec.ofNat 8 purpose.code]

/-! ### Replies (R57 to R59) -/

/-- R59: the payload of a good reply to the station addressed, given the sequence byte sent: the first character
has marker 1 and the station's id, every later one marker 0, none a framing error; the kind is STATUS, the sequence
copies that sent, the length is the station's, exactly 6 + length characters were received, and the CRC compares. -/
def goodPayload (id : LinkId) (sequence : Byte) (cs : List RxChar) : Option (List Byte) :=
  match cs with
  | address :: kind :: sq :: len :: rest =>
    let n := len.value.toNat
    let payload := (rest.take n).map (·.value)
    let tail := (rest.drop n).map (·.value)
    let c := crc (kind.value :: sq.value :: len.value :: payload)
    let lengthOk := if id.1 < 48 then n == 11 || n == 13 else n == 9
    if address.marker && address.value == BitVec.ofNat 8 id.1 && cs.tail.all (fun x => !x.marker)
        && cs.all (fun x => !x.framingError) && kind.value == BitVec.ofNat 8 FrameKind.status && sq.value == sequence
        && lengthOk && cs.length == 6 + n && tail == [highByte c, lowByte c]
    then some payload else none
  | _ => none

/-- Byte i (from 1, as in R207) of a payload. -/
def byteAt (p : List Byte) (i : Nat) : Nat := (p.getD (i - 1) 0).toNat

/-- R57, R207: a robot's STATUS; a leg code other than BACK is delivered as OUT, and the surface reading is present
when the length is 13. -/
def robotReport (p : List Byte) : RobotReport :=
  { activity := Activity.ofReport (byteAt p 1), row := Fin.ofNat 256 (byteAt p 2),
    position := 256 * byteAt p 3 + byteAt p 4, leg := Leg.ofByte (byteAt p 5), soc := byteAt p 6,
    meter := 65536 * byteAt p 7 + 256 * byteAt p 8 + byteAt p 9, echo := p.getD 9 0, faultCode := byteAt p 11,
    surface := if p.length = 13 then some (256 * byteAt p 12 + byteAt p 13) else none }

/-- R58, R207: a shuttle's STATUS; a carried robot value from 48 to 255 is delivered as none. -/
def shuttleReport (p : List Byte) : ShuttleReport :=
  { state := ShuttleReported.ofByte (byteAt p 1), road := 256 * byteAt p 2 + byteAt p 3,
    carried := if h : byteAt p 4 < 48 then some ⟨byteAt p 4, h⟩ else none,
    echo := p.getD 4 0, faultCode := byteAt p 6,
    meter := 65536 * byteAt p 7 + 256 * byteAt p 8 + byteAt p 9 }

end Sys2Proof.Machine
end

