-- ==== Sys2Proof/Machine/FieldLink.lean ====
section
/-!
DEFINITION. The FieldLink controller (chapter 3): pending commands, the urgent queue, the choice of a turn and its
frame, the classing of replies, link health, synchronisation and the energy baseline.
-/

namespace Sys2Proof.Machine

/-! ### Pending commands (R65 to R69) -/

/-- R65: the entry with a new pending command; it takes the next sequence where the station is synchronised. -/
def LinkEntry.withCommand (e : LinkEntry) (cmd : Cmd) (owner : Owner) : LinkEntry :=
  if e.synchronised then
    { e with sequence := e.sequence + 1,
             command := some { cmd := cmd, owner := owner, sequence := some (e.sequence + 1), sends := 0 } }
  else { e with command := some { cmd := cmd, owner := owner, sequence := none, sends := 0 } }

/-- R65: a block sets a command for a station. -/
def setCommand (i : LinkId) (cmd : Cmd) (owner : Owner) (s : State) : State :=
  let e := s.entry i
  if e.inPollList then
    match e.command with
    | none => modEntry i (fun e => e.withCommand cmd owner) s
    | some p =>
      if p.cmd = cmd ∧ p.owner = owner then
        modEntry i (fun e => { e with command := some { p with sends := 0 } }) s
      else
        let s := modEntry i (fun e => e.withCommand cmd owner) s
        if p.owner = owner then s else push (.told i p.owner p.cmd (.superseded cmd)) s
  else push (.told i owner cmd .noEcho) s

/-- A pending command is cleared and nobody is told (R69). -/
def clearCommand (i : LinkId) (s : State) : State := modEntry i (fun e => { e with command := none }) s

/-- The pending command of a station is this kind of the planner's. -/
def plannerPending (s : State) (r : RobotId) (p : Cmd → Bool) : Bool :=
  match (s.entry (robotLink r)).command with
  | some c => c.owner == .planner && p c.cmd
  | none => false

/-- A command to a robot. -/
def commandRobot (r : RobotId) (cmd : Cmd) (owner : Owner) (s : State) : State := setCommand (robotLink r) cmd owner s
/-- A command of the arbiter to a shuttle. -/
def commandShuttle (k : ShuttleIx) (cmd : Cmd) (s : State) : State := setCommand (shuttleLink k) cmd .arbiter s

/-! ### Urgent queue (R63) -/

/-- R63: a broadcast PARK is pushed, or held where the queue is full; the held count saturates at 3. -/
def pushPark (n : AlertIx) (s : State) : State :=
  let a := s.alert n
  if s.link.urgent.length < 16 then modLink (fun l => { l with urgent := l.urgent ++ [.park n a.code a.mask] }) s
  else modLink (fun l => { l with heldBroadcast := tset l.heldBroadcast n (satAdd 3 (tget l.heldBroadcast n) 1) }) s

/-- R63: a station entry is pushed, or its station's held urgent mark is set where the queue is full. -/
def pushUrgent (i : LinkId) (s : State) : State :=
  if s.link.urgent.length < 16 then modLink (fun l => { l with urgent := l.urgent ++ [.station i] }) s
  else modEntry i (fun e => { e with heldUrgent := true }) s

/-- R63: the held broadcasts of one record move into the free places of the queue. -/
def moveHeldPark (n : AlertIx) (s : State) : State :=
  let count := min (tget s.link.heldBroadcast n) (16 - s.link.urgent.length)
  let a := s.alert n
  modLink (fun l =>
    { l with urgent := l.urgent ++ List.replicate count (.park n a.code a.mask),
             heldBroadcast := tset l.heldBroadcast n (tget l.heldBroadcast n - count) }) s

/-- R63: one held station mark moves into the queue if there is room. -/
def moveHeldMark (i : LinkId) (s : State) : State :=
  if (s.entry i).heldUrgent ∧ s.link.urgent.length < 16 then
    modEntry i (fun e => { e with heldUrgent := false }) (modLink (fun l => { l with urgent := l.urgent ++ [.station i] }) s)
  else s

/-- R63: held broadcasts first, in ascending record; then station marks, in ascending id. -/
def moveHeld (s : State) : State := forEach allLinks moveHeldMark (forEach allAlerts moveHeldPark s)

/-- R63, R69, R77: the queue, its held entries and every pending command are emptied. -/
def emptyLink (s : State) : State :=
  modLink (fun l =>
    { l with urgent := [], heldBroadcast := tfill 8 0,
             entries := tabulate fun i => { tget l.entries i with command := none, heldUrgent := false } }) s

/-! ### Choice of a turn (R61 to R64) -/

/-- R61: the urgent head that makes a turn, and the queue after it; entries for stations not in the poll list are
discarded. -/
def chooseUrgent (s : State) : List Urgent → Option (Urgent × List Urgent)
  | [] => none
  | .park n c m :: rest => some (.park n c m, rest)
  | .station i :: rest => if (s.entry i).inPollList then some (.station i, rest) else chooseUrgent s rest

/-- R62: a station's eligibility in a cycle. -/
def eligible (e : LinkEntry) (cycle : Nat) : Bool :=
  if e.state = .lost then cycle % 16 == 0
  else if e.doze && e.command.isNone then cycle % 8 == 0
  else if e.state = .mute then cycle % 4 == 0
  else true

/-- The poll list, ascending. -/
def pollList (s : State) : List LinkId := allLinks.filter fun i => (s.entry i).inPollList

/-- R62: the search of one cycle after another, counting a new cycle at each wrap. -/
def searchPoll (s : State) : Nat → List LinkId → Nat → Option (LinkId × Nat)
  | 0, _, _ => none
  | fuel + 1, ids, cycle =>
    match ids.find? fun i => eligible (s.entry i) cycle with
    | some i => some (i, cycle)
    | none => searchPoll s fuel (pollList s) ((cycle + 1) % 65536)

/-- R62: the next eligible station after the poll cursor, and the cycle count then current. Every station is
eligible in a cycle whose count is a multiple of 16, so 17 wraps are enough. -/
def nextPoll (s : State) : Option (LinkId × Nat) :=
  let after := match s.link.cursor with
    | none => pollList s
    | some c => (pollList s).filter fun i => decide (c.1 < i.1)
  if pollList s = [] then none else searchPoll s 18 after s.link.cycle

/-- R64: the frame an addressed turn sends, and the sequence of the pending command where it sends one. -/
def addressedFrame (i : LinkId) (e : LinkEntry) : Turn :=
  let plain (kind : Nat) : Turn :=
    { station := some i, frame := frameOf i.1 kind e.sequence [], sequence := e.sequence, sentCommand := none }
  if e.state = .lost then plain FrameKind.probe
  else if e.synchronised then
    match e.command with
    | some p =>
      let q := p.sequence.getD e.sequence
      { station := some i, frame := frameOf i.1 p.cmd.kindByte q p.cmd.payload, sequence := q, sentCommand := some q }
    | none => plain FrameKind.poll
  else plain FrameKind.poll

/-- R61, R64: an addressed turn begins; the sends of a command sent go up by 1. -/
def beginAddressed (i : LinkId) (s : State) : State :=
  let e := s.entry i
  let t := addressedFrame i e
  let s := if t.sentCommand.isSome then
      modEntry i (fun e => { e with command := e.command.map fun p => { p with sends := p.sends + 1 } }) s
    else s
  modLink (fun l => { l with phase := .keyLead t }) s

/-- R56, R61: a broadcast turn begins; its sequence byte is the broadcast count, which then goes up by 1. -/
def beginBroadcast (code mask : Byte) (s : State) : State :=
  let q := s.link.broadcastCount
  let t : Turn :=
    { station := none, frame := frameOf Config.broadcastAddress FrameKind.park q [code, mask], sequence := q,
      sentCommand := none }
  modLink (fun l => { l with phase := .keyLead t, broadcastCount := q + 1 }) s

/-- R61: the turn is chosen and begun, with the held entries already moved. -/
def beginTurn (s : State) : State :=
  match chooseUrgent s s.link.urgent with
  | some (.park _ c m, rest) => beginBroadcast c m (modLink (fun l => { l with urgent := rest }) s)
  | some (.station i, rest) => beginAddressed i (modLink (fun l => { l with urgent := rest }) s)
  | none =>
    let s := modLink (fun l => { l with urgent := [] }) s
    match nextPoll s with
    | some (i, cycle) => beginAddressed i (modLink (fun l => { l with cursor := some i, cycle := cycle }) s)
    | none => s

/-! ### Link health (R70 to R74) -/

/-- R70: a station's error counter takes a value; a change of link state raises LINK STATE, and a robot's loss is
handed on (R71). -/
def setErrorCount (i : LinkId) (n : Nat) (s : State) : State :=
  let before := (s.entry i).state
  let after := linkStateOf n
  let lost := decide (after = .lost) && decide (before ≠ .lost)
  let s := modEntry i (fun e => { e with errorCount := n, recovery := if lost then 0 else e.recovery }) s
  let s := if before = after then s else setNotice .linkState s
  if lost then (if h : i.1 < 48 then push (.robotLost ⟨i.1, h⟩) s else s) else s

/-- R70, R72: a missed or corrupt reply adds 8, saturating at 256; in LOST it sets the recovery count to 0. -/
def badReply (i : LinkId) (s : State) : State :=
  if (s.entry i).state = .lost then modEntry i (fun e => { e with recovery := 0 }) s
  else setErrorCount i (min 256 ((s.entry i).errorCount + 8)) s

/-- The shuttle whose queue holds a request of this robot. -/
def queueOf (s : State) (r : RobotId) : Option ShuttleIx :=
  allShuttles.find? fun k => (s.shuttle k).queue.any fun q => q.robot == r

/-- R72: recovery from LOST. A robot's placement mark is set and its activity recorded as UNKNOWN; the start rule of
a queue that holds it is evaluated (R152). -/
def recover (i : LinkId) (s : State) : State :=
  let s := modEntry i (fun e =>
    { e with errorCount := 0, recovery := 0, doze := false, synchronised := false, baseline := none }) s
  let s := setNotice .linkState s
  if h : i.1 < 48 then
    let r : RobotId := ⟨i.1, h⟩
    let s := modRobot r (fun b => { b with placementMark := true, activity := .unknown }) s
    match queueOf s r with
    | some k => push (.startRule k) s
    | none => s
  else s

/-- R72: a good reply to a PROBE counts toward recovery. -/
def goodProbe (i : LinkId) (s : State) : State :=
  let n := (s.entry i).recovery + 1
  if 8 ≤ n then recover i s else modEntry i (fun e => { e with recovery := n }) s

/-- R74. -/
def countNoise (i : LinkId) (noisy : Bool) (s : State) : State :=
  if noisy then modEntry i (fun e => { e with noise := satAdd 255 e.noise 1 }) s else s

/-! ### A good reply from a station that is not LOST (R75) -/

/-- R67, R73: the pending command is acknowledged; DOZE and WAKE move the doze flag; the owner is told. -/
def acknowledge (i : LinkId) (p : PendingCommand) (s : State) : State :=
  let s := modEntry i (fun e =>
    { e with command := none,
             doze := match p.cmd with | .doze => true | .wake => false | _ => e.doze }) s
  push (.told i p.owner p.cmd .delivered) s

/-- R66: the first good STATUS from a station that is not synchronised. -/
def synchronise (i : LinkId) (echo : Byte) (s : State) : State :=
  let s := modEntry i (fun e => { e with synchronised := true }) s
  match (s.entry i).command with
  | none => modEntry i (fun e => { e with sequence := echo }) s
  | some p =>
    if p.sequence = some echo then acknowledge i p s
    else modEntry i (fun e =>
      { e with sequence := echo + 1, command := some { p with sequence := some (echo + 1) } }) s

/-- R67: the echo of a delivered STATUS is compared with the pending command. -/
def compareEcho (i : LinkId) (echo : Byte) (s : State) : State :=
  match (s.entry i).command with
  | some p => if p.sequence = some echo then acknowledge i p s else s
  | none => s

/-- R76: the energy difference of a reading against a baseline. -/
def energyDifference (baseline : Option Nat) (reading : Nat) : Nat :=
  match baseline with
  | none => 0
  | some b =>
    let d := (reading + 16777216 - b) % 16777216
    if 8388608 ≤ d then 0 else d

/-- R76: the reading becomes the baseline. -/
def setBaseline (i : LinkId) (reading : Nat) (s : State) : State :=
  modEntry i (fun e => { e with baseline := some reading }) s

/-- R75 steps 2 to 4. -/
def deliver (i : LinkId) (payload : List Byte) (s : State) : State :=
  let echo := if i.1 < 48 then (robotReport payload).echo else (shuttleReport payload).echo
  let s := if (s.entry i).synchronised then compareEcho i echo s else synchronise i echo s
  let baseline := (s.entry i).baseline
  if h : i.1 < 48 then
    let rep := robotReport payload
    push (.robotStatus ⟨i.1, h⟩ rep (energyDifference baseline rep.meter)) (setBaseline i rep.meter s)
  else
    let rep := shuttleReport payload
    push (.shuttleStatus ⟨i.1 - 48, by omega⟩ rep (energyDifference baseline rep.meter)) (setBaseline i rep.meter s)

/-- R68: the check against the repeat limit at the end of a turn that sent the command. -/
def pushRepeatCheck (i : LinkId) (t : Turn) (s : State) : State :=
  match t.sentCommand with
  | some q => push (.repeatLimit i q) s
  | none => s

/-- R75: a good reply. The repeat limit is acted on when the STATUS has been delivered and has had its effects
(assumption 52). -/
def goodReply (i : LinkId) (t : Turn) (payload : List Byte) (s : State) : State :=
  if (s.entry i).state = .lost then goodProbe i s
  else
    let s := setErrorCount i ((s.entry i).errorCount - 1) s
    pushRepeatCheck i t (deliver i payload s)

/-- R68: the command failed where it is still the one sent and its sends have reached the repeat limit. -/
def checkRepeatLimit (i : LinkId) (q : Byte) (s : State) : State :=
  match (s.entry i).command with
  | some p =>
    if p.sequence = some q ∧ s.params.repeatLimit ≤ p.sends then
      push (.told i p.owner p.cmd .noEcho) (clearCommand i s)
    else s
  | none => s

/-- The end of an addressed turn with a missed or corrupt reply, R68 and R70: the repeat limit first
(assumption 24). -/
def badTurn (i : LinkId) (t : Turn) (s : State) : State :=
  let s := match t.sentCommand with
    | some q => checkRepeatLimit i q s
    | none => s
  badReply i s

/-- The end of an addressed turn: the line goes idle, and the reply is acted on while its station is still polled
(assumption 25). `payload` is none for a missed or corrupt reply. -/
def endTurn (t : Turn) (payload : Option (List Byte)) (noisy : Bool) (s : State) : State :=
  let s := modLink (fun l => { l with phase := .idle }) s
  match t.station with
  | none => s
  | some i =>
    if (s.entry i).inPollList then
      let s := countNoise i noisy s
      match payload with
      | some p => goodReply i t p s
      | none => badTurn i t s
    else s

end Sys2Proof.Machine
end

