-- ==== Sys2Proof/Machine/Accounts.lean ====
section
/-!
DEFINITION. The soiling and account unit (chapter 5): sample ratio and filter, loss and daily loss, surface
readings, scores, pass effects, energy attribution.
-/

namespace Sys2Proof.Machine

/-! ### Sample ratio and station filter -/

/-- R90: a raw count normalized to 16 bits. -/
def normalize (b raw : Nat) : Nat := raw * 2 ^ (16 - b)

/-- R98: SR = floor(Cn * 32768 / Kn), and 32768 where Cn exceeds Kn. -/
def sampleRatio (kn cn : Nat) : Nat := if kn < cn then 32768 else cn * 32768 / kn

/-- R99: the step q = (|d| + 2^(k-1)) >> k. -/
def filterStep (k d : Nat) : Nat := (d + 2 ^ (k - 1)) / 2 ^ k

/-- R99: the filtered ratio after a sample. -/
def filtered (k : Nat) (reseed : Bool) (srf sr : Nat) : Nat :=
  if reseed || k == 0 then sr
  else if srf ≤ sr then srf + filterStep k (sr - srf) else srf - filterStep k (srf - sr)

/-- R93, R99, R100: a valid sample's ratio moves the filter, clears the reseed flag where the filter is reseeded,
and sets the fresh mark. -/
def takeSample (n : StationIx) (sr : Nat) (s : State) : State :=
  let k := s.params.filterShift
  modStation n (fun x =>
    { x with srf := filtered k x.reseed x.srf sr, reseed := if x.reseed || k == 0 then false else x.reseed,
             fresh := true }) s

/-! ### Loss and daily loss -/

/-- R101: L = 32768 - Tr. -/
def lossOf (tr : Nat) : Nat := 32768 - tr

/-- R101: D = floor(L * Y / 32768). -/
def dailyLoss (loss yield : Nat) : Nat := loss * yield / 32768

/-- R102: a row's D is recomputed from its Tr and its Y in force. -/
def recomputeDaily (r : RowId) (s : State) : State :=
  let y := (s.site r).yield
  modRow r (fun x => { x with daily := dailyLoss (lossOf x.tr) y }) s

/-- R102: a row's Tr takes a value and its D is recomputed. -/
def setTransmission (r : RowId) (tr : Nat) (s : State) : State :=
  recomputeDaily r (modRow r (fun x => { x with tr := tr }) s)

/-- R103: a surface reading from a robot, with the report's leg. -/
def surfaceReading (r : RobotId) (leg : Leg) (reading : Nat) (s : State) : State :=
  let b := s.robot r
  match b.pass with
  | some p =>
    if b.activity = .cleaning ∧ leg = .out ∧ b.surfaceTaken = false then
      modRobot r (fun x => { x with surfaceTaken := true }) (setTransmission p.row (min reading 32768) s)
    else s
  | none => s

/-! ### Scores -/

/-- R108: the lowest epm among the registered robots of a block; none where it has no registered robot. -/
def lowestEpm (s : State) (b : Nat) : Option Nat :=
  allRobots.foldl (fun acc r =>
    let c := s.robotConfig r
    if c.registered && c.block == b then
      match acc with | none => some c.epm | some e => some (min e c.epm)
    else acc) none

/-- R108: B = floor(D * H * Ec / 256). -/
def benefit (daily horizon efficiency : Nat) : Nat := daily * horizon * efficiency / 256

/-- R108: P = ceil(2 * length * epm / 10000). -/
def passCost (length epm : Nat) : Nat := ceilDiv (2 * length * epm) 10000

/-- R108: S0 = B - P for a row with its D as recomputed. -/
def baseScore (s : State) (r : RowId) : Int :=
  (benefit (s.row r).daily s.round.horizon s.params.efficiency : Int)
    - (passCost (s.site r).length ((lowestEpm s (blockOf s r)).getD 0) : Int)

/-- R108: a row is scored; its row state is marked whether or not its score moved. -/
def scoreRow (r : RowId) (s : State) : State :=
  let s := recomputeDaily r s
  markRewrite (.row r) (modRow r (fun x => { x with lastScore := baseScore s r }) s)

/-- R109: a scored row is fit for the candidate list. -/
def fitRow (s : State) (r : RowId) : Bool :=
  let x := s.row r
  x.enabled && !x.contested && x.reserved.isNone
    && (match x.occupant with | some o => (s.robot o).context.isNone | none => true)
    && (lowestEpm s (blockOf s r)).isSome
    && decide (s.round.leastLoss ≤ lossOf x.tr) && decide (0 < x.lastScore)

/-! ### Pass effects -/

/-- R110: the fraction covered f = floor(c * 256 / (2 * length)), with c taken within 0..2 * length. -/
def coveredFraction (length c : Nat) : Nat := min c (2 * length) * 256 / (2 * length)

/-- R110: L' = L - floor(L * Ec * f / 65536). -/
def lossAfter (loss efficiency f : Nat) : Nat := loss - loss * efficiency * f / 65536

/-- The fraction that a pass effect on a row with covered distance c forms. -/
def effectFraction (s : State) (r : RowId) (c : Nat) : Nat := coveredFraction (s.site r).length c

/-- R110, R111: the pass effect on a row with covered distance c; the row state and the farm record are marked whether
or not a word of theirs moved. -/
def passEffect (r : RowId) (c : Nat) (s : State) : State :=
  let f := effectFraction s r c
  let y := (s.site r).yield
  let loss := lossOf (s.row r).tr
  let after := lossAfter loss s.params.efficiency f
  let recovered := dailyLoss loss y - dailyLoss after y
  let now := s.siteSecond
  let s := setTransmission r (32768 - after) s
  let s := modRow r (fun x =>
    { x with cumRecovered := satAdd max32 x.cumRecovered recovered, passCount := satAdd max16 x.passCount 1,
             lastPassEnd := now }) s
  let s := modFarm (fun x =>
    { x with totalRecovered := satAdd max32 x.totalRecovered recovered,
             completePasses := if f = 256 then satAdd max32 x.completePasses 1 else x.completePasses,
             partialPasses := if f = 256 then x.partialPasses else satAdd max32 x.partialPasses 1 }) s
  markRewrite .farm (markRewrite (.row r) s)

/-! ### Energy -/

/-- R113: a robot's energy difference, by its recorded activity and its pass row. -/
def robotEnergy (r : RobotId) (diff : Nat) (s : State) : State :=
  let b := s.robot r
  if b.activity = .cleaning then
    let s := match b.pass with
      | some p => modRow p.row (fun x => { x with passEnergy := satAdd max32 x.passEnergy diff }) s
      | none => s
    modFarm (fun x => { x with passEnergy := satAdd max32 x.passEnergy diff }) s
  else modFarm (fun x => { x with transitEnergy := satAdd max32 x.transitEnergy diff }) s

/-- R114: a shuttle's energy difference. -/
def shuttleEnergy (diff : Nat) (s : State) : State :=
  modFarm (fun x => { x with shuttleEnergy := satAdd max32 x.shuttleEnergy diff }) s

/-! ### Day close -/

/-- R105 step 1: one used station; it is held where its fresh mark is clear. -/
def closeStation (n : StationIx) (s : State) : State :=
  if (s.stationConfig n).used then
    modStation n (fun x => { x with ts := if x.fresh then x.srf else x.ts, fresh := false }) s
  else s

/-- R106: how many used stations step 1 holds at their previous Ts. -/
def heldStations (s : State) : Nat :=
  (allStations.filter fun n => (s.stationConfig n).used && !(s.station n).fresh).length

/-- R105 step 3: one present row. -/
def closeRow (r : RowId) (s : State) : State :=
  let site := s.site r
  if site.present then
    let tr := match site.station with
      | some n => (s.row r).tr * (s.station n).ts / 32768
      | none => (s.row r).tr
    let s := setTransmission r tr s
    let d := (s.row r).daily
    let s := modRow r (fun x => { x with cumLoss := satAdd max32 x.cumLoss d }) s
    modFarm (fun x => { x with totalLoss := satAdd max32 x.totalLoss d }) s
  else s

/-- R105 step 4. -/
def closeRecord (s : State) : State :=
  modFarm (fun x => { x with lastClose := s.siteSecond, closeCount := satAdd max16 x.closeCount 1 }) s

/-- R106: the results of a close that held `held` stations. -/
def closeResults (s : State) (held : Nat) : List Word :=
  [lowWord s.farm.totalLoss, highWord s.farm.totalLoss, lowWord s.farm.totalRecovered, highWord s.farm.totalRecovered,
   word held]

end Sys2Proof.Machine
end

