-- ==== Sys2Proof/Machine/Scanner.lean ====
section
/-!
DEFINITION. The reference scanner (chapter 4): scans, sample validity, station states, wipers; and the steps of the
day close, which wipes every used station.
-/

namespace Sys2Proof.Machine

/-- R82: the full scale 2^b - 1. -/
def fullScale (s : State) : Nat := 2 ^ s.params.resolution - 1

/-- R82: how long one measurement lasts, in nanoseconds: 50 us plus (2^b - 1) periods of a clock of `mhz` MHz. -/
def measurementNanoseconds (b mhz : Nat) : Nat := 50000 + (2 ^ b - 1) * 1000 / mhz

/-- The two channels of a station. -/
def stationChannels (s : State) (n : StationIx) : List Nat := [(s.stationConfig n).clean, (s.stationConfig n).soiled]

/-- R83: the measured set: the requested stations that are used and not WIPING. -/
def measuredSet (s : State) (requested : Word) : Word :=
  stationMask fun n => maskHas requested n && (s.stationConfig n).used && (s.station n).state != .wiping

/-- R83: the channels of a set of stations, in ascending channel number. -/
def channelsOf (s : State) (mask : Word) : List Nat :=
  (List.range 32).filter fun c => allStations.any fun n => maskHas mask n && (stationChannels s n).contains c

/-- R81: the station of the mask that owns a channel. -/
def channelOwner (s : State) (mask : Word) (c : Nat) : Option StationIx :=
  allStations.find? fun n => maskHas mask n && (stationChannels s n).contains c

/-- All used stations, R85. -/
def usedMask (s : State) : Word := stationMask fun n => (s.stationConfig n).used

/-- R83: a scan starts with a requested set. Every held SCAN STATIONS is covered by it (R87). A scan with nothing to
measure completes at once (R86). -/
def startScan (requested : Word) (s : State) : State :=
  let measured := measuredSet s requested
  let channels := channelsOf s measured
  let s := modScanner (fun x =>
    { x with scan := some { requested := requested, measured := measured, channels := channels, raw := [],
                            telling := false },
             orders := x.orders.map fun o => { o with covered := true } }) s
  if channels = [] then push .scanComplete s else s

/-- R84: a request starts a scan where none is in flight, and joins the scan-pending mask otherwise. -/
def requestScan (mask : Word) (s : State) : State :=
  match s.scanner.scan with
  | none => startScan mask s
  | some _ => modScanner (fun x => { x with pendingMask := x.pendingMask ||| mask }) s

/-! ### Judging (R90 to R93) -/

/-- R90: the outcome of a sample. -/
inductive Verdict where
  | saturated | dark
  | valid (sr : Nat)
  deriving DecidableEq, Repr

/-- R90: the three tests, in order. -/
def judge (b darkFloor k c : Nat) : Verdict :=
  if k = 2 ^ b - 1 ∨ c = 2 ^ b - 1 then .saturated
  else if normalize b k < darkFloor ∨ normalize b k = 0 then .dark
  else .valid (sampleRatio (normalize b k) (normalize b c))

/-- The raw count of a channel in a scan. -/
def rawCount (raw : List (Nat × Nat)) (c : Nat) : Nat := ((raw.find? fun p => p.1 == c).map (·.2)).getD 0

/-- The verdict on a station's sample in a scan. -/
def verdictOf (s : State) (sc : Scan) (n : StationIx) : Verdict :=
  judge s.params.resolution s.params.darkFloor (rawCount sc.raw (s.stationConfig n).clean)
    (rawCount sc.raw (s.stationConfig n).soiled)

/-- R91: a saturated sample. -/
def saturatedSample (n : StationIx) (s : State) : State :=
  let count := satAdd 255 (s.station n).saturation 1
  let enters := decide (3 ≤ count) && (s.station n).state != .fault
  let s := modStation n (fun x => { x with saturation := count, state := if enters then .fault else x.state }) s
  if enters then setNotice .stationFault s else s

/-- R92: a dark sample. -/
def darkSample (n : StationIx) (s : State) : State :=
  modStation n (fun x => { x with saturation := 0, state := if x.state = .ok then .dark else x.state }) s

/-- R93: a valid sample. -/
def validSample (n : StationIx) (sr : Nat) (s : State) : State :=
  takeSample n sr
    (modStation n (fun x => { x with state := .ok, saturation := 0, lastValid := s.siteSecond }) s)

/-- R86 step 1 for one station of the measured set. -/
def judgeStation (sc : Scan) (n : StationIx) (s : State) : State :=
  if maskHas sc.measured n then
    match verdictOf s sc n with
    | .saturated => saturatedSample n s
    | .dark => darkSample n s
    | .valid sr => validSample n sr s
  else s

/-- R87: the sample ratio a station of the scan gave, if it took a valid sample. -/
def scanRatio (s : State) (sc : Scan) (n : StationIx) : Option Nat :=
  if maskHas sc.measured n then
    match verdictOf s sc n with | .valid sr => some sr | _ => none
  else none

/-- R87: the results of a SCAN STATIONS order covered by a scan. -/
def scanResults (s : State) (sc : Scan) (mask : Word) : List Word :=
  stationMask (fun n => maskHas mask n && (scanRatio s sc n).isSome)
    :: ((allStations.filter fun n => maskHas mask n).take 12).map fun n =>
      match scanRatio s sc n with | some sr => word sr | none => 0xFFFF#16

/-- R86 step 5: the scan is over; the pending mask, if any, starts the next. -/
def endScan (s : State) : State :=
  let mask := s.scanner.pendingMask
  let s := modScanner (fun x => { x with scan := none, pendingMask := 0 }) s
  if mask = 0 then s else startScan mask s

/-- R86: the scan completes. Where a DAY CLOSE waits on it, the account unit is told (step 4) by DAY_CLOSE_DEFERRED,
and step 5 follows that (assumption 17). -/
def completeScan (s : State) : State :=
  match s.scanner.scan with
  | none => s
  | some sc =>
    let covered := s.scanner.orders.filter (·.covered)
    let answers := allSlots.filterMap fun n =>
      (covered.find? fun o => o.slot == n).map fun o => (n, scanResults s sc o.mask)
    let s := forEach allStations (judgeStation sc) s
    let s := modScanner (fun x => { x with orders := x.orders.filter fun o => !o.covered }) s
    let s := forEach answers (fun a => answer a.1 .done 0 a.2) s
    let s := setNotice .scanDone s
    if s.farm.closeSlot.isSome then
      modScanner (fun x => { x with scan := some { sc with channels := [], telling := true } }) s
    else endScan s

/-! ### Wipers (R94, R95) -/

/-- R95: a scan less a station whose channels are `mine`. The channel being measured runs on. -/
def scanWithout (n : StationIx) (mine : List Nat) (sc : Scan) : Scan :=
  { sc with
    measured := sc.measured &&& ~~~(1#16 <<< n.1)
    raw := sc.raw.filter fun p => !mine.contains p.1
    channels := match sc.channels with
      | [] => []
      | c :: rest => c :: rest.filter fun d => !mine.contains d }

/-- R95: a station whose pulse starts is dropped from the scan in flight. -/
def dropFromScan (n : StationIx) (s : State) : State :=
  let mine := stationChannels s n
  let drop (sc : Scan) : Scan := if maskHas sc.measured n && !sc.telling then scanWithout n mine sc else sc
  modScanner (fun x => { x with scan := x.scan.map drop }) s

/-- R94: a pulse starts on a station, or is restarted. -/
def startPulse (n : StationIx) (s : State) : State :=
  let until_ := later s s.params.wipeTime
  if (s.station n).state = .wiping then modStation n (fun x => { x with pulseEnd := some until_ }) s
  else
    dropFromScan n (modStation n (fun x =>
      { x with remembered := x.state, state := .wiping, reseed := true, pulseEnd := some until_ }) s)

/-- R94: the pulse ends; the station takes its remembered state again. -/
def endPulse (n : StationIx) (s : State) : State :=
  modStation n (fun x => { x with state := x.remembered, pulseEnd := none }) s

/-! ### Day close (R105) -/

/-- The stations in use, ascending. -/
def usedStations (s : State) : List StationIx := allStations.filter fun n => (s.stationConfig n).used

/-- R105: the four steps of a close. -/
def runClose (s : State) : State :=
  let s := forEach allStations closeStation s
  let s := forEach (usedStations s) startPulse s
  let s := forEach allRows closeRow s
  closeRecord s

/-- R105, R106: a close runs and its order is answered DONE. -/
def closeAndAnswer (n : SlotIx) (s : State) : State :=
  let held := heldStations s
  let s := runClose s
  answer n .done 0 (closeResults s held) s

end Sys2Proof.Machine
end

