-- ==== Sys2Proof/Machine/Contexts.lean ====
section
/-!
DEFINITION. The candidate list (6.3), the context pool (chapter 8), and the ends of passes (R135 to R138), which
save, keep or abandon contexts.
-/

namespace Sys2Proof.Machine

/-! ### The candidate list (R123 to R125) -/

/-- The row a context was saved on. -/
def Context.rowId (c : Context) : RowId := Fin.ofNat 256 c.row

/-- R124: a row leaves the list; its candidate and forced flags go with it. -/
def leaveList (r : RowId) (s : State) : State :=
  modRound (fun x => { x with candidates := x.candidates.filter fun p => decide (p.1 ≠ r) }) s

/-- R123: an entry that is not forced stands before row r: a higher last score, or an equal one and a lower
number. -/
def standsBefore (s : State) (q r : RowId) : Bool :=
  decide ((s.row r).lastScore < (s.row q).lastScore)
    || (decide ((s.row q).lastScore = (s.row r).lastScore) && decide (q.1 < r.1))

/-- R123, R125: a row put at its score position behind the forced rows. -/
def insertScored (s : State) (r : RowId) : List (RowId × Bool) → List (RowId × Bool)
  | [] => [(r, false)]
  | (q, forced) :: rest =>
    if forced || standsBefore s q r then (q, forced) :: insertScored s r rest
    else (r, false) :: (q, forced) :: rest

/-- R126: a row forced directly behind the forced rows already listed. -/
def forceInto (r : RowId) (xs : List (RowId × Bool)) : List (RowId × Bool) :=
  let others := xs.filter fun p => decide (p.1 ≠ r)
  (others.filter fun p => p.2) ++ (r, true) :: others.filter fun p => !p.2

/-- The row is some robot's pass row. -/
def isPassRow (s : State) (r : RowId) : Bool := allRobots.any fun b => (s.robot b).passRow == some r

/-- The row's occupant owns a context. -/
def occupantOwnsContext (s : State) (r : RowId) : Bool :=
  match (s.row r).occupant with
  | some o => (s.robot o).context.isSome
  | none => false

/-- R125: what a row must meet to be reinserted. -/
def reinsertable (s : State) (r : RowId) : Bool :=
  let x := s.row r
  s.round.state == .active && (s.site r).present && x.enabled && !x.contested && x.reserved.isNone
    && !isPassRow s r && !occupantOwnsContext s r && decide (s.round.leastLoss ≤ lossOf x.tr)
    && decide (0 < x.lastScore) && !isCandidate s r

/-- R125: a row is reinserted where it qualifies, and the robots of its block are examined. -/
def reinsertRow (r : RowId) (s : State) : State :=
  if reinsertable s r then
    push (.examineBlock (blockOf s r))
      (modRound (fun x => { x with candidates := insertScored s r x.candidates }) s)
  else s

/-! ### Saving (R171 to R174) -/

/-- R171: what a save names. -/
structure SaveRequest where
  robot : RobotId
  row : RowId
  leg : Leg
  position : Nat
  covered : Nat
  energy : Nat
  cause : ContextCause
  deriving DecidableEq, Repr

/-- R171: the fields are taken from the pass record. -/
def SaveRequest.ofPass (r : RobotId) (p : Pass) (cause : ContextCause) : SaveRequest :=
  { robot := r, row := p.row, leg := p.furthestLeg, position := p.furthestPosition, covered := p.covered,
    energy := p.energy, cause := cause }

/-- R174: the owned record after an update. -/
def Context.updated (c : Context) (q : SaveRequest) (round now : Nat) : Context :=
  { c with
    covered := max c.covered q.covered
    leg := if c.covered < q.covered then q.leg else c.leg
    position := if c.covered < q.covered then q.position else c.position
    energy := max c.energy q.energy
    cause := q.cause
    roundNumber := round
    saved := now }

/-- R174. -/
def updateContext (c : CtxIx) (q : SaveRequest) (s : State) : State :=
  markRewrite (.context c) (modContext c (fun x => x.updated q s.round.number s.siteSecond) s)

/-- R172: a save that leaves the free count at or below the low mark while the flag is armed. -/
def checkLowMark (s : State) : State :=
  if s.pool.armed ∧ s.pool.freeCount ≤ s.params.poolLow then
    setNotice .poolLow (modPool (fun p => { p with armed := false }) s)
  else s

/-- R171 step 4: the record as written from the request. -/
def Context.taken (q : SaveRequest) (round now : Nat) : Context :=
  { link := none, owner := some q.robot, row := q.row.1, leg := q.leg, position := q.position, covered := q.covered,
    energy := q.energy, roundNumber := round, cause := q.cause, saved := now }

/-- R171 steps 3 to 7: the record at the head is taken; the context record, the robot record and the farm record are
marked by name. -/
def takeContext (c : CtxIx) (q : SaveRequest) (s : State) : State :=
  let next := (s.context c).link
  let s := modPool (fun p => { p with head := next, freeCount := p.freeCount - 1 }) s
  let s := modContext c (fun _ => Context.taken q s.round.number s.siteSecond) s
  let s := modRobot q.robot (fun b => { b with context := some c }) s
  let s := leaveList q.row (checkLowMark s)
  markRewrite .farm (markRewrite (.robot q.robot) (markRewrite (.context c) s))

/-- R173: a save that finds the free list empty. -/
def failSave (s : State) : State :=
  setNotice .poolEmpty
    (markRewrite .farm (modPool (fun p => { p with failedSaves := satAdd max16 p.failedSaves 1 }) s))

/-- R171: a save; the Bool says whether the context was saved. -/
def saveContext (q : SaveRequest) (s : State) : Bool × State :=
  match (s.robot q.robot).context with
  | some c => (true, updateContext c q s)
  | none =>
    if s.pool.freeCount = 0 then (false, failSave s)
    else match s.pool.head with
      | some c => (true, takeContext c q s)
      | none => (false, failSave s)

/-! ### Release and abandonment (R175, R176) -/

/-- R175 steps 1 to 3: the record is freed to the head of the list. -/
def freeRecord (c : CtxIx) (s : State) : State :=
  let s := match (s.context c).owner with
    | some r => modRobot r (fun b => { b with context := none }) s
    | none => s
  let s := modContext c (fun x => { x with owner := none, link := s.pool.head }) s
  modPool (fun p =>
    { p with head := some c, freeCount := p.freeCount + 1,
             armed := p.armed || decide (s.params.poolLow < p.freeCount + 1) }) s

/-- R175: the record is freed; the context record, the robot record of its owner and the farm record are marked by
name (step 4). -/
def freeContext (c : CtxIx) (s : State) : State :=
  let marked := markRewrite .farm (markRewrite (.context c) (freeRecord c s))
  match (s.context c).owner with
  | some r => markRewrite (.robot r) marked
  | none => marked

/-- R119: the round record counts a pass effect by its fraction. -/
def countPass (f : Nat) (s : State) : State :=
  modRound (fun x =>
    if f = 256 then { x with complete := satAdd max16 x.complete 1 }
    else { x with partialCount := satAdd max16 x.partialCount 1 }) s

/-- R176 step 1 and 2: the partial effect of a context, and the round record's count of it unless IDLE. -/
def abandonEffect (row : RowId) (c : Nat) (s : State) : State :=
  let f := effectFraction s row c
  let s := passEffect row c s
  if s.round.state = .idle then s else countPass f s

/-- The robot's pass is a resumption of this context. -/
def Robot.resumes (b : Robot) (c : CtxIx) : Bool :=
  match b.pass with
  | some p => p.kind == .resume c
  | none => false

/-- The robot's pass is a resumption of this context that has not reached the rail. -/
def Robot.resuming (b : Robot) (c : CtxIx) : Bool :=
  match b.pass with
  | some p => p.kind == .resume c && p.phase == .issued
  | none => false

/-- A robot's pass row becomes none, and the close condition is checked (R143). -/
def clearPass (r : RobotId) (s : State) : State := push .closeCheck (modRobot r (fun b => { b with pass := none }) s)

/-- R176: a context is abandoned. A RESUME pass of it in phase ISSUED ends with no effect of its own (R137). -/
def abandonContext (c : CtxIx) (s : State) : State :=
  let x := s.context c
  let s := freeContext c (abandonEffect x.rowId x.covered s)
  match x.owner with
  | some r => if (s.robot r).resuming c then clearPass r s else s
  | none => s

/-- The context a robot owns, if any, is abandoned. -/
def abandonOwned (r : RobotId) (s : State) : State :=
  match (s.robot r).context with
  | some c => abandonContext c s
  | none => s

/-- R42: a robot has come to a row: a context saved on another row is abandoned, one of this row stands and keeps
the row out of the list. -/
def contextAtRow (r : RobotId) (row : RowId) (s : State) : State :=
  match (s.robot r).context with
  | some c => if (s.context c).rowId = row then leaveList row s else abandonContext c s
  | none => s

/-! ### Ends of passes (R135 to R138) -/

/-- R137: a fresh pass ends unstarted. -/
def endUnstarted (r : RobotId) (row : RowId) (s : State) : State := reinsertRow row (clearPass r s)

/-- The pass effect at the end of a pass, counted by the planner (R135, R137). -/
def endWithEffect (r : RobotId) (row : RowId) (c : Nat) (s : State) : State :=
  let f := effectFraction s row c
  countPass f (passEffect row c (clearPass r s))

/-- A fresh pass whose end leaves nothing to credit or save: it has not reached the rail, or covered nothing. -/
def Pass.nothingDone (p : Pass) : Bool := p.kind == .fresh && (p.phase == .issued || p.covered == 0)

/-- R136: a pass ends interrupted with a context saved, or, where the pool is empty, abandoned; a fresh pass with
nothing covered ends unstarted, whatever the cause (assumption 45). The robot is examined at the end of the event. -/
def endInterrupted (r : RobotId) (cause : ContextCause) (s : State) : State :=
  match (s.robot r).pass with
  | none => s
  | some p =>
    if p.nothingDone then push (.examine r) (endUnstarted r p.row s)
    else
      let saved := saveContext (SaveRequest.ofPass r p cause) s
      push (.examine r) (if saved.1 then clearPass r saved.2 else endWithEffect r p.row p.covered saved.2)

/-- R137: a pass ends abandoned with its partial effect; one whose context is still owned has the pool apply it; a
fresh one that never reached the rail ends unstarted (assumption 42). -/
def endAbandoned (r : RobotId) (s : State) : State :=
  match (s.robot r).pass with
  | none => s
  | some p =>
    match p.kind with
    | .fresh => if p.phase = .issued then endUnstarted r p.row s else endWithEffect r p.row p.covered s
    | .resume _ =>
      match (s.robot r).context with
      | some c => clearPass r (abandonContext c s)
      | none => endWithEffect r p.row p.covered s

/-- The robot's homing mark is set. -/
def setHoming (r : RobotId) (s : State) : State := modRobot r (fun b => { b with homingMark := true }) s

/-- The planner sets GOTO DOCK, unless the robot holds a storm target (R196). -/
def plannerDock (r : RobotId) (s : State) : State :=
  if (s.robot r).storm.target = .none then commandRobot r .gotoDock .planner s else s

/-- R138, R140: an ISSUED pass ends: a fresh one unstarted; a resumed one keeps its context where it is still owned,
and saves a new one with this cause where it has been released. -/
def endIssued (r : RobotId) (cause : ContextCause) (s : State) : State :=
  match (s.robot r).pass with
  | none => s
  | some p =>
    let s := setHoming r s
    match p.kind with
    | .fresh => endUnstarted r p.row s
    | .resume _ =>
      if (s.robot r).context.isSome then clearPass r s
      else
        let saved := saveContext (SaveRequest.ofPass r p cause) s
        if saved.1 then clearPass r saved.2 else endWithEffect r p.row p.covered saved.2

/-- R135: a pass ends complete. A resumed pass may do so while its CLEAN is still unacknowledged: the context that it then
still owns stands (assumption 65). -/
def endComplete (r : RobotId) (p : Pass) (s : State) : State :=
  endWithEffect r p.row (2 * (s.site p.row).length) s

end Sys2Proof.Machine
end

