-- ==== Sys2Proof/Machine/Transfers.lean ====
section
/-!
DEFINITION. The transfer arbiter (chapter 7): requests and queues, the start rule, the four stages, their failures,
aborts, and the shelter of shuttles.
-/

namespace Sys2Proof.Machine

/-! ### Who has which transfer -/

/-- The transfer in service at a shuttle; a stranded record is not in service (R161). -/
def Shuttle.inService (x : Shuttle) : Option Transfer :=
  match x.transfer with
  | some t => if t.stranded then none else some t
  | none => none

/-- The shuttle that serves a transfer of this robot. -/
def serviceOf (s : State) (r : RobotId) : Option ShuttleIx :=
  allShuttles.find? fun k => match (s.shuttle k).inService with | some t => t.robot == r | none => false

/-- The shuttle that holds a stranded record of this robot. -/
def strandedOf (s : State) (r : RobotId) : Option ShuttleIx :=
  allShuttles.find? fun k => match (s.shuttle k).transfer with | some t => t.stranded && t.robot == r | none => false

/-- R147: the robot has a transfer request, queued or in service. -/
def hasRequest (s : State) (r : RobotId) : Bool := (queueOf s r).isSome || (serviceOf s r).isSome

/-- The block of a shuttle. -/
def shuttleBlock (s : State) (k : ShuttleIx) : Nat := (s.shuttleConfig k).block

/-! ### Reservations (R41) -/

/-- R41: a reserve is granted. -/
def reserveGranted (s : State) (row : RowId) : Bool :=
  let x := s.row row
  (s.site row).present && x.occupant.isNone && x.reserved.isNone && !x.contested

/-- R41: the reservation becomes the robot. -/
def reserveRow (row : RowId) (r : RobotId) (s : State) : State := modRow row (fun x => { x with reserved := some r }) s

/-- R41: a reservation of this robot is released. -/
def releaseRow (row : RowId) (r : RobotId) (s : State) : State :=
  modRow row (fun x => { x with reserved := if x.reserved = some r then none else x.reserved }) s

/-! ### Outcomes (R163) -/

/-- R163: how a request ends. -/
inductive TransferOutcome where
  | ended
  | failed (cause : TransferCause)
  | cancelled (detail : Nat)
  deriving DecidableEq, Repr

/-- R149: results of an ended transfer. -/
def transferResults (s : State) (k : ShuttleIx) (destination : RowId) : List Word :=
  [word destination.1, word (48 + k.1), lowWord s.siteSecond, highWord s.siteSecond]

/-- R163: the answer to a HOST order in its origin slot. -/
def answerTransfer (k : ShuttleIx) (n : SlotIx) (destination : RowId) (o : TransferOutcome) (s : State) : State :=
  match o with
  | .ended =>
    answer n (if (s.slot n).abortRequested then .doneLateAbort else .done) 0 (transferResults s k destination) s
  | .failed c => answer n .failed c.code [] s
  | .cancelled d => answer n .aborted d [] s

/-- R131: the report to the planner that an outcome gives. -/
def TransferOutcome.report : TransferOutcome → TransferReport
  | .ended => .ended | .failed _ => .failed | .cancelled _ => .cancelled

/-- R163, R157: a HOST order is answered, a ROUND request reported; an ended transfer of either class is told to the
planner. -/
def finishTransfer (k : ShuttleIx) (t : Transfer) (o : TransferOutcome) (s : State) : State :=
  let s := match t.origin with
    | some n => answerTransfer k n t.destination o s
    | none => s
  if t.cls = .round ∨ o = .ended then push (.transferReport t.robot t.destination o.report) s else s

/-! ### Queues (R147, R151) -/

/-- R147: a request leaving a queue that held 8 has the robots of the block examined. -/
def leftFullQueue (before : Nat) (k : ShuttleIx) (s : State) : State :=
  if before = 8 then push (.examineBlock (shuttleBlock s k)) s else s

/-- R147, R151: requests that satisfy p leave the queue, and the shuttle record is marked; their reservations are
released, HOST orders are answered in ascending slot order, ROUND requests reported in queue order, and the start rule
is evaluated. -/
def dropRequests (k : ShuttleIx) (p : Request → Bool) (o : TransferOutcome) (s : State) : State :=
  let queue := (s.shuttle k).queue
  let gone := queue.filter p
  if gone = [] then s
  else
    let s := markRewrite (.shuttle k) (modShuttle k (fun x => { x with queue := queue.filter fun q => !p q }) s)
    let s := forEach gone (fun q => releaseRow q.destination q.robot) s
    let answers := allSlots.filterMap fun n => (gone.find? fun q => q.origin == some n).map fun q => (n, q)
    let s := forEach answers (fun a => answerTransfer k a.1 a.2.destination o) s
    let s := forEach (gone.filter fun q => q.cls == .round)
      (fun q => push (.transferReport q.robot q.destination o.report)) s
    push (.startRule k) (leftFullQueue queue.length k s)

/-- R151: the queued request of one robot leaves. -/
def dropRobotRequest (r : RobotId) (o : TransferOutcome) (s : State) : State :=
  match queueOf s r with
  | some k => dropRequests k (fun q => q.robot == r) o s
  | none => s

/-! ### Drives (R153, R166) -/

/-- R153: the drive timeout for a distance and a speed. -/
def driveTimeout (d v : Nat) : Nat := 60 + ceilDiv (120 * d) v

/-- R153: the distance taken: 4095 where the road position is unknown. -/
def driveDistance (road : Option Nat) (target : Nat) : Nat :=
  match road with | some p => absDiff p target | none => 4095

/-- R153, R155, R166: SHUTTLE GO is set and the deadline runs. -/
def startDrive (k : ShuttleIx) (target : Nat) (purpose : Purpose) (s : State) : State :=
  let timeout := driveTimeout (driveDistance (s.shuttle k).road target) (s.shuttleConfig k).speed
  let s := modShuttle k (fun x => { x with deadline := some (later s timeout), goAcknowledged := false }) s
  commandShuttle k (.shuttleGo target purpose) s

/-- R154, R156: a stage at a dock runs to the board/alight timeout. -/
def startDockStage (k : ShuttleIx) (state : ShuttleState) (stage : Stage) (s : State) : State :=
  let until_ := later s s.params.boardTimeout
  modShuttle k (fun x =>
    { x with state := state, deadline := some until_, goAcknowledged := false,
             transfer := x.transfer.map fun t => { t with stage := stage } }) s

/-- R166: a shuttle becomes TO SHELTER. -/
def goToShelter (k : ShuttleIx) (s : State) : State :=
  startDrive k (s.shuttleConfig k).shelter .shelter (modShuttle k (fun x => { x with state := .toShelter }) s)

/-- R145, R166: a shuttle becomes IDLE, or TO SHELTER at once while a row of its block is sheltered. IDLE stops the
deadline, and the start rule is evaluated (R152). -/
def becomeIdle (k : ShuttleIx) (s : State) : State :=
  if blockSheltered s (shuttleBlock s k) then goToShelter k s
  else push (.startRule k)
    (modShuttle k (fun x => { x with state := .idle, deadline := none, goAcknowledged := false }) s)

/-- R145, R151: a shuttle enters FAULT and every request of its queue fails with cause SHUTTLE. -/
def enterFault (k : ShuttleIx) (s : State) : State :=
  dropRequests k (fun _ => true) (.failed .shuttle)
    (modShuttle k (fun x => { x with state := .fault, deadline := none, goAcknowledged := false }) s)

/-- The transfer record is emptied. -/
def emptyTransfer (k : ShuttleIx) (s : State) : State := modShuttle k (fun x => { x with transfer := none }) s

/-! ### The start rule (R152, R153) -/

/-- A row is neither sheltered nor watch. -/
def calmRow (s : State) (r : RowId) : Bool := !(s.row r).sheltered && !(s.row r).watch

/-- R152: a request is eligible. -/
def eligibleRequest (s : State) (q : Request) : Bool :=
  let b := s.robot q.robot
  calmRow s q.source && calmRow s q.destination && b.activity == .docked && b.place == .row q.source
    && !b.placementMark && s.robotLinkState q.robot != .lost && (q.cls == .host || !s.round.held)

/-- R152: the request that starts: the oldest eligible HOST request, else the oldest eligible ROUND request. -/
def nextRequest (s : State) (k : ShuttleIx) : Option Request :=
  let eligible := (s.shuttle k).queue.filter (eligibleRequest s)
  match eligible.find? fun q => q.cls == .host with
  | some q => some q
  | none => eligible.head?

/-- R153: a transfer starts; the shuttle record is marked, its queue being one shorter. -/
def startTransfer (k : ShuttleIx) (q : Request) (s : State) : State :=
  let before := (s.shuttle k).queue.length
  let t : Transfer :=
    { robot := q.robot, source := q.source, destination := q.destination, cls := q.cls, origin := q.origin,
      stage := .fetch, stranded := false, aborting := none }
  let s := markRewrite (.shuttle k) (modShuttle k (fun x =>
    { x with queue := x.queue.filter fun p => decide (p.robot ≠ q.robot), transfer := some t, state := .fetch }) s)
  leftFullQueue before k (startDrive k (s.site q.source).road .fetch s)

/-- R152: the start rule of a shuttle. -/
def evaluateStart (k : ShuttleIx) (s : State) : State :=
  if (s.shuttle k).state = .idle ∧ (s.shuttleConfig k).registered ∧ blockSheltered s (shuttleBlock s k) = false then
    match nextRequest s k with
    | some q => startTransfer k q s
    | none => s
  else s

/-- R147: a request joins the tail of a queue with its destination reserved, and the shuttle record is marked; the
start rule is evaluated. -/
def joinQueue (k : ShuttleIx) (q : Request) (s : State) : State :=
  push (.startRule k)
    (markRewrite (.shuttle k)
      (modShuttle k (fun x => { x with queue := x.queue ++ [q] }) (reserveRow q.destination q.robot s)))

/-- R150: the arbiter accepts a ROUND request of this robot for a destination. -/
def roundAccepted (s : State) (r : RobotId) (destination : RowId) : Option ShuttleIx :=
  match shuttleOf s (s.robotConfig r).block with
  | some k =>
    let x := s.shuttle k
    if x.state ≠ .withdrawn ∧ x.state ≠ .fault ∧ x.queue.length < 8 ∧ hasRequest s r = false
        ∧ reserveGranted s destination
    then some k else none
  | none => none

/-! ### Leaving a place; the board and alight operations (R41, R42) -/

/-- R42: a robot's row loses its occupant, or its shuttle its carried robot; its place becomes UNKNOWN. -/
def vacate (r : RobotId) (s : State) : State :=
  let s := match (s.robot r).place with
    | .unknown => s
    | .row x => modRow x (fun y => { y with occupant := if y.occupant = some r then none else y.occupant }) s
    | .shuttle k => modShuttle k (fun y => { y with carried := if y.carried = some r then none else y.carried }) s
  modRobot r (fun b => { b with place := .unknown }) s

/-- R41: board: the robot leaves its row, which is the source row but for a robot that a report has moved during BOARD
(assumption 21), and is carried by the shuttle. -/
def boardRobot (k : ShuttleIx) (r : RobotId) (s : State) : State :=
  let s := modRobot r (fun b => { b with place := .shuttle k }) (vacate r s)
  modShuttle k (fun x => { x with carried := some r }) s

/-- R41: alight: the robot leaves the shuttle, or the row to which a report has moved it (assumption 21), and is placed
at its destination, whose reservation goes. -/
def alightRobot (r : RobotId) (destination : RowId) (s : State) : State :=
  let s := modRobot r (fun b => { b with place := .row destination }) (vacate r s)
  modRow destination (fun x => { x with occupant := some r, reserved := none }) s

/-! ### Failures (R159 to R162) -/

/-- R160: the robot after a BOARD failure. -/
def haltBoarding (r : RobotId) (s : State) : State :=
  modRobot r (fun b => { b with activity := if b.activity = .boarding then .halted else b.activity }) s

/-- R161: the robot after a CARRY or ALIGHT failure; one with its placement mark set stays UNKNOWN
(assumption 22). -/
def haltAboard (r : RobotId) (s : State) : State :=
  modRobot r (fun b => { b with activity := if b.placementMark then b.activity else .halted }) s

/-- R160, R161: HALT is set for the robot and for the shuttle. -/
def haltBoth (k : ShuttleIx) (r : RobotId) (s : State) : State :=
  commandShuttle k .halt (commandRobot r .halt .arbiter s)

/-- R159. -/
def failFetch (k : ShuttleIx) (t : Transfer) (s : State) : State :=
  let s := emptyTransfer k (releaseRow t.destination t.robot s)
  enterFault k (finishTransfer k t (.failed .fetch) s)

/-- R160, with the cause given. -/
def failBoard (k : ShuttleIx) (t : Transfer) (cause : TransferCause) (s : State) : State :=
  let s := haltBoarding t.robot (haltBoth k t.robot s)
  let s := emptyTransfer k (releaseRow t.destination t.robot s)
  enterFault k (finishTransfer k t (.failed cause) s)

/-- R161: the record of a failed CARRY or ALIGHT stays, stranded, while its robot is aboard; where a report has taken
the robot off the shuttle already, the stranded transfer has ended: the reservation is released and the record emptied
(assumption 21). -/
def strand (k : ShuttleIx) (t : Transfer) (s : State) : State :=
  if (s.robot t.robot).place = .shuttle k then
    modShuttle k (fun x => { x with transfer := some { t with stranded := true, aborting := none } }) s
  else emptyTransfer k (releaseRow t.destination t.robot s)

/-- R161, with the cause given. -/
def failAboard (k : ShuttleIx) (t : Transfer) (cause : TransferCause) (s : State) : State :=
  let s := haltAboard t.robot (haltBoth k t.robot s)
  enterFault k (finishTransfer k t (.failed cause) (strand k t s))

/-- The stage of the transfer in service fails with its own cause, R159 to R161. -/
def failStage (k : ShuttleIx) (s : State) : State :=
  match (s.shuttle k).inService with
  | none => s
  | some t =>
    match t.stage with
    | .fetch => failFetch k t s
    | .board => failBoard k t .board s
    | .carry => failAboard k t .carry s
    | .alight => failAboard k t .alight s

/-- R154, R155: a transfer in FETCH or BOARD ends with cause PLACE. -/
def failPlace (k : ShuttleIx) (s : State) : State :=
  match (s.shuttle k).inService with
  | none => s
  | some t =>
    let s := commandShuttle k .halt s
    let s := emptyTransfer k (releaseRow t.destination t.robot s)
    becomeIdle k (finishTransfer k t (.failed .place) s)

/-- R162: the destination has been taken by another robot; its reservation is already released. -/
def failConflict (k : ShuttleIx) (s : State) : State :=
  match (s.shuttle k).inService with
  | none => s
  | some t =>
    match t.stage with
    | .fetch =>
      let s := emptyTransfer k (commandShuttle k .halt s)
      becomeIdle k (finishTransfer k t (.failed .conflict) s)
    | .board => failBoard k t .conflict s
    | .carry | .alight => failAboard k t .conflict s

/-- R166: the shelter drive fails. -/
def failShelter (k : ShuttleIx) (s : State) : State := enterFault k s

/-! ### Stages completed (R154 to R157) -/

/-- R154: FETCH completes. -/
def completeFetch (k : ShuttleIx) (t : Transfer) (s : State) : State :=
  commandRobot t.robot (.board k) .arbiter (startDockStage k .board .board s)

/-- R155: BOARD completes. -/
def completeBoard (k : ShuttleIx) (t : Transfer) (s : State) : State :=
  let s := boardRobot k t.robot s
  let s := modShuttle k (fun x =>
    { x with state := .carry, transfer := some { t with stage := .carry, aborting := none } }) s
  startDrive k (s.site t.destination).road .carry s

/-- R156: CARRY completes. -/
def completeCarry (k : ShuttleIx) (t : Transfer) (s : State) : State :=
  commandRobot t.robot (.alight t.destination) .arbiter (startDockStage k .alight .alight s)

/-- R157: the transfer ends; its robot is at the destination. -/
def endTransfer (k : ShuttleIx) (t : Transfer) (s : State) : State :=
  let s := emptyTransfer k (alightRobot t.robot t.destination s)
  if blockSheltered s (shuttleBlock s k) then finishTransfer k t .ended (goToShelter k s)
  else
    let s := modShuttle k (fun x => { x with state := .idle, deadline := none, goAcknowledged := false }) s
    push (.startRule k) (finishTransfer k t .ended s)

/-- R161: a stranded robot has arrived at its reservation; the shuttle stays in FAULT. -/
def endStranded (k : ShuttleIx) (t : Transfer) (s : State) : State :=
  emptyTransfer k (alightRobot t.robot t.destination s)

/-! ### Aborts and shelter (R164, R165) -/

/-- A transfer in FETCH is given up without a failure. -/
def cancelFetch (k : ShuttleIx) (t : Transfer) (detail : Nat) (s : State) : State :=
  finishTransfer k t (.cancelled detail) (emptyTransfer k (releaseRow t.destination t.robot s))

/-- R164, R165: an abort of BOARD begins; one already under way keeps its detail. -/
def abortBoard (k : ShuttleIx) (t : Transfer) (detail : Nat) (s : State) : State :=
  if t.aborting.isSome then s
  else
    commandRobot t.robot .gotoDock .arbiter
      (modShuttle k (fun x => { x with transfer := some { t with aborting := some detail } }) s)

/-- R164, R165: the robot is back at its source dock; the transfer is aborted. -/
def completeAbort (k : ShuttleIx) (t : Transfer) (detail : Nat) (s : State) : State :=
  let s := emptyTransfer k (releaseRow t.destination t.robot s)
  becomeIdle k (finishTransfer k t (.cancelled detail) s)

/-- R164: the arbiter acts on an abort request recorded for a MOVE ROBOT in slot n. -/
def abortTransfer (n : SlotIx) (s : State) : State :=
  let queued := allShuttles.find? fun k => (s.shuttle k).queue.any fun q => q.origin == some n
  match queued with
  | some k => dropRequests k (fun q => q.origin == some n) (.cancelled 0) s
  | none =>
    forEach allShuttles (fun k s =>
      match (s.shuttle k).inService with
      | none => s
      | some t =>
        if t.origin = some n then
          match t.stage with
          | .fetch => becomeIdle k (cancelFetch k t 0 (commandShuttle k .halt s))
          | .board => abortBoard k t 0 s
          | .carry | .alight => s
        else s) s

/-- R165: rows of the block of a shuttle have become sheltered. Step 1 takes every queued request that touches a
sheltered row, also one whose row was sheltered before it joined (assumption 60). -/
def shelterShuttle (k : ShuttleIx) (s : State) : State :=
  let s := dropRequests k (fun q => (s.row q.source).sheltered || (s.row q.destination).sheltered) (.cancelled 1) s
  match (s.shuttle k).state with
  | .idle => goToShelter k s
  | .fetch =>
    match (s.shuttle k).inService with
    | some t => goToShelter k (cancelFetch k t 1 s)
    | none => s
  | .board =>
    match (s.shuttle k).inService with
    | some t => abortBoard k t 1 s
    | none => s
  | .carry | .alight | .toShelter | .sheltered | .fault | .withdrawn => s

/-- R166, R152: a row of the shuttle's block has stopped being sheltered or watch. -/
def calmerShuttle (k : ShuttleIx) (s : State) : State :=
  let x := s.shuttle k
  if (x.state = .toShelter ∨ x.state = .sheltered) ∧ blockSheltered s (shuttleBlock s k) = false then
    evaluateStart k (modShuttle k (fun x => { x with state := .idle, deadline := none, goAcknowledged := false }) s)
  else evaluateStart k s

/-! ### What FieldLink tells the arbiter (R158) -/

/-- The shuttle state in which a SHUTTLE GO of each purpose is the drive under way. -/
def Purpose.drive : Purpose → ShuttleState
  | .fetch => .fetch | .carry => .carry | .shelter => .toShelter

/-- R158: a command to a shuttle. -/
def toldShuttle (k : ShuttleIx) (cmd : Cmd) (what : Told) (s : State) : State :=
  let x := s.shuttle k
  match cmd with
  | .shuttleGo _ purpose =>
    if x.state = purpose.drive then
      match what with
      | .delivered => modShuttle k (fun x => { x with goAcknowledged := true }) s
      | .noEcho | .superseded _ => if x.state = .toShelter then failShelter k s else failStage k s
    else s
  | _ => s

/-- R158: a command to a robot: BOARD, ALIGHT, or the GOTO DOCK of an abort. -/
def toldTransferRobot (r : RobotId) (cmd : Cmd) (what : Told) (s : State) : State :=
  match serviceOf s r with
  | none => s
  | some k =>
    match (s.shuttle k).inService with
    | none => s
    | some t =>
      let stageCommand : Bool := match cmd with
        | .board j => t.stage == .board && j == k
        | .gotoDock => t.stage == .board && t.aborting.isSome
        | .alight row => t.stage == .alight && row == t.destination
        | _ => false
      match what with
      | .delivered => s
      | .noEcho | .superseded _ => if stageCommand then failStage k s else s

/-! ### Shuttle reports (R146) -/

/-- R146: a report arrives at a target road position. -/
def arrives (x : Shuttle) (rep : ShuttleReport) (target : Nat) : Bool :=
  rep.state == .stopped && x.goAcknowledged
    && (match x.road with | some p => decide (absDiff p target ≤ 1) | none => false)

/-- R146: the arbiter acts on a shuttle's report. -/
def actOnShuttle (k : ShuttleIx) (rep : ShuttleReport) (s : State) : State :=
  let x := s.shuttle k
  let carries := rep.carried.isSome
  let fault := rep.state == .fault
  let halted := rep.state == .halted
  match x.state with
  | .idle | .sheltered => if fault || carries then enterFault k s else s
  | .toShelter =>
    if fault || halted || carries then failShelter k s
    else if arrives x rep (s.shuttleConfig k).shelter then
      modShuttle k (fun x => { x with state := .sheltered, deadline := none }) s
    else s
  | .fault | .withdrawn => s
  | .fetch =>
    match x.inService with
    | none => s
    | some t =>
      if fault || halted || carries then failStage k s
      else if arrives x rep (s.site t.source).road then completeFetch k t s
      else s
  | .carry =>
    match x.inService with
    | none => s
    | some t =>
      if fault || halted then failStage k s
      else if arrives x rep (s.site t.destination).road then completeCarry k t s
      else s
  | .board | .alight => if fault then failStage k s else s

end Sys2Proof.Machine
end

