-- ==== Sys2Proof/Machine/Storm.lean ====
section
/-!
DEFINITION. The storm supervisor (chapter 9): row flags and summary, sets of robots and storm targets, parking,
release, and the windows of the anemometers.
-/

namespace Sys2Proof.Machine

/-! ### Row flags and summary (R184, R185) -/

/-- The rows that satisfy p. -/
def rowsWhere (p : RowId → Bool) : List RowId := allRows.filter p

/-- The robots placed at one of these rows. -/
def robotsAt (s : State) (rows : List RowId) : List RobotId :=
  allRobots.filter fun r => match (s.robot r).row? with | some x => rows.contains x | none => false

/-- R184: every present row's flags are recomputed from the alert table. -/
def setFlags (s : State) : State :=
  { s with rows := tabulate fun r =>
      { tget s.rows r with sheltered := shelteredBy s r, watch := watchedBy s r } }

/-- R184: the notices that a change of the flags gives: rows newly covered to the planner (R138), rows newly
sheltered to each block's shuttle (R165), rows released to the supervisor (R198), and, for each block with a row that
stopped being sheltered or watch, its shuttle (R166, R152) and its robots (R128). -/
def flagNotices (old new : State) : List Job :=
  let nowSheltered := rowsWhere fun r => (new.row r).sheltered && !(old.row r).sheltered
  let nowCovered := rowsWhere fun r =>
    ((new.row r).sheltered && !(old.row r).sheltered) || ((new.row r).watch && !(old.row r).watch)
  let released := rowsWhere fun r => !(new.row r).sheltered && (old.row r).sheltered
  let calmer := rowsWhere fun r =>
    (!(new.row r).sheltered && (old.row r).sheltered) || (!(new.row r).watch && (old.row r).watch)
  let touched (rows : List RowId) : List Nat := allBlocks.filter fun b => rows.any fun r => inBlock new b r
  (if nowCovered = [] then [] else [.rowsCovered nowCovered])
    ++ ((touched nowSheltered).map fun b => .rowsSheltered b)
    ++ (if released = [] then [] else [.rowsReleased released])
    ++ (touched calmer).flatMap fun b => [.blockCalmer b, .examineBlock b]

/-- R198: the release mark of a robot goes when its row becomes sheltered again. -/
def dropRelease (rows : List RowId) (s : State) : State :=
  forEach (robotsAt s rows) (fun r => modRobot r (fun b => { b with storm := { b.storm with release := false } })) s

/-- R184: the flags are recomputed and the blocks told. -/
def refreshFlags (s : State) : State :=
  let t := setFlags s
  let again := rowsWhere fun r => (t.row r).sheltered && !(s.row r).sheltered
  pushAll (flagNotices s t) (dropRelease again t)

/-- A change of one alert record: the summary (R185) and the row flags (R184) follow it. -/
def changeAlert (n : AlertIx) (f : Alert → Alert) (s : State) : State :=
  let t := modAlert n f s
  refreshFlags (if stormSummary t = stormSummary s then t else setNotice .storm t)

/-! ### Sets and targets (9.5) -/

/-- What the record holds of a robot. -/
def Alert.member (a : Alert) (r : RobotId) : Member := tget a.members r

/-- The robot belongs to some record's set. -/
def inSomeSet (s : State) (r : RobotId) : Bool := allAlerts.any fun n => (s.alert n).member r != .out

/-- R195: a robot that belongs to no set has no storm target. -/
def dropTarget (r : RobotId) (s : State) : State :=
  if inSomeSet s r then s
  else modRobot r (fun b =>
    { b with storm := { StormMarks.clear with release := b.storm.release, retry := b.storm.release && b.storm.retry } }) s

/-- The set of a record is cleared; robots left in no set have no target. -/
def clearSet (n : AlertIx) (s : State) : State :=
  forEach allRobots dropTarget (modAlert n (fun a => { a with members := tfill 48 .out }) s)

/-- The storm command of a target. -/
def StormTarget.command : StormTarget → Cmd
  | .clamp => .clamp
  | .dock | .none => .gotoDock

/-- R192: a robot takes a storm target and its command is set. -/
def setTarget (r : RobotId) (t : StormTarget) (s : State) : State :=
  let s := modRobot r (fun b =>
    { b with storm := { b.storm with target := t, enRoute := false, acknowledged := false, retry := false } }) s
  commandRobot r t.command .supervisor s

/-- R192: the travel time from a position. -/
def travelTime (position speed : Nat) : Nat := ceilDiv (position * 60) speed

/-- R192: the robot can reach its dock before a deadline. -/
def reachesDock (s : State) (r : RobotId) (deadline : Nat) : Bool :=
  decide (s.siteSecond < deadline)
    && decide (travelTime (s.robot r).position (s.robotConfig r).speed + s.params.parkMargin ≤ deadline - s.siteSecond)

/-- R192: the target of a member of a PARKING record. A target of CLAMP from another record stays. -/
def decideTarget (s : State) (n : AlertIx) (r : RobotId) : StormTarget :=
  if (s.robot r).storm.target = .clamp then .clamp
  else if reachesDock s r (s.alert n).deadline then .dock else .clamp

/-- Results of an answered PARK order, R189. -/
def parkResults (s : State) (n : AlertIx) : List Word :=
  [word n.1, word (s.alert n).toSecure, word (s.alert n).secured]

/-- R189: the held PARK order of a record is answered. -/
def answerHeld (n : AlertIx) (cls : AnswerClass) (detail : Nat) (results : List Word) (s : State) : State :=
  match (s.alert n).heldSlot with
  | some slot => answer slot cls detail results (modAlert n (fun a => { a with heldSlot := none }) s)
  | none => s

/-- R193: a PARKING record whose members are all secured becomes PARKED. -/
def checkParked (n : AlertIx) (s : State) : State :=
  let a := s.alert n
  if a.state = .parking ∧ a.secured = a.toSecure then
    answerHeld n .done 0 (parkResults s n) (changeAlert n (fun a => { a with state := .parked }) s)
  else s

/-- One more robot to secure or robot secured. Both counts stop at 48, the top of their range in R183, where counts
kept over SETUP (R199) and later joins (R195) would together pass it (the model's choice, assumption 69). -/
def countRobot (count : Nat) : Nat := satAdd 48 count 1

/-- R191, R195: a robot joins a record's set, and the robots to secure go up by 1, to 48 at most (assumption 69). -/
def joinSet (n : AlertIx) (r : RobotId) (as_ : Member) (s : State) : State :=
  modAlert n (fun a =>
    { a with members := tset a.members r as_, toSecure := countRobot a.toSecure,
             secured := if as_ = .secured then countRobot a.secured else a.secured }) s

/-- R193: a member is counted secured in every record in whose set it is unsecured, to 48 at most (assumption 69). -/
def secureMember (r : RobotId) (s : State) : State :=
  forEach allAlerts (fun n s =>
    if (s.alert n).member r = .unsecured then
      checkParked n (modAlert n (fun a => { a with members := tset a.members r .secured, secured := countRobot a.secured }) s)
    else s) s

/-- R195: a member whose place is no longer a matching row leaves the set. -/
def leaveSets (r : RobotId) (s : State) : State :=
  let leaves (s : State) (n : AlertIx) : Bool :=
    (s.alert n).member r != .out
      && (match (s.robot r).row? with | some x => !(s.alert n).covers x | none => true)
  dropTarget r (forEach allAlerts (fun n s =>
    if leaves s n then
      checkParked n (modAlert n (fun a =>
        { a with members := tset a.members r .out, toSecure := a.toSecure - 1,
                 secured := if a.member r = .secured then a.secured - 1 else a.secured }) s)
    else s) s)

/-! ### Parking (R191) -/

/-- The robot stands at a row the record matches. -/
def standsIn (s : State) (n : AlertIx) (r : RobotId) : Bool :=
  match (s.robot r).row? with | some x => (s.alert n).covers x | none => false

/-- R191 step 4: the activities of members. -/
def Activity.onRail : Activity → Bool
  | .cleaning | .returning | .clamped => true
  | _ => false

/-- The pass of the robot is ON RAIL. -/
def Robot.passOnRail (b : Robot) : Bool := match b.pass with | some p => p.phase == .onRail | none => false

/-- R191 step 4: a member's part: a robot clamped under an earlier shelter is counted secured at once; any other
takes its target, with its command set where the target is new (assumption 27). One secured at once is counted so in the
record entering PARKING alone (assumption 58). -/
def parkMember (n : AlertIx) (wasSheltered : RobotId → Bool) (r : RobotId) (s : State) : State :=
  if (s.robot r).activity = .clamped ∧ wasSheltered r then joinSet n r .secured s
  else
    let t := decideTarget s n r
    let s := joinSet n r .unsecured s
    if (s.robot r).storm.target = t then s else setTarget r t s

/-- R191 step 5: a member is sent a command in step 4. -/
def memberCommanded (s : State) (n : AlertIx) (wasSheltered : RobotId → Bool) (r : RobotId) : Bool :=
  !((s.robot r).activity == .clamped && wasSheltered r) && (s.robot r).storm.target != decideTarget s n r

/-- R191: a record enters PARKING with this deadline. -/
def enterParking (n : AlertIx) (deadline : Nat) (s : State) : State :=
  let old := s
  let wasSheltered (r : RobotId) : Bool := match (old.robot r).row? with | some x => (old.row x).sheltered | none => false
  let s := clearSet n s
  let s := changeAlert n (fun a =>
    { a with state := .parking, deadline := deadline, toSecure := 0, secured := 0, late := 0 }) s
  let s := pushPark n (pushPark n (pushPark n s))
  let s := forEach (allRobots.filter fun r =>
      standsIn s n r && (s.robot r).activity == .cleaning && (s.robot r).passOnRail)
    (fun r => endInterrupted r .storm) s
  let members := allRobots.filter fun r => standsIn s n r && (s.robot r).activity.onRail
  let commanded := members.filter (memberCommanded s n wasSheltered)
  let s := forEach members (parkMember n wasSheltered) s
  let s := forEach commanded (fun r => pushUrgent (robotLink r)) s
  checkParked n s

/-- The members of a record not yet secured. -/
def unsecuredMembers (s : State) (n : AlertIx) : List RobotId :=
  allRobots.filter fun r => (s.alert n).member r == .unsecured

/-- R194: the deadline of a PARKING record expires. The late members are taken in ascending robot id (assumption 66). -/
def expireParking (n : AlertIx) (s : State) : State :=
  let late := unsecuredMembers s n
  if late = [] then checkParked n s
  else
    let s := setNotice .parkLate (changeAlert n (fun a => { a with state := .parked, late := late.length }) s)
    let s := answerHeld n .failed late.length (parkResults s n) s
    forEach late (fun r s => pushUrgent (robotLink r) (setTarget r .clamp s)) s

/-- R192: a deadline moved earlier; members that no longer reach their docks are sent CLAMP. -/
def redecide (n : AlertIx) (s : State) : State :=
  forEach ((unsecuredMembers s n).filter fun r => (s.robot r).storm.target == .dock)
    (fun r s => if decideTarget s n r = .dock then s else setTarget r .clamp s) s

/-! ### Release (R197, R198) -/

/-- R183, R197: a record becomes FREE. -/
def freeAlert (n : AlertIx) (s : State) : State :=
  let s := modLink (fun l => { l with heldBroadcast := tset l.heldBroadcast n 0 }) (clearSet n s)
  changeAlert n (fun a => { a with state := .free, heldSlot := none }) s

/-- R182: a record becomes WATCH, with no set (assumption 28). -/
def watchAlert (n : AlertIx) (s : State) : State :=
  changeAlert n (fun a => { a with state := .watch, calm := 0 }) (clearSet n s)

/-- R197: a record enters RELEASING. -/
def enterReleasing (n : AlertIx) (holdOff : Nat) (s : State) : State :=
  changeAlert n (fun a => { a with state := .releasing, holdOff := later s holdOff }) s

/-- R197, R182: the hold-off of a RELEASING record expires. -/
def expireHoldOff (n : AlertIx) (s : State) : State :=
  if (s.alert n).fault then watchAlert n s else freeAlert n s

/-- R190: the longest hold-off among the four anemometer sets, in seconds. -/
def hostHoldOff (s : State) : Nat :=
  60 * (List.finRange 4).foldl (fun acc a => max acc (tget s.params.anemometers a).holdOff) 0

/-- R198: rows have stopped being sheltered; each CLAMPED robot placed there is sent to its dock. -/
def releaseRobots (rows : List RowId) (s : State) : State :=
  forEach ((robotsAt s rows).filter fun r => (s.robot r).activity == .clamped) (fun r s =>
    commandRobot r .gotoDock .supervisor
      (modRobot r (fun b => { b with storm := { b.storm with release := true, retry := false } }) s)) s

/-! ### Reports (R193, R195, R196, R198) -/

/-- R195: the record to which a robot's report of CLEANING or RETURNING joins it. Its command is set and an urgent entry
pushed at every join, also where another record has given it that target already; its marks then stand (assumption
59). -/
def joinByReport (r : RobotId) (n : AlertIx) (s : State) : State :=
  if (s.alert n).state.shelters ∧ standsIn s n r ∧ (s.alert n).member r = .out then
    let row := (s.robot r).row?
    let s := if (s.robot r).activity = .cleaning ∧ (s.robot r).passOnRail ∧ (s.robot r).passRow = row
      then endInterrupted r .storm s else s
    let t := if (s.alert n).state = .parking then decideTarget s n r else .clamp
    let s := joinSet n r .unsecured s
    pushUrgent (robotLink r)
      (if (s.robot r).storm.target = t then
        commandRobot r t.command .supervisor
          (modRobot r (fun b => { b with storm := { b.storm with retry := false } }) s)
      else setTarget r t s)
  else s

/-- R193: the report meets the robot's target. -/
def meetsTarget (m : StormMarks) (a : Activity) : Bool :=
  match m.target with
  | .none => false
  | .clamp => a == .clamped || a == .docked
  | .dock => a == .docked || (a == .clamped && m.enRoute)

/-- The robot is an unsecured member of some set. -/
def unsecuredSomewhere (s : State) (r : RobotId) : Bool := allAlerts.any fun n => (s.alert n).member r == .unsecured

/-- R193: a report that meets the target counts the robot secured; a DOCK member clamped on its way home takes the
target CLAMP. -/
def secureByReport (r : RobotId) (a : Activity) (s : State) : State :=
  if unsecuredSomewhere s r && meetsTarget (s.robot r).storm a then
    secureMember r
      (if a = .clamped then modRobot r (fun b => { b with storm := { b.storm with target := .clamp } }) s else s)
  else s

/-- R196, R198: a command that failed or was superseded is set again. The report in whose handling the arbiter has
superseded it counts as the robot's next delivered report (assumption 62). -/
def retryCommand (r : RobotId) (a : Activity) (s : State) : State :=
  let m := (s.robot r).storm
  if m.retry then
    if unsecuredSomewhere s r then
      commandRobot r m.target.command .supervisor
        (modRobot r (fun b => { b with storm := { b.storm with retry := false, acknowledged := false } }) s)
    else if m.release ∧ a = .clamped then
      commandRobot r .gotoDock .supervisor (modRobot r (fun b => { b with storm := { b.storm with retry := false } }) s)
    else s
  else s

/-- The supervisor's share of a robot's report. Where it joins the sets of several records, it joins them in ascending
record (assumption 63). -/
def stormReport (r : RobotId) (rep : RobotReport) (s : State) : State :=
  let a := rep.activity
  let b := s.robot r
  let s := if a = .returning ∧ b.storm.target = .dock ∧ b.storm.acknowledged then
      modRobot r (fun b => { b with storm := { b.storm with enRoute := true } }) s else s
  let s := if a = .docked ∨ a = .halted ∨ a = .fault then
      modRobot r (fun b => { b with storm := { b.storm with release := false } }) s else s
  let s := secureByReport r a s
  let s := retryCommand r a s
  if (a = .cleaning ∨ a = .returning) ∧ b.placementMark = false then forEach allAlerts (joinByReport r) s else s

/-- R196: what FieldLink tells the supervisor of a GOTO DOCK or CLAMP. -/
def toldSupervisor (r : RobotId) (cmd : Cmd) (what : Told) (s : State) : State :=
  match what with
  | .delivered =>
    if cmd = .gotoDock then modRobot r (fun b => { b with storm := { b.storm with acknowledged := true } }) s else s
  | .noEcho | .superseded _ => modRobot r (fun b => { b with storm := { b.storm with retry := true } }) s

/-! ### Anemometers (R180 to R182, R186) -/

/-- R180: the speed of a window, in 0.1 m/s. -/
def windSpeed (pulses metres : Nat) : Nat := pulses * metres / 300

/-- R181: a speed enters the history of at most 200. -/
def enterSpeed (speed : Nat) (xs : List Nat) : List Nat := (speed :: xs).take 200

/-- R181: the mean over the speeds held. -/
def meanSpeed (xs : List Nat) : Nat := xs.foldl (· + ·) 0 / xs.length

/-- The record of an anemometer. -/
def anemAlert (a : AnemIx) : AlertIx := ⟨a.1, by omega⟩

/-- R182: a fault window. -/
def faultWindow (n : AlertIx) (s : State) : State :=
  if (s.alert n).fault then s
  else
    let s := setNotice .anemometerFault (modAlert n (fun a => { a with fault := true }) s)
    match (s.alert n).state with
    | .free => watchAlert n s
    | .watch => modAlert n (fun a => { a with calm := 0 }) s
    | .parking | .parked | .releasing => s

/-- R186: the transition of a record at a good window. -/
def windowTransition (n : AlertIx) (p : AnemometerParams) (gust mean : Nat) (s : State) : State :=
  let parks := decide (p.parkGust ≤ gust) || decide (p.parkMean ≤ mean)
  let blows := decide (p.watchGust ≤ gust)
  let park := enterParking n (later s p.parkDeadline)
  match (s.alert n).state with
  | .free => if parks then park s else if blows then watchAlert n s else s
  | .watch =>
    if parks then park s
    else if blows then modAlert n (fun a => { a with calm := 0 }) s
    else if 100 ≤ (s.alert n).calm + 1 then freeAlert n (modAlert n (fun a => { a with calm := a.calm + 1 }) s)
    else modAlert n (fun a => { a with calm := a.calm + 1 }) s
  | .parking | .parked =>
    if mean < p.releaseMean ∧ gust < p.watchGust then enterReleasing n (60 * p.holdOff) s else s
  | .releasing =>
    if parks then park s
    else if blows then modAlert n (fun a => { a with holdOff := later s (60 * p.holdOff) }) s
    else s

/-- R180 to R182: a window ends. -/
def endWindow (a : AnemIx) (s : State) : State :=
  let p := tget s.params.anemometers a
  let pulses := (tget s.anemometers a).pulses
  let s := modAnemometer a (fun x => { x with pulses := 0, windowDue := x.windowDue.map fun t => (t + 3) % 4294967296 }) s
  if 600 < pulses then faultWindow (anemAlert a) s
  else
    let speed := windSpeed pulses p.metres
    let s := modAnemometer a (fun x => { x with gust := speed, speeds := enterSpeed speed x.speeds }) s
    let s := modAlert (anemAlert a) (fun x => { x with fault := false }) s
    windowTransition (anemAlert a) p speed (meanSpeed (tget s.anemometers a).speeds) s

end Sys2Proof.Machine
end

