-- ==== Sys2Proof/Machine/Placement.lean ====
section
/-!
DEFINITION. Place, occupancy and reservation in the record store (R41 to R44): a robot leaves a place, is placed at a
row, conflicts with its occupant, or arrives at its own reservation.
-/

namespace Sys2Proof.Machine

/-! ### Leaving a place -/

/-- What the arbiter does when a robot leaves its place otherwise than by its operations: a queued request fails with
cause PLACE (R151), and a stranded record is emptied with its reservation released (R161). A transfer in service goes
on: its stage deals with the report that moved the robot (R154 to R157, assumption 21). -/
def leaveTransfers (r : RobotId) (s : State) : State :=
  let s := dropRobotRequest r (.failed .place) s
  match strandedOf s r with
  | some k =>
    match (s.shuttle k).transfer with
    | some t => emptyTransfer k (releaseRow t.destination r s)
    | none => s
  | none => s

/-- A robot leaves its place, R42. -/
def leavePlace (r : RobotId) (s : State) : State := vacate r (leaveTransfers r s)

/-! ### Reservations of others (R42, R151, R162) -/

/-- R42: the transfer whose destination another robot takes fails with cause CONFLICT; the reservation is released
first. -/
def takeReservation (row : RowId) (r : RobotId) (s : State) : State :=
  match (s.row row).reserved with
  | none => s
  | some q =>
    if q = r then s
    else
      let s := releaseRow row q s
      match queueOf s q with
      | some k => dropRequests k (fun x => x.robot == q) (.failed .conflict) s
      | none =>
        match serviceOf s q with
        | some k => failConflict k s
        | none => s

/-! ### Placement and conflict (R42, R43) -/

/-- R43: a robot of a conflict becomes unplaced. -/
def unplace (r : RobotId) (s : State) : State :=
  modRobot r (fun b => { b with place := .unknown, placementMark := true, activity := .unknown }) s

/-- R43: a transfer of the robot in FETCH or BOARD ends with cause PLACE. -/
def endBoarding (r : RobotId) (s : State) : State :=
  match serviceOf s r with
  | some k =>
    match (s.shuttle k).inService with
    | some t =>
      match t.stage with
      | .fetch | .board => failPlace k s
      | .carry | .alight => s
    | none => s
  | none => s

/-- R43: the pass, the context and the boarding of a robot of a conflict end. -/
def endWork (r : RobotId) (s : State) : State := leaveSets r (endBoarding r (abandonOwned r (endAbandoned r s)))

/-- R43: a placement conflict of robot r with the occupant o of a row. The occupant's work ends first, then that of the
robot that reported, whose context therefore becomes the free list's head (assumption 51). -/
def conflict (r o : RobotId) (row : RowId) (s : State) : State :=
  let s := leavePlace o s
  let s := modRow row (fun x => { x with contested := true, occupant := none }) s
  let s := unplace r (unplace o s)
  let s := setNotice .placementConflict s
  leaveList row (endWork r (endWork o s))

/-- The robot is placed at an unoccupied row. -/
def settle (r : RobotId) (row : RowId) (s : State) : State :=
  let s := modRobot r (fun b => { b with place := .row row, placementMark := false }) s
  let s := modRow row (fun x => { x with occupant := some r }) s
  leaveSets r (contextAtRow r row s)

/-- R42, last case: the robot leaves its place and is placed at a row, or conflicts with its occupant. -/
def placeAt (r : RobotId) (row : RowId) (s : State) : State :=
  let s := takeReservation row r (leavePlace r s)
  match (s.row row).occupant with
  | some o => if o = r then settle r row s else conflict r o row s
  | none => settle r row s

/-- R42: a report from a robot at its own reservation is an arrival: it ends a transfer in CARRY or ALIGHT (R157) and
a stranded record (R161), and fails one in FETCH or BOARD, or a queued request, with cause PLACE, the robot being then
placed by the last case of R42 (R154, R155, assumptions 23 and 53). -/
def arrive (r : RobotId) (row : RowId) (s : State) : State :=
  let s := modRobot r (fun b => { b with placementMark := false }) s
  match serviceOf s r with
  | some k =>
    match (s.shuttle k).inService with
    | some t =>
      match t.stage with
      | .carry | .alight => leaveSets r (contextAtRow r row (endTransfer k t s))
      | .fetch | .board => placeAt r row (failPlace k s)
    | none => s
  | none =>
    match strandedOf s r with
    | some k =>
      match (s.shuttle k).transfer with
      | some t => leaveSets r (contextAtRow r row (endStranded k t s))
      | none => s
    | none => placeAt r row s

/-- A row at which a report may place a robot: present, and in the robot's block. -/
def rowOfBlock (s : State) (r : RobotId) (row : RowId) : Bool :=
  (s.site row).present && (s.site row).block == (s.robotConfig r).block

/-- The activities that place nobody, R42, R44. -/
def Activity.moving : Activity → Bool
  | .boarding | .aboard | .alighting => true
  | _ => false

/-- R42: a report from a robot whose placement mark is set. Should a pass stand, it ends abandoned first, as in R44; none
does in a run, since what sets the mark has ended it (R33, R43, R46, R71; assumption 64). -/
def placeByReport (r : RobotId) (rep : RobotReport) (s : State) : State :=
  if rep.activity.moving then s
  else if !rowOfBlock s r rep.row then s
  else if (s.row rep.row).contested then s
  else if (s.robot r).place = .row rep.row then modRobot r (fun b => { b with placementMark := false }) s
  else
    let s := endAbandoned r s
    if (s.row rep.row).reserved = some r then arrive r rep.row s else placeAt r rep.row s

/-- R44: a report from a robot whose mark is clear. A contested row moves nobody (assumption 20). A pass under way
ends abandoned first (R137), and with it a context that a resumed pass still owns, so that in a conflict its record is
freed before the occupant's (assumption 51). -/
def moveByReport (r : RobotId) (rep : RobotReport) (s : State) : State :=
  if rep.activity.moving then s
  else if (serviceOf s r).isSome then s
  else if (s.robot r).place = .row rep.row then s
  else if !rowOfBlock s r rep.row then s
  else if (s.row rep.row).contested then s
  else
    let s := endAbandoned r s
    if (s.row rep.row).reserved = some r then arrive r rep.row s else placeAt r rep.row s

end Sys2Proof.Machine
end

