-- ==== Sys2Proof/Machine/Rounds.lean ====
section
/-!
DEFINITION. The round planner (chapter 6): free robots, assignment and examination, the start of passes, the
planner's share of a report, the end of a round.
-/

namespace Sys2Proof.Machine

/-! ### Free robots (R127) -/

/-- R119: the block is in the round's mask. -/
def inMask (s : State) (b : Nat) : Bool := s.round.blocks.getLsbD b

/-- R127: every condition of freedom but the doze flag. -/
def freeButDoze (s : State) (r : RobotId) : Bool :=
  let b := s.robot r
  let link := s.robotLinkState r
  inFleet s r && inMask s (s.robotConfig r).block && !b.placementMark && b.row?.isSome && b.activity == .docked
    && (link == .linked || link == .weak) && decide (s.params.passReserve ≤ b.soc) && !hasRequest s r
    && b.pass.isNone && !b.noEchoBar

/-- The doze flag of a robot. -/
def dozing (s : State) (r : RobotId) : Bool := (s.entry (robotLink r)).doze

/-- R127: the robot is free. -/
def isFree (s : State) (r : RobotId) : Bool := freeButDoze s r && !dozing s r

/-- R127: the robot is free but dozing. -/
def isFreeDozing (s : State) (r : RobotId) : Bool := freeButDoze s r && dozing s r

/-! ### Passes begun (R132) -/

/-- R132: passes started goes up by 1. -/
def countStart (s : State) : State := modRound (fun x => { x with started := satAdd max16 x.started 1 }) s

/-- R132: a fresh pass on a row. -/
def startFresh (r : RobotId) (row : RowId) (s : State) : State :=
  let p : Pass :=
    { row := row, kind := .fresh, phase := .issued, covered := 0, furthestLeg := .out, furthestPosition := 0,
      energy := 0 }
  countStart
    (modRobot r (fun b => { b with pass := some p, surfaceTaken := false })
      (commandRobot r (.clean row .out 0) .planner s))

/-- R132: a resumed pass of a context. -/
def startResume (r : RobotId) (c : CtxIx) (s : State) : State :=
  let x := s.context c
  let p : Pass :=
    { row := x.rowId, kind := .resume c, phase := .issued, covered := x.covered, furthestLeg := x.leg,
      furthestPosition := x.position, energy := x.energy }
  countStart
    (modRobot r (fun b => { b with pass := some p })
      (commandRobot r (.clean x.rowId x.leg x.position) .planner s))

/-! ### Assignment (R129, R130) -/

/-- R129 step 4: the first row of the list that a robot may be sent to. -/
def transferTarget (s : State) (r : RobotId) : Option RowId :=
  (s.round.candidates.find? fun p =>
    let x := s.row p.1
    blockOf s p.1 == (s.robotConfig r).block && calmRow s p.1 && x.occupant.isNone
      && (p.2 || decide (0 < x.lastScore - (s.params.transferCost : Int)))).map (·.1)

/-- R129: the work that the assignment offers a robot. -/
inductive Work where
  | resume (c : CtxIx)
  | target (row : RowId)
  | ownRow (row : RowId)
  | transfer (source destination : RowId) (k : ShuttleIx)
  deriving DecidableEq, Repr

/-- R129 steps 2 to 4 for a robot at a calm row that owns no context. -/
def workWithoutContext (s : State) (r : RobotId) (row : RowId) : Option Work :=
  if (s.robot r).target = some row ∧ (s.row row).enabled then some (.target row)
  else if isCandidate s row then some (.ownRow row)
  else match transferTarget s r with
    | some d => (roundAccepted s r d).map (Work.transfer row d)
    | none => none

/-- R129: the first step that gives the robot work; `none` where steps 1 to 4 give none. -/
def workFor (s : State) (r : RobotId) (row : RowId) : Option Work :=
  match (s.robot r).context with
  | some c => some (.resume c)
  | none => workWithoutContext s r row

/-- R129 step 3 and 4: rows assigned goes up by 1 (assumption 46). -/
def countAssigned (s : State) : State := modRound (fun x => { x with assigned := x.assigned + 1 }) s

/-- The robot's target row is cleared. -/
def clearTarget (r : RobotId) (s : State) : State := modRobot r (fun b => { b with target := none }) s

/-- R129: the robot is given its work. A target row that CLEAN ROW has put back in the list leaves it with no row
counted as assigned: the list never holds the pass row of a robot in CLEANING (R123, assumption 48). -/
def giveWork (r : RobotId) (s : State) : Work → State
  | .resume c => startResume r c s
  | .target row => startFresh r row (leaveList row (clearTarget r s))
  | .ownRow row => startFresh r row (countAssigned (leaveList row s))
  | .transfer source destination k =>
    let q : Request := { robot := r, source := source, destination := destination, cls := .round, origin := none }
    joinQueue k q
      (modRobot r (fun b => { b with target := some destination }) (countAssigned (leaveList destination s)))

/-- R129 step 2: a target row reached that has been disabled is cleared. -/
def dropDisabledTarget (r : RobotId) (row : RowId) (s : State) : State :=
  if (s.robot r).context.isNone ∧ (s.robot r).target = some row ∧ (s.row row).enabled = false then clearTarget r s
  else s

/-- R129 step 5. -/
def setDoze (r : RobotId) (s : State) : State :=
  if plannerPending s r (· == .doze) then s else commandRobot r .doze .planner s

/-- R130. -/
def setWake (r : RobotId) (s : State) : State :=
  if plannerPending s r (· == .wake) then s else commandRobot r .wake .planner s

/-- R129: the assignment of a free robot at a row. -/
def assign (r : RobotId) (row : RowId) (s : State) : State :=
  if calmRow s row then
    let s := dropDisabledTarget r row s
    match workFor s r row with
    | some w => giveWork r s w
    | none => setDoze r s
  else s

/-- R130: a robot that is free but dozing is woken where there is work for it. -/
def wakeFor (r : RobotId) (row : RowId) (s : State) : State :=
  if calmRow s row && (workFor s r row).isSome then setWake r s else s

/-- R128: an examination. -/
def examine (r : RobotId) (s : State) : State :=
  if s.round.state = .active ∧ s.round.held = false then
    match (s.robot r).row? with
    | some row => if isFree s r then assign r row s else if isFreeDozing s r then wakeFor r row s else s
    | none => s
  else s

/-- The registered robots of a block, ascending. -/
def robotsOfBlock (s : State) (b : Nat) : List RobotId :=
  allRobots.filter fun r => (s.robotConfig r).registered && (s.robotConfig r).block == b

/-- The registered robots of the masked blocks, ascending. -/
def robotsOfMask (s : State) : List RobotId :=
  allRobots.filter fun r => (s.robotConfig r).registered && inMask s (s.robotConfig r).block

/-! ### What the arbiter and FieldLink tell the planner (R131, R133) -/

/-- R131. -/
def transferReported (r : RobotId) (row : RowId) (what : TransferReport) (s : State) : State :=
  match what with
  | .ended => examine r s
  | .failed | .cancelled => push (.examine r) (reinsertRow row (clearTarget r s))

/-- R133: a CLEAN is delivered: the context of a resumed pass is released (R175), also where a report of CLEANING with
an older echo has put the pass on the rail before (assumption 49). -/
def cleanDelivered (r : RobotId) (s : State) : State :=
  match (s.robot r).context with
  | some c => if (s.robot r).resumes c then freeContext c s else s
  | none => s

/-- R133: a CLEAN has failed with NO ECHO: the pass ends without effect, and the bar is set (assumption 32). -/
def cleanFailed (r : RobotId) (s : State) : State :=
  let s := modRobot r (fun b => { b with noEchoBar := true }) s
  match (s.robot r).pass with
  | none => s
  | some p =>
    match p.kind with
    | .fresh => reinsertRow p.row (clearPass r s)
    | .resume _ => clearPass r s

/-- R133: a CLEAN is superseded by another owner: the pass ends interrupted with cause STORM; a resumed pass whose
context is still owned keeps it, its cause, round number and second as they stand (assumption 57). -/
def cleanSuperseded (r : RobotId) (s : State) : State :=
  match (s.robot r).context with
  | some c => if (s.robot r).resuming c then push (.examine r) (clearPass r s) else endInterrupted r .storm s
  | none => endInterrupted r .storm s

/-- A CLEAN. -/
def Cmd.isClean : Cmd → Bool
  | .clean _ _ _ => true
  | _ => false

/-- R133, R130, R138: what FieldLink tells the planner of a command. -/
def toldPlanner (r : RobotId) (cmd : Cmd) (what : Told) (s : State) : State :=
  if cmd.isClean then
    match what with
    | .delivered => cleanDelivered r s
    | .noEcho => cleanFailed r s
    | .superseded _ => cleanSuperseded r s
  else s

/-- R136: a robot's link is lost. Its pass ends interrupted, a CLEAN still pending is cleared, and its homing and
recall marks go (R140, R143). -/
def plannerLost (r : RobotId) (s : State) : State :=
  let s := if (s.robot r).pass.isSome && plannerPending s r Cmd.isClean then clearCommand (robotLink r) s else s
  let s := endInterrupted r .linkLost s
  push .closeCheck (modRobot r (fun b => { b with homingMark := false, recallMark := false }) s)

/-! ### The planner's share of a report (R134 to R137, R140, R143) -/

/-- R134: the measure of a position on a leg. -/
def passMeasure (length : Nat) (leg : Leg) (position : Nat) : Nat :=
  match leg with | .out => position | .back => 2 * length - position

/-- R134: a report of CLEANING taken into the pass record. The energy so far saturates at 2^32 - 1 (assumption 54). -/
def Pass.progress (p : Pass) (length : Nat) (b : Robot) (row : RowId) (diff : Nat) : Pass :=
  let p := if row = p.row then { p with phase := .onRail } else p
  let p := if p.phase = .onRail then { p with energy := satAdd max32 p.energy diff } else p
  let m := passMeasure length b.leg b.position
  if row = p.row ∧ p.covered < m then { p with covered := m, furthestLeg := b.leg, furthestPosition := b.position }
  else p

/-- R136: the context cause of a report of RETURNING. -/
def returnCause (fault : Nat) : ContextCause :=
  if fault = Config.lowBattery then .lowBattery else if fault = 0 then .halted else .fault

/-- R134 to R137: a report from a robot with a pass. -/
def passReport (r : RobotId) (rep : RobotReport) (diff : Nat) (s : State) : State :=
  let b := s.robot r
  match b.pass with
  | none => s
  | some p =>
    match rep.activity with
    | .cleaning =>
      if b.activity = .cleaning then
        modRobot r (fun b => { b with pass := some (p.progress (s.site p.row).length b rep.row diff) }) s
      else s
    | .docked =>
      if p.phase = .onRail then (if p.furthestLeg = .back then endComplete r p s else endAbandoned r s) else s
    | .returning => endInterrupted r (returnCause rep.faultCode) (setHoming r s)
    | .halted => endInterrupted r .halted s
    | .clamped =>
      let sheltered := match b.row? with | some x => (s.row x).sheltered | none => false
      if b.storm.target = .none ∧ sheltered = false then endInterrupted r .halted s else s
    | .fault | .boarding | .aboard | .alighting => endInterrupted r .fault s
    | .unknown | .withdrawn => s

/-- R143: a report of any activity other than RETURNING or CLEANING clears the homing mark. -/
def clearHoming (r : RobotId) (a : Activity) (s : State) : State :=
  if (s.robot r).homingMark ∧ a ≠ .returning ∧ a ≠ .cleaning then
    push .closeCheck (modRobot r (fun b => { b with homingMark := false }) s)
  else s

/-- R140: the activities that clear the recall mark. -/
def Activity.endsRecall : Activity → Bool
  | .docked | .clamped | .halted | .fault => true
  | _ => false

/-- R140: a recalled robot that still reports CLEANING is sent GOTO DOCK again. -/
def repeatRecall (r : RobotId) (a : Activity) (s : State) : State :=
  if s.round.state = .recalling ∧ (s.robot r).recallMark ∧ a = .cleaning
      ∧ plannerPending s r (· == .gotoDock) = false then plannerDock r s
  else s

/-- The planner's share of a robot's report: the NO ECHO bar (R133), the homing and recall marks, the pass, the
repeated recall. The examination of R128 follows as its own notice. -/
def plannerReport (r : RobotId) (rep : RobotReport) (diff : Nat) (s : State) : State :=
  let s := modRobot r (fun b =>
    { b with noEchoBar := if s.round.held then b.noEchoBar else false,
             recallMark := b.recallMark && !rep.activity.endsRecall }) s
  let s := clearHoming r rep.activity s
  repeatRecall r rep.activity (passReport r rep diff s)

/-! ### The end of a round (R139 to R143) -/

/-- R139, R151: every queued ROUND request is cancelled. -/
def cancelRoundRequests (s : State) : State :=
  forEach allShuttles (fun k => dropRequests k (fun q => q.cls == .round) (.cancelled 0)) s

/-- R139: the round becomes WINDING. -/
def windDown (s : State) : State :=
  push .closeCheck (cancelRoundRequests (modRound (fun x => { x with state := .winding }) s))

/-- R140: a robot with a pass is recalled. -/
def recallRobot (r : RobotId) (s : State) : State :=
  let mark (s : State) : State := modRobot r (fun b => { b with recallMark := true, homingMark := true }) s
  match (s.robot r).pass with
  | none => s
  | some p =>
    match p.phase with
    | .onRail => mark (plannerDock r (endInterrupted r .hardEnd s))
    | .issued => mark (endIssued r .hardEnd (plannerDock r s))

/-- R140: the round becomes RECALLING; from ACTIVE its queued requests are cancelled first. -/
def recallFleet (s : State) : State :=
  let wasActive := s.round.state = .active
  let s := modRound (fun x => { x with state := .recalling }) s
  let s := if wasActive then cancelRoundRequests s else s
  push .closeCheck (forEach allRobots recallRobot s)

/-- R143: the close condition. -/
def closeCondition (s : State) : Bool :=
  (s.round.state == .winding || s.round.state == .recalling)
    && allRobots.all fun r => (s.robot r).pass.isNone && !(s.robot r).homingMark

/-- R143 step 1: the results of a held RECALL. -/
def recallResults (s : State) : List Word :=
  [word s.round.started, word s.round.complete, word s.round.partialCount, word s.round.assigned]

/-- R143: the round closes. -/
def closeRound (s : State) : State :=
  let s := forEach (allSlots.filter fun n => s.round.recalls.contains n) (fun n s =>
    answer n (if (s.slot n).abortRequested then .doneLateAbort else .done) 0 (recallResults s) s) s
  let s := modRound (fun x => { x with candidates := [], recalls := [] }) s
  let s := forEach allRobots (fun r => modRobot r (fun b =>
    { b with target := none, recallMark := false, homingMark := false })) s
  modRound (fun x => { x with state := .idle }) (setNotice .roundEnd s)

/-- R143: the close condition is checked. -/
def checkClose (s : State) : State := if closeCondition s then closeRound s else s

/-! ### Rows covered by an alert (R138) -/

/-- R138: ISSUED passes on rows that have become sheltered or watch end, and their robots are sent to their docks, in
ascending robot id (assumption 56). -/
def coverRows (rows : List RowId) (s : State) : State :=
  let robots := allRobots.filter fun r =>
    match (s.robot r).pass with
    | some p => p.phase == .issued && rows.contains p.row
    | none => false
  forEach robots (fun r s => endIssued r .storm (commandRobot r .gotoDock .planner s)) s

end Sys2Proof.Machine
end

