-- ==== Sys2Proof/Machine/Reports.lean ====
section
/-!
DEFINITION. A delivered STATUS (R39, R40): what the record store records, and the shares of the account unit and the
arbiter in a robot's report.
-/

namespace Sys2Proof.Machine

/-! ### The record store (R39, R40) -/

/-- R39 step 1: the position recorded. -/
def recordedPosition (s : State) (rep : RobotReport) : Nat :=
  min rep.position (if (s.site rep.row).present then (s.site rep.row).length else 1023)

/-- R39, R40: a fault code that differs from the last and is not 0 raises STATION FAULT. -/
def noteFault (last code : Nat) (s : State) : State :=
  if code ≠ last ∧ code ≠ 0 then setNotice .stationFault s else s

/-- R39 step 1. -/
def recordRobot (r : RobotId) (rep : RobotReport) (s : State) : State :=
  let position := recordedPosition s rep
  let s := noteFault (s.robot r).faultCode rep.faultCode s
  modRobot r (fun b =>
    { b with lastHeard := s.siteSecond, leg := rep.leg, soc := min 100 rep.soc, position := position,
             meter := rep.meter, faultCode := rep.faultCode }) s

/-- R39 step 3. -/
def recordActivity (r : RobotId) (a : Activity) (s : State) : State :=
  modRobot r (fun b => { b with activity := if b.placementMark then .unknown else a }) s

/-- R39: a robot's STATUS is taken whole and handed on. -/
def robotStatus (r : RobotId) (rep : RobotReport) (diff : Nat) (s : State) : State :=
  let s := recordRobot r rep s
  let s := if (s.robot r).placementMark then placeByReport r rep s else moveByReport r rep s
  let s := recordActivity r rep.activity s
  let rep := if (s.robotConfig r).surfaceSensor then rep else { rep with surface := none }
  pushAll [.accountReport r rep diff, .plannerReport r rep diff, .arbiterReport r rep, .stormReport r rep, .examine r] s

/-- R40: a shuttle's STATUS is recorded and handed to the account unit (R114) and the arbiter (R146). -/
def shuttleStatus (k : ShuttleIx) (rep : ShuttleReport) (diff : Nat) (s : State) : State :=
  let s := noteFault (s.shuttle k).faultCode rep.faultCode s
  let s := modShuttle k (fun x => { x with road := some (min 4095 rep.road), faultCode := rep.faultCode }) s
  actOnShuttle k rep (shuttleEnergy diff s)

/-! ### The account unit's share (R103, R113) -/

/-- R39 step 4: the energy difference, then the surface reading. -/
def accountReport (r : RobotId) (rep : RobotReport) (diff : Nat) (s : State) : State :=
  let s := robotEnergy r diff s
  match rep.surface with
  | some x => surfaceReading r rep.leg x s
  | none => s

/-! ### The arbiter's share (R152, R154 to R157) -/

/-- The report is of DOCKED at this row. -/
def dockedAt (rep : RobotReport) (row : RowId) : Bool := rep.activity == .docked && rep.row == row

/-- The report of a robot whose mark is clear names the destination of its transfer. -/
def arrivesOutOfStage (s : State) (r : RobotId) (t : Transfer) (rep : RobotReport) : Bool :=
  !(s.robot r).placementMark && rep.row == t.destination && !rep.activity.moving

/-- R154: a transfer in FETCH or BOARD ends with cause PLACE; a report naming the destination then places the
robot there. -/
def placeFailure (r : RobotId) (k : ShuttleIx) (t : Transfer) (rep : RobotReport) (s : State) : State :=
  if arrivesOutOfStage s r t rep then moveByReport r rep (failPlace k s) else failPlace k s

/-- R155, R160, R164: a robot's report while its transfer is in BOARD. HALTED or FAULT at the destination from a robot
whose mark is clear is taken as the failure of BOARD, and RETURNING there while an abort is pending as the RETURNING
that changes nothing; neither as an arrival (assumption 53). -/
def boardReport (r : RobotId) (k : ShuttleIx) (t : Transfer) (rep : RobotReport) (s : State) : State :=
  if rep.activity = .aboard then leaveSets r (completeBoard k t s)
  else if dockedAt rep t.source then
    match t.aborting with
    | some d => completeAbort k t d s
    | none => s
  else if rep.activity = .boarding then s
  else if rep.activity = .returning ∧ t.aborting.isSome then s
  else if rep.activity = .halted ∨ rep.activity = .fault then failBoard k t .board s
  else if arrivesOutOfStage s r t rep then placeFailure r k t rep s
  else failBoard k t .board s

/-- R157: a robot's report while its transfer is in ALIGHT. -/
def alightReport (r : RobotId) (k : ShuttleIx) (t : Transfer) (rep : RobotReport) (s : State) : State :=
  if dockedAt rep t.destination then leaveSets r (endTransfer k t s)
  else if rep.activity = .alighting ∨ rep.activity = .aboard then s
  else failAboard k t .alight s

/-- The arbiter's share of a robot's report. -/
def arbiterReport (r : RobotId) (rep : RobotReport) (s : State) : State :=
  match serviceOf s r with
  | none =>
    match queueOf s r with
    | some k => if rep.activity = .docked then evaluateStart k s else s
    | none => s
  | some k =>
    match (s.shuttle k).inService with
    | none => s
    | some t =>
      match t.stage with
      | .fetch => if dockedAt rep t.source then s else placeFailure r k t rep s
      | .board => boardReport r k t rep s
      | .carry => if dockedAt rep t.destination then leaveSets r (endTransfer k t s) else s
      | .alight => alightReport r k t rep s

end Sys2Proof.Machine
end

