-- ==== Sys2Proof/Machine/Jobs.lean ====
section
/-!
DEFINITION. The notices between the blocks of the part (2.1): what each notice makes its block do, and their delivery
to the end within the command that gave rise to them.
-/

namespace Sys2Proof.Machine

/-- R65, R67, R68: what FieldLink tells the owner of a command. -/
def tellOwner (i : LinkId) (owner : Owner) (cmd : Cmd) (what : Told) (s : State) : State :=
  if h : i.1 < 48 then
    let r : RobotId := ⟨i.1, h⟩
    match owner with
    | .planner => toldPlanner r cmd what s
    | .arbiter => toldTransferRobot r cmd what s
    | .supervisor => toldSupervisor r cmd what s
  else
    match owner with
    | .arbiter => toldShuttle ⟨i.1 - 48, by omega⟩ cmd what s
    | .planner | .supervisor => s

/-- A notice is acted on by the block it goes to. -/
def handle (j : Job) (s : State) : State :=
  match j with
  | .told i owner cmd what => tellOwner i owner cmd what s
  | .repeatLimit i q => checkRepeatLimit i q s
  | .robotLost r => plannerLost r s
  | .robotStatus r rep diff => robotStatus r rep diff s
  | .shuttleStatus k rep diff => shuttleStatus k rep diff s
  | .accountReport r rep diff => accountReport r rep diff s
  | .plannerReport r rep diff => plannerReport r rep diff s
  | .arbiterReport r rep => arbiterReport r rep s
  | .stormReport r rep => stormReport r rep s
  | .examine r => examine r s
  | .examineBlock b => pushAll ((robotsOfBlock s b).map Job.examine) s
  | .transferReport r row what => transferReported r row what s
  | .closeCheck => checkClose s
  | .startRule k => evaluateStart k s
  | .rowsCovered rows => coverRows rows s
  | .rowsSheltered b => match shuttleOf s b with | some k => shelterShuttle k s | none => s
  | .rowsReleased rows => releaseRobots rows s
  | .blockCalmer b => match shuttleOf s b with | some k => calmerShuttle k s | none => s
  | .scanComplete => completeScan s

/-- One notice: the head of the agenda is acted on, the mirrors of the masters it changed are marked (R4, assumption
11), and what it gives rise to is delivered before the rest (assumption 12). -/
def drainOne (s : State) : State :=
  match s.agenda with
  | [] => s
  | j :: rest =>
    let t := commit s (handle j { s with agenda := [] })
    { t with agenda := t.agenda ++ rest }

/-- Every notice is delivered. -/
def drainLoop : Nat → State → State
  | 0, s => s
  | fuel + 1, s => match s.agenda with | [] => s | _ :: _ => drainLoop fuel (drainOne s)

/-- Every notice is delivered, and none is left. -/
def drain (s : State) : State := { drainLoop Config.cascadeFuel s with agenda := [] }

end Sys2Proof.Machine
end

