-- ==== Sys2Proof/Machine/Mirrors.lean ====
section
/-!
DEFINITION. The frame of every command, in which what it does is carried out, the mirrors it changed are marked and the
notices it gives rise to are delivered; and the rewrites of the mirrors (R3, R4).
-/

namespace Sys2Proof.Machine

/-! ### The frame of a command -/

/-- What a command does outside reset: its effect, the marks of the masters it changed, and the notices it gives rise
to, each of which marks what it changes in its turn. -/
def perform (f : State → State) (s : State) : State := drain (commit s (f { s with agenda := [] }))

/-- A command: while the reset pin is asserted it has no effect (R23, assumption 8). -/
def act (f : State → State) (s : State) : Host.Outcome State Fault Refusal :=
  .next (if s.resetHeld then s else perform f s)

/-- A command that is due only under a condition; where it is not, the event it stands for does not happen and
nothing changes (assumption 2). -/
def actWhen (due : State → Bool) (f : State → State) (s : State) : Host.Outcome State Fault Refusal :=
  .next (if s.resetHeld || !due s then s else perform f s)

/-! ### Rewrites (R3, R4) -/

/-- The change count after an addition of 1, R3. -/
def nextCount (n : Nat) : Nat := (n + 1) % 65536

/-- R4: a rewrite of the mirror may begin. -/
def rewriteDue (m : MirrorId) (s : State) : Bool := (mirrorOf s m).pending && (mirrorOf s m).rewrite.isNone

/-- R3, R4: a rewrite begins: the mark is cleared, the count becomes odd, and the words to be written are the master's
as it stands. -/
def beginRewrite (m : MirrorId) (s : State) : State :=
  let count := nextCount (mirrorOf s m).count
  let words := mirrorImage s m
  { modMirror m (fun _ => { count := count, pending := false, rewrite := some words }) s with
    memory := Memory.write s.memory (countAddress m) (word count) }

/-- R3: every word of the rewrite is written, and the count becomes even. -/
def endRewrite (m : MirrorId) (s : State) : State :=
  match (mirrorOf s m).rewrite with
  | none => s
  | some words =>
    let count := nextCount (mirrorOf s m).count
    { modMirror m (fun x => { x with count := count, rewrite := none }) s with
      memory := Memory.write (Memory.writeAll s.memory words) (countAddress m) (word count) }

end Sys2Proof.Machine
end

