-- ==== Sys2Proof/Machine/Modes.lean ====
section
/-!
DEFINITION. The operating modes (chapter 2): the reading and checking of the host-written regions, RUN entry, the end
of RUN, and the host silence monitor (1.7).
-/

namespace Sys2Proof.Machine

/-! ### Reading (R24 to R31, R204) -/

/-- R31: a word as this CHECKING reads it: the value read before a host write where the part had been first. -/
def checkedWord (s : State) (a : Nat) : Word :=
  match s.modes.checkRead.find? fun p => p.1 == a with
  | some p => p.2
  | none => s.mem a

/-- A word as a number. -/
def checkedNat (s : State) (a : Nat) : Nat := (checkedWord s a).toNat

/-- A bit of a word. -/
def checkedBit (s : State) (a i : Nat) : Bool := (checkedWord s a).getLsbD i

/-- A value taken, with how many fields were taken at a value other than the one written. -/
abbrev Taken (α : Type) := α × Nat

/-- R29: a field taken at the nearest limit of its range. -/
def takeClamped (lo hi v : Nat) : Taken Nat := (clampTo lo hi v, if clampTo lo hi v = v then 0 else 1)

/-- R29: the nearest listed value, the lower of two where midway. The list rises. -/
def nearestListed (v : Nat) : List Nat → Nat
  | [] => v
  | [a] => a
  | a :: b :: rest => if v ≤ a ∨ v - a ≤ b - v ∧ v ≤ b then a else nearestListed v (b :: rest)

/-- R29: a field with a listed set of values. -/
def takeListed (values : List Nat) (v : Nat) : Taken Nat :=
  (nearestListed v values, if nearestListed v values = v then 0 else 1)

/-- The first word of a record. -/
def siteRowAddress (r : RowId) : Nat := Config.siteBase + 8 * r.1

/-- R24, R204: a row of the site map. A station word of a used-station number is taken as it; any other is none, once
the checks have passed. -/
def readSiteRow (s : State) (r : RowId) : Taken SiteRow :=
  let a := siteRowAddress r
  if checkedBit s a 0 then
    let road := takeClamped 0 4095 (checkedNat s (a + 5))
    let station := checkedNat s (a + 4)
    ({ present := true, enabledAtStart := checkedBit s a 1, block := checkedNat s (a + 1),
       length := checkedNat s (a + 2), yield := checkedNat s (a + 3),
       station := if h : station < 16 then some ⟨station, h⟩ else none, road := road.1 }, road.2)
  else (SiteRow.absent, 0)

/-- R25, R204. -/
def readStation (s : State) (n : StationIx) : StationConfig :=
  let a := Config.stationBase + 8 * n.1
  if checkedBit s a 0 then { used := true, clean := checkedNat s (a + 1), soiled := checkedNat s (a + 2) }
  else StationConfig.unused

/-- R26, R204. -/
def readRobot (s : State) (r : RobotId) : Taken RobotConfig :=
  let a := Config.robotBase + 16 * r.1
  if checkedBit s (a + 11) 0 then
    let speed := takeClamped 5 40 (checkedNat s (a + 14))
    let epm := takeClamped 1 4095 (checkedNat s (a + 15))
    ({ registered := true, surfaceSensor := checkedBit s (a + 11) 1, block := checkedNat s (a + 12),
       home := checkedNat s (a + 13), speed := speed.1, epm := epm.1 }, speed.2 + epm.2)
  else (RobotConfig.unregistered, 0)

/-- R27, R204. -/
def readShuttle (s : State) (k : ShuttleIx) : Taken ShuttleConfig :=
  let a := Config.shuttleBase + 16 * k.1
  if checkedBit s (a + 12) 0 then
    let shelter := takeClamped 0 4095 (checkedNat s (a + 14))
    let speed := takeClamped 10 300 (checkedNat s (a + 15))
    ({ registered := true, block := checkedNat s (a + 13), shelter := shelter.1, speed := speed.1 },
      shelter.2 + speed.2)
  else (ShuttleConfig.unregistered, 0)

/-- R29, R204: the set of one anemometer; the park gust is clamped after the watch gust, the release mean after the
park mean. -/
def readAnemometer (s : State) (i : AnemIx) : Taken AnemometerParams :=
  let a := Config.parameterBase + 24 + 9 * i.1
  let metres := takeClamped 1 9999 (checkedNat s a)
  let watch := takeClamped 1 1000 (checkedNat s (a + 1))
  let park := takeClamped watch.1 1000 (checkedNat s (a + 2))
  let mean := takeClamped 1 1000 (checkedNat s (a + 3))
  let release := takeClamped 1 mean.1 (checkedNat s (a + 4))
  let holdOff := takeClamped 10 120 (checkedNat s (a + 5))
  let deadline := takeClamped 60 1800 (checkedNat s (a + 6))
  let code := takeClamped 0 255 (checkedNat s (a + 7))
  let mask := takeClamped 0 255 (checkedNat s (a + 8))
  ({ metres := metres.1, watchGust := watch.1, parkGust := park.1, parkMean := mean.1, releaseMean := release.1,
     holdOff := holdOff.1, parkDeadline := deadline.1, code := code.1, mask := mask.1 },
   metres.2 + watch.2 + park.2 + mean.2 + release.2 + holdOff.2 + deadline.2 + code.2 + mask.2)

/-- R29, R204: the parameters from their words. -/
def readWrittenParams (s : State) : Taken Params :=
  let v (i : Nat) : Nat := checkedNat s (Config.parameterBase + i)
  let shift := takeClamped 0 7 (v 1)
  let resolution := takeClamped 9 16 (v 3)
  let clock := takeListed [1, 2, 4, 8] (v 4)
  let interval := takeClamped 0 60 (v 5)
  let wipe := takeClamped 5 60 (v 6)
  let efficiency := takeClamped 0 255 (v 7)
  let reserve := takeClamped 10 90 (v 8)
  let cost := takeClamped 0 255 (v 9)
  let rate := takeListed [96, 192, 384, 576, 1152] (v 10)
  let window := takeClamped 5 200 (v 11)
  let lead := takeClamped 1 50 (v 12)
  let repeats := takeClamped 2 16 (v 13)
  let silence := takeClamped 0 255 (v 14)
  let low := takeClamped 0 32 (v 15)
  let margin := takeClamped 0 300 (v 16)
  let board := takeClamped 30 600 (v 17)
  let sets : Table 4 (Taken AnemometerParams) := tabulate (readAnemometer s)
  ({ filterShift := shift.1, darkFloor := v 2, resolution := resolution.1, countClock := clock.1,
     scanInterval := interval.1, wipeTime := wipe.1, efficiency := efficiency.1, passReserve := reserve.1,
     transferCost := cost.1, linkRate := rate.1, replyWindow := window.1, keyLead := lead.1,
     repeatLimit := repeats.1, silenceLimit := silence.1, poolLow := low.1, parkMargin := margin.1,
     boardTimeout := board.1, anemometers := tabulate fun i => (tget sets i).1 },
   shift.2 + resolution.2 + clock.2 + interval.2 + wipe.2 + efficiency.2 + reserve.2 + cost.2 + rate.2 + window.2
     + lead.2 + repeats.2 + silence.2 + low.2 + margin.2 + board.2
     + ((List.finRange 4).map fun i => (tget sets i).2).sum)

/-- R28: without the marker every parameter is taken at its default and none counts. -/
def readParams (s : State) : Taken Params :=
  if checkedNat s Config.parameterBase = Config.parameterMarker then readWrittenParams s else (Params.default, 0)

/-- R31: everything that a CHECKING reads, with the clamped count (R29: saturating at 255). -/
def readPlant (s : State) : Taken Plant :=
  let site : Table 256 (Taken SiteRow) := tabulate (readSiteRow s)
  let robots : Table 48 (Taken RobotConfig) := tabulate (readRobot s)
  let shuttles : Table 8 (Taken ShuttleConfig) := tabulate (readShuttle s)
  let params := readParams s
  let count := (allRows.map fun r => (tget site r).2).sum + (allRobots.map fun r => (tget robots r).2).sum
    + (allShuttles.map fun k => (tget shuttles k).2).sum + params.2
  ({ site := tabulate fun r => (tget site r).1, stations := tabulate (readStation s),
     robots := tabulate fun r => (tget robots r).1, shuttles := tabulate fun k => (tget shuttles k).1,
     params := params.1 }, min 255 count)

/-! ### Checks (R32) -/

/-- A failed check, with its index. -/
abbrev CheckFailure := RefusalCode × Nat

/-- R24, R204: the station word of a present row is 0xFFFF or names a used station. -/
def stationWordOk (s : State) (p : Plant) (r : RowId) : Bool :=
  let v := checkedNat s (siteRowAddress r + 4)
  if h : v < 16 then (tget p.stations ⟨v, h⟩).used else v == 0xFFFF

/-- R32: the three checks of a row. -/
def checkRow (s : State) (p : Plant) (r : RowId) : Option CheckFailure :=
  let x := tget p.site r
  if !x.present then none
  else if x.length < 10 ∨ 1023 < x.length then some (.rowLength, r.1)
  else if 7 < x.block then some (.rowBlock, r.1)
  else if stationWordOk s p r then none
  else some (.rowStation, r.1)

/-- A channel belongs to a used station of a lower number. -/
def channelTaken (p : Plant) (n : StationIx) (c : Nat) : Bool :=
  allStations.any fun m => decide (m.1 < n.1) && (tget p.stations m).used
    && ((tget p.stations m).clean == c || (tget p.stations m).soiled == c)

/-- R32: the checks of a station. -/
def checkStation (p : Plant) (n : StationIx) : Option CheckFailure :=
  let x := tget p.stations n
  if !x.used then none
  else if 31 < x.clean ∨ 31 < x.soiled then some (.channelRange, n.1)
  else if x.clean = x.soiled ∨ channelTaken p n x.clean ∨ channelTaken p n x.soiled then some (.channelReused, n.1)
  else none

/-- R26: the home row of a robot is a present row of its block. -/
def homeOk (p : Plant) (x : RobotConfig) : Bool :=
  if h : x.home < 256 then
    let row := tget p.site ⟨x.home, h⟩
    row.present && row.block == x.block
  else false

/-- R32: the checks of a robot. -/
def checkRobot (p : Plant) (r : RobotId) : Option CheckFailure :=
  let x := tget p.robots r
  if !x.registered then none
  else if !homeOk p x then some (.robotHome, r.1)
  else if allRobots.any (fun q => decide (q.1 < r.1) && (tget p.robots q).registered && (tget p.robots q).home == x.home)
    then some (.homeShared, r.1)
  else none

/-- R32: the checks of a shuttle. -/
def checkShuttle (p : Plant) (k : ShuttleIx) : Option CheckFailure :=
  let x := tget p.shuttles k
  if !x.registered then none
  else if 7 < x.block then some (.shuttleBlock, k.1)
  else if allShuttles.any (fun j =>
      decide (j.1 < k.1) && (tget p.shuttles j).registered && (tget p.shuttles j).block == x.block)
    then some (.shuttleShared, k.1)
  else none

/-- R32: the first check that fails, in the order rows, stations, robots, shuttles. -/
def firstFailure (s : State) (p : Plant) : Option CheckFailure :=
  match allRows.findSome? (checkRow s p) with
  | some f => some f
  | none =>
    match allStations.findSome? (checkStation p) with
    | some f => some f
    | none =>
      match allRobots.findSome? (checkRobot p) with
      | some f => some f
      | none => allShuttles.findSome? (checkShuttle p)

/-! ### RUN entry (R33 and the RUN-entry columns) -/

/-- R36, RUN-entry column; an absent row's flags are 0. The sheltered and watch flags follow from the alert table. -/
def Row.atRunEntry (x : Row) (site : SiteRow) : Row :=
  { x with enabled := site.present && site.enabledAtStart, contested := false, occupant := none, reserved := none,
           sheltered := false, watch := false }

/-- R33 step 3, R144, R199. -/
def Robot.atRunEntry (b : Robot) (c : RobotConfig) : Robot :=
  if c.registered then
    if b.activity = .withdrawn then
      { Robot.afterReset with activity := .withdrawn, position := b.position, leg := b.leg, soc := b.soc,
                              meter := b.meter, faultCode := b.faultCode, lastHeard := b.lastHeard }
    else { Robot.afterReset with placementMark := true }
  else Robot.afterReset

/-- R33 step 4, R167. -/
def Shuttle.atRunEntry (x : Shuttle) (c : ShuttleConfig) : Shuttle :=
  if c.registered ∧ (x.state = .withdrawn ∨ x.state = .fault) then { Shuttle.afterReset with state := x.state }
  else Shuttle.afterReset

/-- R60: a polled station's entry at RUN entry. -/
def LinkEntry.atRunEntry (e : LinkEntry) : LinkEntry :=
  { LinkEntry.afterReset with inPollList := true, noise := e.noise, sequence := e.sequence }

/-- R60: a withdrawn station's entry keeps its link state and error counter. -/
def LinkEntry.whileWithdrawn (e : LinkEntry) : LinkEntry :=
  { e.atRunEntry with inPollList := false, errorCount := e.errorCount }

/-- R33 step 6, R60: the entry of a FieldLink id, given whether it is registered and withdrawn. -/
def LinkEntry.entered (e : LinkEntry) (registered withdrawn : Bool) : LinkEntry :=
  if !registered then LinkEntry.afterReset else if withdrawn then e.whileWithdrawn else e.atRunEntry

/-- Whether a FieldLink id is registered in a plant, and withdrawn. -/
def linkStanding (p : Plant) (s : State) (i : LinkId) : Bool × Bool :=
  if h : i.1 < 48 then ((tget p.robots ⟨i.1, h⟩).registered, (s.robot ⟨i.1, h⟩).activity == .withdrawn)
  else
    let k : ShuttleIx := ⟨i.1 - 48, by omega⟩
    ((tget p.shuttles k).registered, (s.shuttle k).state == .withdrawn)

/-- R97, R117, R100: a station at RUN entry, given whether it was used before. -/
def Station.atRunEntry (x : Station) (used : Bool) : Station :=
  if used then
    if x.pulseEnd.isSome then { x with state := .wiping, remembered := .ok, saturation := 0 }
    else { x with state := .ok, remembered := .unused, saturation := 0 }
  else
    { x with state := .unused, remembered := .unused, reseed := true, lastValid := 0, saturation := 0, fresh := false,
             pulseEnd := none }

/-- R199: an alert record at RUN entry: the calm count is 0; an anemometer record takes the coverage in force, its
fault cleared. The sets are clear. -/
def alertAtRunEntry (p : Params) (n : AlertIx) (a : Alert) : Alert :=
  let a := { a with calm := 0, members := tfill 48 .out }
  if h : n.1 < 4 then
    let q := tget p.anemometers ⟨n.1, h⟩
    { a with code := BitVec.ofNat 8 q.code, mask := BitVec.ofNat 8 q.mask, fault := false }
  else a

/-- R199: the records in RELEASING whose hold-off expiry has passed become FREE at once. -/
def expirePassed (s : State) : State :=
  forEach allAlerts (fun n s =>
    if (s.alert n).state = .releasing ∧ (s.alert n).holdOff ≤ s.siteSecond then
      modAlert n (fun a => { a with state := .free, heldSlot := none }) s
    else s) s

/-- R166: a shuttle that is IDLE while a row of its block is sheltered becomes TO SHELTER at once. -/
def shelterIdle (s : State) : State :=
  forEach allShuttles (fun k s =>
    if (s.shuttleConfig k).registered ∧ (s.shuttle k).state = .idle ∧ blockSheltered s (shuttleBlock s k) then
      goToShelter k s
    else s) s

/-- R33 step 1 to 4, and 6: the masters of the plant as RUN entry sets them. -/
def enterPlant (p : Plant) (s : State) : State :=
  { s with
    plant := p
    rows := tabulate fun r => (tget s.rows r).atRunEntry (tget p.site r)
    robots := tabulate fun r => (tget s.robots r).atRunEntry (tget p.robots r)
    shuttles := tabulate fun k => (tget s.shuttles k).atRunEntry (tget p.shuttles k)
    stations := tabulate fun n => (tget s.stations n).atRunEntry (tget p.stations n).used
    pool := Pool.reformed
    link :=
      { s.link with
        entries := tabulate fun i =>
          (tget s.link.entries i).entered (linkStanding p s i).1 (linkStanding p s i).2
        urgent := [], heldBroadcast := tfill 8 0, cursor := none, cycle := 0, phase := .idle
        transmitter := Transmitter.empty }
    alerts := tabulate fun n => alertAtRunEntry p.params n (tget s.alerts n) }

/-- R33 step 7: the mode becomes RUN and the timers start. -/
def startRunning (s : State) : State :=
  let p := s.params
  let now := s.siteSecond
  let s := modModes (fun x => { x with mode := .run, refusal := .none, refusalIndex := 0, checkRead := [] }) s
  let s := modBoard (fun b => { b with silent := false, silenceStart := if p.silenceLimit = 0 then none else some now }) s
  let s := modScanner (fun x =>
    { x with scan := none, pendingMask := 0,
             periodicDue := if p.scanInterval = 0 then none else some (later s (60 * p.scanInterval)) }) s
  let s := { s with anemometers := tfill 4 { Anemometer.afterReset with windowDue := some (later s 3) } }
  modRound (fun x => { x with state := .idle, held := false, candidates := [] }) s

/-- R185: a change of the storm summary sets the STORM notice. -/
def noteStorm (before : StormSummary) (s : State) : State :=
  if stormSummary s = before then s else setNotice .storm s

/-- R70: a change of any station's link state raises LINK STATE, at RUN entry as elsewhere (assumption 47). -/
def noteLinks (old s : State) : State :=
  if allLinks.any fun i => (s.entry i).state != (old.entry i).state then setNotice .linkState s else s

/-- R170: the records that re-forming marks by name. -/
def markPool (s : State) : State :=
  markRewrite .farm (forEach (List.finRange 96) (fun c => markRewrite (.context c)) s)

/-- R33: RUN is entered with the plant read. -/
def enterRun (p : Plant) (s : State) : State :=
  shelterIdle (noteStorm (stormSummary s)
    (setFlags (expirePassed (markPool (startRunning (noteLinks s (enterPlant p s)))))))

/-- R31, R32: the end of CHECKING. -/
def finishChecking (s : State) : State :=
  let read := readPlant s
  let s := modModes (fun x => { x with clamped := read.2 }) s
  match firstFailure s read.1 with
  | some f => modModes (fun x => { x with mode := .setup, refusal := f.1, refusalIndex := f.2, checkRead := [] }) s
  | none => enterRun read.1 s

/-! ### The end of RUN (R35, R15, R199, R167, R144) -/

/-- A robot when the mode leaves RUN: its record stands; its pass, the planner's state and the supervisor's go. -/
def Robot.atLeave (b : Robot) : Robot :=
  { b with pass := none, target := none, noEchoBar := false, recallMark := false, homingMark := false,
           storm := StormMarks.clear }

/-- R167: a shuttle when the mode leaves RUN. Its state is kept, also one other than IDLE, FAULT and WITHDRAWN that a
request waiting for a frame finds (assumption 61). -/
def Shuttle.atLeave (x : Shuttle) : Shuttle :=
  { x with transfer := none, queue := [], deadline := none, goAcknowledged := false }

/-- R199: an alert record when the mode leaves RUN. -/
def Alert.atLeave (a : Alert) : Alert :=
  let late := (allRobots.filter fun r => a.member r == .unsecured).length
  { a with state := if a.state = .parking then .parked else a.state,
           late := if a.state = .parking then late else a.late,
           heldSlot := none, members := tfill 48 .out }

/-- The slots of long orders held by the jobs, which leaving RUN answers. -/
def heldLongOrders (s : State) : List SlotIx :=
  allSlots.filter fun n =>
    (s.scanner.orders.any fun o => o.slot == n)
      || s.farm.closeSlot == some n
      || s.round.recalls.contains n
      || (allAlerts.any fun a => (s.alert a).heldSlot == some n)
      || allShuttles.any fun k =>
        ((s.shuttle k).queue.any fun q => q.origin == some n)
          || (match (s.shuttle k).inService with | some t => t.origin == some n | none => false)

/-- R35, R167: the reservations of the requests that are removed. -/
def releaseReservations (s : State) : State :=
  forEach allShuttles (fun k s =>
    let s := forEach (s.shuttle k).queue (fun q => releaseRow q.destination q.robot) s
    match (s.shuttle k).transfer with
    | some t => releaseRow t.destination t.robot s
    | none => s) s

/-- R15: every long order held by a job is answered ABORTED with detail 2, a DAY CLOSE whose scan has completed and
which has still to run among them (assumption 17). -/
def answerLongOrders (s : State) : State := forEach (heldLongOrders s) (fun n => answer n .aborted 2 []) s

/-- R35, R167, R199: the records of robots, shuttles, alerts and anemometers when the mode leaves RUN. -/
def stopFleet (s : State) : State :=
  { s with
    robots := tabulate fun r => (tget s.robots r).atLeave
    shuttles := tabulate fun k => (tget s.shuttles k).atLeave
    alerts := tabulate fun n => (tget s.alerts n).atLeave
    anemometers := tabulate fun a => { tget s.anemometers a with windowDue := none } }

/-- R35: FieldLink, the scanner, the account unit, the planner and the silence monitor stop. Where a round is open its
state and its candidate list stand until RUN entry sets them (assumption 55). -/
def stopUnits (s : State) : State :=
  let s := modLink (fun l => { l with phase := .idle, transmitter := .empty }) (emptyLink s)
  let s := modScanner (fun _ => Scanner.afterReset) s
  let s := modFarm (fun x => { x with closeSlot := none }) s
  let s := modRound (fun x => { x with held := false, recalls := [] }) s
  modBoard (fun b => { b with silent := false, silenceStart := none }) s

/-- R35: the mode passes from RUN to SETUP. -/
def leaveRun (s : State) : State :=
  let s := releaseReservations (answerLongOrders s)
  modModes (fun x => { x with mode := .setup, refusal := .none, refusalIndex := 0, setupWaiting := false })
    (stopUnits (noteStorm (stormSummary s) (stopFleet s)))

/-- R34: the fleet is at rest. -/
def atRest (s : State) : Bool :=
  s.round.state == .idle
    && allRobots.all (fun r =>
      !(s.robotConfig r).registered || (s.robot r).activity == .docked || (s.robot r).activity == .withdrawn
        || s.robotLinkState r == .lost)
    && allShuttles.all fun k =>
      let x := s.shuttle k
      !(s.shuttleConfig k).registered || x.state == .withdrawn
        || ((x.state == .idle || x.state == .fault) && x.carried.isNone)

/-- R77: a frame is being sent. -/
def sendingFrame (s : State) : Bool := radioKey s

/-- R34, R77: a SETUP request in RUN is refused, waits for the end of the frame being sent, or is taken at once. -/
def requestSetup (s : State) : State :=
  if s.modes.setupWaiting then s
  else if !atRest s then modModes (fun x => { x with refusal := .fleetActive, refusalIndex := 0 }) s
  else if sendingFrame s then modModes (fun x => { x with setupWaiting := true }) s
  else leaveRun s

/-! ### Host register writes and the silence monitor (R18, R19, R20) -/

/-- R19, R142, R152: the silent flag clears, the planner clears the held flag, examines the robots of the masked blocks
where the round is ACTIVE, and the start rules are evaluated. -/
def endSilence (s : State) : State :=
  let s := modBoard (fun b => { b with silent := false }) s
  let s := modRound (fun x => { x with held := false }) s
  let s := if s.round.state = .active then pushAll ((robotsOfMask s).map Job.examine) s else s
  pushAll (allShuttles.map Job.startRule) s

/-- R18, R19: what every host register write does to the silence monitor. -/
def restartSilence (s : State) : State :=
  if s.modes.mode = .run ∧ s.params.silenceLimit ≠ 0 then
    let s := modBoard (fun b => { b with silenceStart := some s.siteSecond }) s
    if s.board.silent then endSilence s else s
  else s

/-- A host register write: the silence monitor first, then the register (assumption 30). -/
def registerWrite (f : State → State) (s : State) : State := f (drain (restartSilence s))

/-- R20, R202: a CONTROL write without a soft reset. -/
def controlWrite (modeRequest statusPage : Bool) (s : State) : State :=
  let s := modBoard (fun b => { b with modeRequest := modeRequest, statusPage := statusPage }) s
  match s.modes.mode, modeRequest with
  | .setup, true => modModes (fun x => { x with mode := .checking, checkRead := [] }) s
  | .run, false => requestSetup s
  | .setup, false | .checking, _ | .run, true => s

/-- R19: the silence timer expires. -/
def silenceExpires (s : State) : State :=
  let s := modBoard (fun b => { b with silenceStart := none, silent := true }) (setNotice .hostSilent s)
  modRound (fun x => { x with held := true }) s

end Sys2Proof.Machine
end

