-- ==== Sys2Proof/Machine/LinkEvents.lean ====
section
/-!
DEFINITION. The events of the FieldLink line (3.4, R59, R61, R77): the start of a turn, the key lead, the end of a
frame, and the four ends of a turn.
-/

namespace Sys2Proof.Machine

/-- No turn is in progress in RUN, and no SETUP request waits (R77). -/
def turnDue (s : State) : Bool :=
  s.modes.mode == .run && !s.modes.setupWaiting && s.link.phase == .idle

/-- R61: held entries move into the queue, then the turn is chosen and begun. -/
def startTurn (s : State) : State := beginTurn (moveHeld s)

/-- TURN_START. -/
def execTurnStart (s : State) : Host.Outcome State Fault Refusal := actWhen turnDue startTurn s

/-- R53: the frame's characters begin. -/
def beginSending (s : State) : State :=
  match leadTurn s with
  | some t => modLink (fun l => { l with phase := .sending t, transmitter := .load t.frame }) s
  | none => s

/-- KEY_LEAD_EXPIRY. -/
def execKeyLeadExpiry (s : State) : Host.Outcome State Fault Refusal :=
  actWhen (fun s => (leadTurn s).isSome) beginSending s

/-- R53, R61: the last stop bit has been sent and the key drops; the reply window of an addressed turn opens, a
broadcast turn has two idle character times. A SETUP request that waited for the frame is carried out (R77, assumption
14). -/
def dropKey (s : State) : State :=
  match sentTurn s with
  | none => s
  | some t =>
    if s.modes.mode = .run ∧ s.modes.setupWaiting then leaveRun s
    else modLink (fun l =>
      { l with phase := if t.station.isSome then .replyWindow t else .broadcastGap, transmitter := .empty }) s

/-- FRAME_SENT. -/
def execFrameSent (s : State) : Host.Outcome State Fault Refusal :=
  actWhen (fun s => (sentTurn s).isSome) dropKey s

/-- The addressed turn whose reply window is open, or whose reply is being received. -/
def openTurn (s : State) : Option Turn := match s.link.phase with | .replyWindow t => some t | _ => none

/-- R59: the turn ends with a reply of this payload, or with none good. -/
def finishTurn (payload : Turn → Option (List Byte)) (noisy : Bool) (s : State) : State :=
  match openTurn s with
  | some t => endTurn t (payload t) noisy s
  | none => s

/-- REPLY_WINDOW_EXPIRY: no character began within the window: the reply is missed. -/
def execReplyWindowExpiry (s : State) : Host.Outcome State Fault Refusal :=
  actWhen (fun s => (openTurn s).isSome) (finishTurn (fun _ => none) false) s

/-- R59: the payload of a good reply made up of these line characters. -/
def replyPayload (cs : List LineChar) (t : Turn) : Option (List Byte) :=
  match t.station with
  | some i => goodPayload i t.sequence (received cs)
  | none => none

/-- A reply begins with its first character, R59; false starts are none (R52). -/
def replyDue (cs : List LineChar) (s : State) : Bool := (openTurn s).isSome && !(received cs).isEmpty

/-- REPLY_FRAME_END: two character times of idle line after the reply's characters. -/
def execReplyFrameEnd (cs : List LineChar) (s : State) : Host.Outcome State Fault Refusal :=
  actWhen (replyDue cs) (finishTurn (replyPayload cs) (replyNoisy cs)) s

/-- REPLY_LENGTH_LIMIT: a reply still running after 32 character times is corrupt. -/
def execReplyLengthLimit (cs : List LineChar) (s : State) : Host.Outcome State Fault Refusal :=
  actWhen (replyDue cs) (finishTurn (fun _ => none) (replyNoisy cs)) s

/-- R61: the broadcast turn is over. -/
def endBroadcast (s : State) : State := modLink (fun l => { l with phase := .idle }) s

/-- BROADCAST_TURN_END. -/
def execBroadcastTurnEnd (s : State) : Host.Outcome State Fault Refusal :=
  actWhen (fun s => s.link.phase == .broadcastGap) endBroadcast s

end Sys2Proof.Machine
end

