-- ==== Sys2Proof/Machine/Resets.lean ====
section
/-!
DEFINITION. The resets (1.9, R208 and the reset tables of each chapter): power-on, pin and soft.
-/

namespace Sys2Proof.Machine

/-- Every mirror of R4. -/
def allMirrors : List MirrorId :=
  .farm :: ((allAlerts.map MirrorId.alert) ++ (allStations.map MirrorId.station) ++ (allShuttles.map MirrorId.shuttle)
    ++ (allRobots.map MirrorId.robot) ++ (allRows.map MirrorId.row) ++ (List.finRange 96).map MirrorId.context)

/-- R23: the change count of every mirror reads 0. -/
def zeroCounts (m : List (Nat × Word)) : List (Nat × Word) :=
  Memory.writeAll m (allMirrors.map fun x => (countAddress x, 0))

/-- R36, pin and soft column. -/
def Row.keptByReset (x : Row) : Row :=
  { Row.powerOn with
    tr := x.tr, daily := x.daily, cumLoss := x.cumLoss, cumRecovered := x.cumRecovered, passEnergy := x.passEnergy,
    passCount := x.passCount, lastPassEnd := x.lastPassEnd }

/-- R97, R117, pin and soft column. -/
def Station.keptByReset (x : Station) : Station :=
  { Station.powerOn with srf := x.srf, ts := x.ts, reseed := x.reseed }

/-- R117, pin and soft column: the accounts are kept; the second of the last close is 0 and a held close is gone. -/
def Farm.keptByReset (x : Farm) : Farm := { x with lastClose := 0, closeSlot := none }

/-- R23 and the pin and soft columns of each chapter. The waiting commands, the free value's counter and the level of
the reset pin are no registers of the part. -/
def warmReset (cause : ResetCause) (s : State) : State :=
  { State.reset with
    pending := s.pending
    freeCount := s.freeCount
    resetHeld := s.resetHeld
    board := Board.afterReset cause
    memory := zeroCounts s.memory
    rows := tabulate fun r => (tget s.rows r).keptByReset
    stations := tabulate fun n => (tget s.stations n).keptByReset
    farm := s.farm.keptByReset }

/-- R23: power is applied; the level of the reset pin is the outside world's (assumption 7). -/
def powerOn (s : State) : State :=
  { State.reset with pending := s.pending, freeCount := s.freeCount, resetHeld := s.resetHeld }

/-- R23, R53, R97, R208: the reset pin is asserted: registers and outputs take their reset values at once; the cause in
ID and the memory stand until the release (assumption 8). -/
def assertPin (s : State) : State :=
  if s.resetHeld then s else { warmReset s.board.resetCause s with memory := s.memory, resetHeld := true }

/-- R23: the reset pin is released. -/
def releasePin (s : State) : State := if s.resetHeld then { warmReset .pin s with resetHeld := false } else s

end Sys2Proof.Machine
end

