-- ==== Sys2Proof/Machine/HostCommands.lean ====
section
/-!
DEFINITION. The commands of the host and of the part's own bus side: resets, register writes, memory writes, the end
of CHECKING, the silence timer, mirror rewrites (chapters 1 and 2).
-/

namespace Sys2Proof.Machine

/-! ### Resets (R23) -/

/-- POWER_ON_RESET. -/
def execPowerOnReset (s : State) : Host.Outcome State Fault Refusal := .next (powerOn s)

/-- PIN_RESET_ASSERT. -/
def execPinResetAssert (s : State) : Host.Outcome State Fault Refusal := .next (assertPin s)

/-- PIN_RESET_RELEASE. -/
def execPinResetRelease (s : State) : Host.Outcome State Fault Refusal := .next (releasePin s)

/-- SOFT_RESET: at once, whatever is in flight; the other bits of the write are not acted on (R20, R202). -/
def execSoftReset (_modeRequest _statusPage : Bool) (s : State) : Host.Outcome State Fault Refusal :=
  act (warmReset .soft) s

/-! ### Register writes -/

/-- RUN_REQUEST: a CONTROL write with mode request RUN. -/
def execRunRequest (statusPage : Bool) (s : State) : Host.Outcome State Fault Refusal :=
  act (registerWrite (controlWrite true statusPage)) s

/-- SETUP_REQUEST: a CONTROL write with mode request SETUP. -/
def execSetupRequest (statusPage : Bool) (s : State) : Host.Outcome State Fault Refusal :=
  act (registerWrite (controlWrite false statusPage)) s

/-- STATUS_PAGE_SELECT: a CONTROL write for its page bit; its mode request is acted on as R20 gives. -/
def execStatusPageSelect (modeRequest statusPage : Bool) (s : State) : Host.Outcome State Fault Refusal :=
  act (registerWrite (controlWrite modeRequest statusPage)) s

/-- R7: one bit of a POST write. -/
def postSlot (n : SlotIx) (s : State) : State :=
  if (s.slot n).state = .free then
    modBoard (fun b => { b with intake := b.intake ++ [n] }) (modSlot n (fun x => { x with state := .held }) s)
  else setNotice .postCollision s

/-- The slots a mask names, ascending. -/
def slotsOf (mask : Word) : List SlotIx := allSlots.filter fun n => mask.getLsbD n.1

/-- R7. -/
def postMask (mask : Word) (s : State) : State := forEach (slotsOf mask) postSlot s

/-- POST. -/
def execPost (mask : Word) (s : State) : Host.Outcome State Fault Refusal := act (registerWrite (postMask mask)) s

/-- R88: the scanner drops an aborted SCAN STATIONS; its scan runs on. -/
def abortScanOrder (n : SlotIx) (s : State) : State :=
  answer n .aborted 0 [] (modScanner (fun x => { x with orders := x.orders.filter fun o => decide (o.slot ≠ n) }) s)

/-- R107: an aborted DAY CLOSE that waits on a scan; one whose scan has completed is past it (assumption 17). -/
def abortClose (n : SlotIx) (s : State) : State :=
  match s.scanner.scan with
  | some sc =>
    if sc.telling then s else answer n .aborted 0 [] (modFarm (fun x => { x with closeSlot := none }) s)
  | none => answer n .aborted 0 [] (modFarm (fun x => { x with closeSlot := none }) s)

/-- R189: an aborted PARK order; its record parks on. -/
def abortPark (n : SlotIx) (s : State) : State :=
  match allAlerts.find? fun a => (s.alert a).heldSlot == some n with
  | some a => answerHeld a .aborted 0 [] s
  | none => s

/-- R14: the owning job acts on an abort request just recorded. A held RECALL leaves it pending (R141). -/
def actOnAbort (n : SlotIx) (s : State) : State :=
  if s.scanner.orders.any fun o => o.slot == n then abortScanOrder n s
  else if s.farm.closeSlot = some n then abortClose n s
  else if allAlerts.any fun a => (s.alert a).heldSlot == some n then abortPark n s
  else abortTransfer n s

/-- R14: a queued slot is answered ABORTED with the tag its word 1 then holds (assumption 19). -/
def abortQueued (n : SlotIx) (s : State) : State :=
  let tag := s.mem (slotBase n + 1)
  answer n .aborted 0 [] (modSlot n (fun x => { x with tag := tag }) s)

/-- R14: one bit of an ABORT write. -/
def abortSlot (n : SlotIx) (s : State) : State :=
  let x := s.slot n
  if x.state = .held then
    if s.board.intake.contains n then abortQueued n s
    else if x.abortRequested then s
    else actOnAbort n (modSlot n (fun x => { x with abortRequested := true }) s)
  else s

/-- R14: the bits of one ABORT write, in ascending slot order; what the jobs tell one another follows the last bit
(assumption 50). -/
def abortMask (mask : Word) (s : State) : State := forEach (slotsOf mask) abortSlot s

/-- ABORT. -/
def execAbort (mask : Word) (s : State) : Host.Outcome State Fault Refusal := act (registerWrite (abortMask mask)) s

/-- R13: one bit of an ANSWERED write. -/
def collectSlot (n : SlotIx) (s : State) : State :=
  if (s.slot n).state = .answered then modSlot n (fun x => { x with state := .free }) s else s

/-- R13. -/
def collectMask (mask : Word) (s : State) : State := forEach (slotsOf mask) collectSlot s

/-- ANSWERED_COLLECT. -/
def execAnsweredCollect (mask : Word) (s : State) : Host.Outcome State Fault Refusal :=
  act (registerWrite (collectMask mask)) s

/-- R16, R201: bits written 1 are cleared; bits not in use are dropped. -/
def clearNotices (bits : Word) (s : State) : State :=
  modBoard (fun b => { b with notice := b.notice &&& ~~~(bits.setWidth 13) }) s

/-- NOTICE_CLEAR. -/
def execNoticeClear (bits : Word) (s : State) : Host.Outcome State Fault Refusal :=
  act (registerWrite (clearNotices bits)) s

/-- R17, R201: bits 0 to 12 are stored. -/
def writeEnable (value : Word) (s : State) : State := modBoard (fun b => { b with enable := value.setWidth 13 }) s

/-- NOTICE_ENABLE_WRITE. -/
def execNoticeEnableWrite (value : Word) (s : State) : Host.Outcome State Fault Refusal :=
  act (registerWrite (writeEnable value)) s

/-- R20, R201, R202: a write of a word to a register address. -/
def writeRegister (reg : Register) (v : Word) (s : State) : State :=
  match reg with
  | .id | .status => registerWrite (fun s => s) s
  | .control =>
    if v.getLsbD 1 then warmReset .soft s else registerWrite (controlWrite (v.getLsbD 0) (v.getLsbD 2)) s
  | .notice => registerWrite (clearNotices v) s
  | .noticeEnable => registerWrite (writeEnable v) s
  | .post => registerWrite (postMask v) s
  | .abort => registerWrite (abortMask v) s
  | .answered => registerWrite (collectMask v) s

/-- REGISTER_WRITE_OTHER: a write to ID or STATUS stores nothing. Any other register named is written as R201 gives. -/
def execRegisterWriteOther (reg : Register) (value : Word) (s : State) : Host.Outcome State Fault Refusal :=
  act (writeRegister reg value) s

/-! ### Memory writes (R2, R31) -/

/-- R31: the words that a CHECKING reads. -/
def checkedAddress (a : Nat) : Bool :=
  let within (base stride count first last : Nat) : Bool :=
    decide (base ≤ a) && decide (a < base + stride * count)
      && decide (first ≤ (a - base) % stride) && decide ((a - base) % stride ≤ last)
  within Config.parameterBase 64 1 0 17 || within Config.parameterBase 64 1 24 59
    || within Config.siteBase 8 256 0 5 || within Config.stationBase 8 16 0 2
    || within Config.shuttleBase 16 8 12 15 || within Config.robotBase 16 48 11 15

/-- R31, assumption 9: a write to a word that this CHECKING reads: a free value says whether the part had read it. -/
def raceChecking (a : Nat) (s : State) : State :=
  if s.modes.mode = .checking && checkedAddress a && !(s.modes.checkRead.any fun p => p.1 == a) then
    let old := s.mem a
    let taken := takeFree s
    if taken.1 then modModes (fun x => { x with checkRead := (a, old) :: x.checkRead }) taken.2 else taken.2
  else s

/-- A mirror whose rewrite in progress has still to write this word. -/
def rewriting (s : State) (a : Nat) : Option MirrorId :=
  allMirrors.find? fun m =>
    match (mirrorOf s m).rewrite with
    | some ws => ws.any fun p => p.1 == a
    | none => false

/-- R2, assumption 10: a write to a word of a rewrite in progress: a free value says whether the part had written it;
if it had, the host's value stands. -/
def raceRewrite (a : Nat) (s : State) : State :=
  match rewriting s a with
  | none => s
  | some m =>
    let taken := takeFree s
    if taken.1 then
      modMirror m (fun x => { x with rewrite := x.rewrite.map fun ws => ws.filter fun p => decide (p.1 ≠ a) }) taken.2
    else taken.2

/-- R2: a host write of a memory word is stored. -/
def writeMemory (a : Nat) (v : Word) (s : State) : State :=
  let s := raceRewrite a (raceChecking a s)
  { s with memory := Memory.write s.memory a v }

/-- HOST_MEMORY_WRITE. Memory is written while the reset pin is asserted as well (R23); the eight register addresses
are registers, not memory (R1). -/
def execHostMemoryWrite (addr : Nat) (value : Word) (s : State) : Host.Outcome State Fault Refusal :=
  if Config.addressSpace ≤ addr then .fault .noSuchAddress
  else
    match registerAt addr with
    | some reg => act (writeRegister reg value) s
    | none => .next (writeMemory addr value s)

/-! ### The mode machine, the silence timer, mirrors -/

/-- RUN_ENTRY_CHECKS: due in CHECKING. -/
def execRunEntryChecks (s : State) : Host.Outcome State Fault Refusal :=
  actWhen (fun s => s.modes.mode == .checking) finishChecking s

/-- SETUP_AT_FRAME_END: due while a taken SETUP request waits and a frame's characters are being sent, whose last stop
bit it stands for (R77). -/
def execSetupAtFrameEnd (s : State) : Host.Outcome State Fault Refusal :=
  actWhen (fun s => s.modes.mode == .run && s.modes.setupWaiting && (sentTurn s).isSome) leaveRun s

/-- HOST_SILENCE_EXPIRY: due while the silence timer runs (R18). -/
def execHostSilenceExpiry (s : State) : Host.Outcome State Fault Refusal :=
  actWhen (fun s => s.modes.mode == .run && s.board.silenceStart.isSome && s.params.silenceLimit != 0)
    (fun s => silenceExpires (advanceTo ((s.board.silenceStart.getD 0 + s.params.silenceLimit) % 4294967296) s)) s

/-- MIRROR_REWRITE_START: due where the mark is set and no rewrite of the mirror is in progress. -/
def execMirrorRewriteStart (m : MirrorId) (s : State) : Host.Outcome State Fault Refusal :=
  actWhen (rewriteDue m) (beginRewrite m) s

/-- MIRROR_REWRITE_END: due while a rewrite of the mirror is in progress. -/
def execMirrorRewriteEnd (m : MirrorId) (s : State) : Host.Outcome State Fault Refusal :=
  actWhen (fun s => (mirrorOf s m).rewrite.isSome) (endRewrite m) s

end Sys2Proof.Machine
end

