-- ==== Sys2Proof/Machine/Orders.lean ====
section
/-!
DEFINITION. The order engine's taking of the head slot (R8 to R10), and the orders: SET ROW, SERVICE, SCAN STATIONS,
WIPE STATION, DAY CLOSE, START ROUND, STOP ROUND, CLEAN ROW, MOVE ROBOT, STORM ALERT, STORM CLEAR.
-/

namespace Sys2Proof.Machine

/-! ### The order engine -/

/-- The words 0 to 15 of the slot at the head of the intake queue. -/
def headWords (s : State) : List Word :=
  match s.board.intake with
  | [] => []
  | n :: _ => slotWords s n

/-- R8: the head slot can be taken as an order that `accepts` its words. -/
def orderDue (accepts : List Word → Bool) (s : State) : Bool :=
  match s.board.intake with
  | [] => false
  | n :: _ => accepts (slotWords s n)

/-- R8, R11: the head slot is taken: it leaves the queue, its words go to the order register, its tag is kept. -/
def takeHead (effect : SlotIx → List Word → State → State) (s : State) : State :=
  match s.board.intake with
  | [] => s
  | n :: rest =>
    let ws := slotWords s n
    let s := modBoard (fun b => { b with intake := rest, orderRegister := ws }) s
    effect n ws (modSlot n (fun x => { x with tag := ws.getD 1 0 }) s)

/-- R9 steps 2 and 3, then the owning job. -/
def checkOrder (k : OrderKind) (job : SlotIx → List Word → State → State) (n : SlotIx) (ws : List Word) (s : State) :
    State :=
  if s.modes.mode ≠ .run then answer n .refusedMode 0 [] s
  else match rangeFailure k ws with
    | some w => answer n .refusedRange w [] s
    | none => job n ws s

/-- An order is taken where the head slot holds it (assumption 1). -/
def takeOrder (k : OrderKind) (accepts : List Word → Bool) (job : SlotIx → List Word → State → State) (s : State) :
    Host.Outcome State Fault Refusal :=
  actWhen (orderDue accepts) (takeHead (checkOrder k job)) s

/-- R9 step 4: the owning job refuses. -/
def refuseState (n : SlotIx) (detail : Nat) (s : State) : State := answer n .refusedState detail [] s

/-- An accepted quick order is answered DONE with detail 0. -/
def answerDone (n : SlotIx) (results : List Word) (s : State) : State := answer n .done 0 results s

/-- The first check that fails gives its detail. -/
def firstDetail : List (Bool × Nat) → Option Nat
  | [] => none
  | (ok, d) :: rest => if ok then firstDetail rest else some d

/-- UNKNOWN_ORDER. -/
def execUnknownOrder (s : State) : Host.Outcome State Fault Refusal :=
  actWhen (orderDue fun ws => (orderKind (ws.getD 0 0)).isNone) (takeHead fun n _ => answer n .unknownOrder 0 []) s

/-! ### SET ROW (R45) -/

/-- R45: an absent row is refused. -/
def setRow (effect : SlotIx → RowId → State → State) (n : SlotIx) (ws : List Word) (s : State) : State :=
  let row := fieldRow ws 2
  if (s.site row).present then effect n row s else refuseState n Detail.absent s

/-- R45: ENABLE. -/
def enableRow (n : SlotIx) (row : RowId) (s : State) : State :=
  answerDone n [] (modRow row (fun x => { x with enabled := true }) s)

/-- R45: DISABLE. -/
def disableRow (n : SlotIx) (row : RowId) (s : State) : State :=
  answerDone n [] (leaveList row (modRow row (fun x => { x with enabled := false }) s))

/-- R45: CLEAR CONTESTED. -/
def clearContested (n : SlotIx) (row : RowId) (s : State) : State :=
  if (s.row row).contested then answerDone n [] (modRow row (fun x => { x with contested := false }) s)
  else refuseState n Detail.clear s

/-- SET_ROW_ENABLE. -/
def execSetRowEnable (s : State) : Host.Outcome State Fault Refusal :=
  takeOrder .setRow (isKindSel .setRow 3 0 2) (setRow enableRow) s

/-- SET_ROW_DISABLE. -/
def execSetRowDisable (s : State) : Host.Outcome State Fault Refusal :=
  takeOrder .setRow (isKindSel .setRow 3 1 2) (setRow disableRow) s

/-- SET_ROW_CLEAR_CONTESTED. -/
def execSetRowClearContested (s : State) : Host.Outcome State Fault Refusal :=
  takeOrder .setRow (isKindSel .setRow 3 2 2) (setRow clearContested) s

/-! ### SERVICE (R46 to R49) -/

/-- The station of a SERVICE order: a robot or a shuttle, and whether it is registered. -/
def serviceStation (ws : List Word) : RobotId ⊕ ShuttleIx :=
  if h : field ws 2 < 48 then .inl ⟨field ws 2, h⟩ else .inr (Fin.ofNat 8 (field ws 2 - 48))

/-- A station leaves the poll list and its pending command is cleared (R46, R47, R69). -/
def leavePolling (i : LinkId) (s : State) : State :=
  modEntry i (fun e => { e with inPollList := false, command := none }) s

/-- R46: SERVICE WITHDRAW of a robot, accepted. -/
def withdrawRobot (r : RobotId) (s : State) : State :=
  let s := dropRobotRequest r (.cancelled 2) s
  let s := abandonOwned r (endAbandoned r s)
  let s := vacate r (leavePolling (robotLink r) s)
  let s := modRobot r (fun b =>
    { b with placementMark := false, pass := none, activity := .withdrawn, homingMark := false,
             storm := { b.storm with release := false } }) s
  push .closeCheck (leaveSets r s)

/-- R46: SERVICE WITHDRAW of a robot. -/
def serviceWithdrawRobot (n : SlotIx) (r : RobotId) (s : State) : State :=
  let b := s.robot r
  let aboard := match b.place with | .shuttle _ => true | _ => false
  match firstDetail [((s.robotConfig r).registered, Detail.notRegistered),
      (b.activity != .withdrawn && !aboard, b.activity.code), ((serviceOf s r).isNone, Detail.transfer)] with
  | some d => refuseState n d s
  | none => answerDone n [] (withdrawRobot r s)

/-- R47: SERVICE WITHDRAW of a shuttle, accepted. -/
def withdrawShuttle (k : ShuttleIx) (s : State) : State :=
  let s := match (s.shuttle k).inService with
    | some t => cancelFetch k t 2 s
    | none => s
  let s := dropRequests k (fun _ => true) (.cancelled 2) s
  modShuttle k (fun x => { x with state := .withdrawn, deadline := none, goAcknowledged := false })
    (leavePolling (shuttleLink k) s)

/-- R47: the states in which a shuttle cannot be withdrawn. -/
def ShuttleState.keepsRobot : ShuttleState → Bool
  | .withdrawn | .board | .carry | .alight => true
  | _ => false

/-- R47: SERVICE WITHDRAW of a shuttle. -/
def serviceWithdrawShuttle (n : SlotIx) (k : ShuttleIx) (s : State) : State :=
  let x := s.shuttle k
  match firstDetail [((s.shuttleConfig k).registered, Detail.notRegistered),
      (!x.state.keepsRobot && x.carried.isNone, x.state.detail)] with
  | some d => refuseState n d s
  | none => answerDone n [] (withdrawShuttle k s)

/-- SERVICE WITHDRAW. -/
def serviceWithdraw (n : SlotIx) (ws : List Word) (s : State) : State :=
  match serviceStation ws with
  | .inl r => serviceWithdrawRobot n r s
  | .inr k => serviceWithdrawShuttle n k s

/-- R60: a station's entry at SERVICE RETURN; a change of its link state raises LINK STATE. -/
def returnEntry (i : LinkId) (s : State) : State :=
  let before := (s.entry i).state
  let s := modEntry i LinkEntry.atRunEntry s
  if before = (s.entry i).state then s else setNotice .linkState s

/-- R48: SERVICE RETURN of a robot, which has no place and keeps none. -/
def serviceReturnRobot (n : SlotIx) (r : RobotId) (s : State) : State :=
  let b := s.robot r
  match firstDetail [((s.robotConfig r).registered, Detail.notRegistered),
      (b.activity == .withdrawn, b.activity.code)] with
  | some d => refuseState n d s
  | none =>
    answerDone n []
      (returnEntry (robotLink r)
        (modRobot r (fun b => { b with activity := .unknown, placementMark := true }) (vacate r s)))

/-- R48: SERVICE RETURN of a shuttle, accepted. The RETURN column of R60 applies to a FAULT shuttle as well
(assumption 38). -/
def returnShuttle (k : ShuttleIx) (s : State) : State :=
  let s := modShuttle k (fun x => { x with road := if x.state = .withdrawn then none else x.road }) s
  push (.examineBlock (shuttleBlock s k)) (becomeIdle k (returnEntry (shuttleLink k) s))

/-- R48: SERVICE RETURN of a shuttle. -/
def serviceReturnShuttle (n : SlotIx) (k : ShuttleIx) (s : State) : State :=
  let x := s.shuttle k
  match firstDetail [((s.shuttleConfig k).registered, Detail.notRegistered),
      ((x.state == .withdrawn || x.state == .fault) && x.carried.isNone, x.state.detail)] with
  | some d => refuseState n d s
  | none => answerDone n [] (returnShuttle k s)

/-- SERVICE RETURN. -/
def serviceReturn (n : SlotIx) (ws : List Word) (s : State) : State :=
  match serviceStation ws with
  | .inl r => serviceReturnRobot n r s
  | .inr k => serviceReturnShuttle n k s

/-- R49: the checks of SERVICE DECLARE AT ROW. -/
def declareChecks (s : State) (r : RobotId) (row : RowId) : List (Bool × Nat) :=
  let b := s.robot r
  let x := s.row row
  let unsettled := b.activity == .halted || b.activity == .fault || b.activity == .unknown
  [((s.robotConfig r).registered, Detail.notRegistered),
   (b.activity != .withdrawn, b.activity.code),
   (unsettled || s.robotLinkState r == .lost, b.activity.code),
   (!hasRequest s r, Detail.transfer),
   ((s.site row).present, Detail.absent),
   (blockOf s row == (s.robotConfig r).block, Detail.otherBlock),
   (!x.contested, Detail.contested),
   (x.occupant.isNone || x.occupant == some r, Detail.occupied),
   (x.reserved.isNone, Detail.reserved)]

/-- R49: the robot is placed at the row as DOCKED. Should a pass stand, it ends abandoned first, as in R44; none does in
a run, since what lets the order through has ended it (R71, R136; assumption 64). -/
def declareAt (r : RobotId) (row : RowId) (s : State) : State :=
  settle r row (modRobot r (fun b => { b with activity := .docked }) (leavePlace r (endAbandoned r s)))

/-- SERVICE DECLARE AT ROW. -/
def serviceDeclare (n : SlotIx) (ws : List Word) (s : State) : State :=
  let r := fieldRobot ws 2
  let row := fieldRow ws 4
  match firstDetail (declareChecks s r row) with
  | some d => refuseState n d s
  | none => answerDone n [] (declareAt r row s)

/-- SERVICE_WITHDRAW. -/
def execServiceWithdraw (s : State) : Host.Outcome State Fault Refusal :=
  takeOrder .service (isKindSel .service 3 0 2) serviceWithdraw s

/-- SERVICE_RETURN. -/
def execServiceReturn (s : State) : Host.Outcome State Fault Refusal :=
  takeOrder .service (isKindSel .service 3 1 2) serviceReturn s

/-- SERVICE_DECLARE_AT_ROW. -/
def execServiceDeclareAtRow (s : State) : Host.Outcome State Fault Refusal :=
  takeOrder .service (isKindSel .service 3 2 2) serviceDeclare s

/-! ### SCAN STATIONS, WIPE STATION, DAY CLOSE (R87, R96, R104) -/

/-- The station mask of an order. -/
def orderMask (ws : List Word) : Word := ws.getD 2 0

/-- R87, R96: the mask names a station that is not used. -/
def namesUnused (s : State) (mask : Word) : Bool :=
  allStations.any fun n => maskHas mask n && !(s.stationConfig n).used

/-- SCAN STATIONS. -/
def scanStations (n : SlotIx) (ws : List Word) (s : State) : State :=
  let mask := orderMask ws
  if namesUnused s mask then refuseState n StationState.unused.detail s
  else
    requestScan mask
      (modScanner (fun x => { x with orders := x.orders ++ [{ slot := n, mask := mask, covered := false }] }) s)

/-- WIPE STATION. -/
def wipeStation (n : SlotIx) (ws : List Word) (s : State) : State :=
  let mask := orderMask ws
  if namesUnused s mask then refuseState n StationState.unused.detail s
  else
    let named := allStations.filter (maskHas mask)
    let started := stationMask fun m => maskHas mask m && (s.station m).state != .wiping
    let restarted := stationMask fun m => maskHas mask m && (s.station m).state == .wiping
    answerDone n [started, restarted] (forEach named startPulse s)

/-- DAY CLOSE. -/
def takeDayClose (n : SlotIx) (_ : List Word) (s : State) : State :=
  if s.farm.closeSlot.isSome then answer n .refusedBusy 0 [] s
  else match s.scanner.scan with
    | none => closeAndAnswer n s
    | some _ => modFarm (fun x => { x with closeSlot := some n }) s

/-- SCAN_STATIONS. -/
def execScanStations (s : State) : Host.Outcome State Fault Refusal :=
  takeOrder .scanStations (isKind .scanStations) scanStations s

/-- WIPE_STATION. -/
def execWipeStation (s : State) : Host.Outcome State Fault Refusal :=
  takeOrder .wipeStation (isKind .wipeStation) wipeStation s

/-- DAY_CLOSE. -/
def execDayClose (s : State) : Host.Outcome State Fault Refusal :=
  takeOrder .dayClose (isKind .dayClose) takeDayClose s

/-- The scan in flight has judged its samples and has still to tell the account unit (R86 step 4). -/
def tellingScan (s : State) : Bool := match s.scanner.scan with | some sc => sc.telling | none => false

/-- R104, R86 steps 4 and 5: a held DAY CLOSE runs and is answered; the pending scan, if any, starts. -/
def runDeferredClose (s : State) : State :=
  match s.farm.closeSlot with
  | some n => endScan (modFarm (fun x => { x with closeSlot := none }) (closeAndAnswer n s))
  | none => s

/-- DAY_CLOSE_DEFERRED: due when the account unit is to be told of a completion (assumption 17). -/
def execDayCloseDeferred (s : State) : Host.Outcome State Fault Refusal :=
  actWhen (fun s => s.modes.mode == .run && tellingScan s) runDeferredClose s

/-! ### Rounds (R121, R122, R126, R141) -/

/-- R122 step 1: the round record of a round opened now. -/
def openRecord (ws : List Word) (s : State) : State :=
  let window := clampTo 1 720 (field ws 3)
  let grace := clampTo 0 120 (field ws 4)
  modRound (fun x =>
    { x with number := (x.number + 1) % 65536, blocks := BitVec.ofNat 8 (field ws 2),
             horizon := clampTo 1 15 (field ws 5), leastLoss := clampTo 0 32768 (field ws 6), start := s.siteSecond,
             windowEnd := later s (60 * window), hardEnd := later s (60 * window + 60 * grace), graceMinutes := grace,
             started := 0, complete := 0, partialCount := 0, assigned := 0 }) s

/-- The present rows of the masked blocks, ascending. -/
def rowsOfMask (s : State) : List RowId := allRows.filter fun r => (s.site r).present && inMask s (blockOf s r)

/-- R122 step 3: the fit rows in list order. -/
def fitList (s : State) : List (RowId × Bool) :=
  ((rowsOfMask s).filter (fitRow s)).foldl (fun acc r => insertScored s r acc) []

/-- R122 step 4. -/
def wakeFleet (s : State) : State :=
  if s.round.held then s
  else forEach ((robotsOfMask s).filter fun r => inFleet s r && dozing s r)
    (fun r => commandRobot r .wake .planner) s

/-- R122: the round is opened. -/
def openRound (n : SlotIx) (ws : List Word) (s : State) : State :=
  let s := openRecord ws s
  let s := forEach (rowsOfMask s) scoreRow s
  let list := fitList s
  let s := wakeFleet (modRound (fun x => { x with candidates := list }) s)
  let s := modRound (fun x => { x with state := .active }) s
  let s := answerDone n [word s.round.candidates.length, word s.round.number] s
  if s.round.held then s else pushAll ((robotsOfMask s).map Job.examine) s

/-- START ROUND. -/
def startRound (n : SlotIx) (ws : List Word) (s : State) : State :=
  if s.round.state = .idle then openRound n ws s else refuseState n s.round.state.detail s

/-- STOP ROUND FINISH; word 19 is the round state after the order's whole effect (assumption 44). -/
def stopFinish (n : SlotIx) (_ : List Word) (s : State) : State :=
  match s.round.state with
  | .idle => refuseState n s.round.state.detail s
  | .active =>
    let s := drain (windDown s)
    answerDone n [word s.round.state.detail] s
  | .winding | .recalling => answerDone n [word s.round.state.detail] s

/-- STOP ROUND RECALL. -/
def stopRecall (n : SlotIx) (_ : List Word) (s : State) : State :=
  let hold (s : State) : State := modRound (fun x => { x with recalls := x.recalls ++ [n] }) s
  match s.round.state with
  | .idle => refuseState n s.round.state.detail s
  | .active | .winding => recallFleet (hold s)
  | .recalling => hold s

/-- R126: the checks of CLEAN ROW. -/
def cleanRowChecks (s : State) (row : RowId) : List (Bool × Nat) :=
  let x := s.row row
  [(s.round.state == .active, s.round.state.detail), ((s.site row).present, Detail.absent),
   (inMask s (blockOf s row), Detail.otherBlock), (x.enabled, Detail.disabled), (!x.contested, Detail.contested),
   (x.reserved.isNone, Detail.reserved), (!isPassRow s row, Detail.pass),
   (!occupantOwnsContext s row, Detail.context)]

/-- R126: the index of a row in the list. -/
def listIndex (row : RowId) (xs : List (RowId × Bool)) : Nat := (xs.takeWhile fun p => decide (p.1 ≠ row)).length

/-- CLEAN ROW. -/
def cleanRow (n : SlotIx) (ws : List Word) (s : State) : State :=
  let row := fieldRow ws 2
  match firstDetail (cleanRowChecks s row) with
  | some d => refuseState n d s
  | none =>
    let s := modRound (fun x => { x with candidates := forceInto row x.candidates }) s
    let s := answerDone n [word (listIndex row s.round.candidates), word s.round.candidates.length] s
    push (.examineBlock (blockOf s row)) s

/-- START_ROUND. -/
def execStartRound (s : State) : Host.Outcome State Fault Refusal :=
  takeOrder .startRound (isKind .startRound) startRound s

/-- STOP_ROUND_FINISH. -/
def execStopRoundFinish (s : State) : Host.Outcome State Fault Refusal :=
  takeOrder .stopRound (isKindSel .stopRound 2 0 1) stopFinish s

/-- STOP_ROUND_RECALL. -/
def execStopRoundRecall (s : State) : Host.Outcome State Fault Refusal :=
  takeOrder .stopRound (isKindSel .stopRound 2 1 1) stopRecall s

/-- CLEAN_ROW. -/
def execCleanRow (s : State) : Host.Outcome State Fault Refusal :=
  takeOrder .cleanRow (isKind .cleanRow) cleanRow s

/-! ### MOVE ROBOT (R148, R149) -/

/-- R148: the shuttle that would serve a robot's transfer. -/
def moveShuttle (s : State) (r : RobotId) : Option ShuttleIx := shuttleOf s (s.robotConfig r).block

/-- R148: the checks of MOVE ROBOT. -/
def moveChecks (s : State) (r : RobotId) (d : RowId) : List (Bool × Nat) :=
  let b := s.robot r
  let x := s.row d
  let shuttle := (moveShuttle s r).map s.shuttle
  [((s.robotConfig r).registered, Detail.notRegistered), (b.activity == .docked, b.activity.code),
   (s.robotLinkState r != .lost, Detail.linkLost), (!hasRequest s r, Detail.transfer), (b.pass.isNone, Detail.pass),
   ((s.site d).present, Detail.absent), (blockOf s d == (s.robotConfig r).block, Detail.otherBlock),
   (x.enabled, Detail.disabled), (!x.contested, Detail.contested), (x.occupant.isNone, Detail.occupied),
   (x.reserved.isNone, Detail.reserved), (!x.sheltered, Detail.sheltered), (!x.watch, Detail.watch),
   (shuttle.isSome, Detail.noShuttle),
   (match shuttle with
    | some y => (y.state != .withdrawn && y.state != .fault, y.state.detail)
    | none => (true, 0))]

/-- R149: an accepted MOVE ROBOT. -/
def acceptMove (n : SlotIx) (r : RobotId) (source d : RowId) (k : ShuttleIx) (s : State) : State :=
  let s := leaveList d (abandonOwned r s)
  joinQueue k { robot := r, source := source, destination := d, cls := .host, origin := some n } s

/-- MOVE ROBOT. A DOCKED robot's place is a row; one without a row is refused with its activity. -/
def moveRobot (n : SlotIx) (ws : List Word) (s : State) : State :=
  let r := fieldRobot ws 2
  let d := fieldRow ws 3
  match firstDetail (moveChecks s r d) with
  | some x => refuseState n x s
  | none =>
    match moveShuttle s r, (s.robot r).row? with
    | some k, some source =>
      if 8 ≤ (s.shuttle k).queue.length then answer n .refusedBusy 0 [] s else acceptMove n r source d k s
    | _, _ => refuseState n (s.robot r).activity.code s

/-- MOVE_ROBOT. -/
def execMoveRobot (s : State) : Host.Outcome State Fault Refusal :=
  takeOrder .moveRobot (isKind .moveRobot) moveRobot s

/-! ### STORM ALERT, STORM CLEAR (R187, R188, R190) -/

/-- The host records, 4 to 7. -/
def hostAlerts : List AlertIx := [4, 5, 6, 7]

/-- R187, R190: the host record in use with a code and mask. -/
def matchingAlert (s : State) (code mask : Nat) : Option AlertIx :=
  hostAlerts.find? fun n =>
    let a := s.alert n
    a.state != .free && a.code.toNat == code && a.mask.toNat == mask

/-- R187: the lowest-numbered FREE host record. -/
def freeHostAlert (s : State) : Option AlertIx := hostAlerts.find? fun n => (s.alert n).state == .free

/-- R187: a record taken: code, mask and level from the order, counts 0, no held slot. -/
def takeAlert (n : AlertIx) (code mask : Nat) (level : AlertLevel) (s : State) : State :=
  modAlert n (fun a =>
    { a with code := BitVec.ofNat 8 code, mask := BitVec.ofNat 8 mask, level := level, toSecure := 0, secured := 0,
             late := 0, heldSlot := none, calm := 0 }) s

/-- STORM ALERT at level WATCH. -/
def alertWatch (n : SlotIx) (ws : List Word) (s : State) : State :=
  match matchingAlert s (field ws 2) (field ws 3) with
  | some m => answerDone n [word m.1] s
  | none =>
    match freeHostAlert s with
    | none => answer n .refusedBusy 0 [] s
    | some m =>
      let s := changeAlert m (fun a => { a with state := .watch }) (takeAlert m (field ws 2) (field ws 3) .watch s)
      answerDone n [word m.1] s

/-- The order becomes the record's held slot. -/
def holdPark (m : AlertIx) (n : SlotIx) (s : State) : State := modAlert m (fun a => { a with heldSlot := some n }) s

/-- R188, R192: a PARK merge into a PARKING record: the earlier deadline stands. -/
def mergeDeadline (m : AlertIx) (deadline : Nat) (s : State) : State :=
  if deadline < (s.alert m).deadline then
    let s := redecide m (modAlert m (fun a => { a with deadline := deadline }) s)
    if (s.alert m).deadline ≤ s.siteSecond then expireParking m s else s
  else s

/-- R188: what a PARK merge does to the record. -/
def mergePark (m : AlertIx) (deadline : Nat) (s : State) : State :=
  let s := modAlert m (fun a => { a with level := .park }) s
  match (s.alert m).state with
  | .watch | .releasing => enterParking m deadline s
  | .parking => mergeDeadline m deadline s
  | .parked | .free => s

/-- R188: a PARK order that merges into a record. -/
def mergeParkOrder (n : SlotIx) (m : AlertIx) (deadline : Nat) (s : State) : State :=
  if (s.alert m).heldSlot.isSome then
    let s := mergePark m deadline s
    answer n .done 255 (parkResults s m) s
  else if (s.alert m).state = .parked then
    let s := mergePark m deadline s
    let late := (s.alert m).late
    answer n (if late = 0 then .done else .failed) late (parkResults s m) s
  else mergePark m deadline (holdPark m n s)

/-- STORM ALERT at level PARK. -/
def alertPark (n : SlotIx) (ws : List Word) (s : State) : State :=
  let deadline := later s (clampTo 60 1800 (field ws 5))
  match matchingAlert s (field ws 2) (field ws 3) with
  | some m => mergeParkOrder n m deadline s
  | none =>
    match freeHostAlert s with
    | none => answer n .refusedBusy 0 [] s
    | some m => enterParking m deadline (holdPark m n (takeAlert m (field ws 2) (field ws 3) .park s))

/-- R190: what STORM CLEAR does to a record. -/
def clearAlert (m : AlertIx) (s : State) : State :=
  match (s.alert m).state with
  | .watch => freeAlert m s
  | .parking | .parked => enterReleasing m (hostHoldOff s) (answerHeld m .aborted 0 [] s)
  | .releasing | .free => s

/-- STORM CLEAR. -/
def stormClear (n : SlotIx) (ws : List Word) (s : State) : State :=
  match matchingAlert s (field ws 2) (field ws 3) with
  | none => refuseState n AlertState.free.detail s
  | some m =>
    let s := clearAlert m s
    answerDone n [word m.1, word (s.alert m).state.detail] s

/-- STORM_ALERT_WATCH. -/
def execStormAlertWatch (s : State) : Host.Outcome State Fault Refusal :=
  takeOrder .stormAlert (isKindSel .stormAlert 4 0 1) alertWatch s

/-- STORM_ALERT_PARK. -/
def execStormAlertPark (s : State) : Host.Outcome State Fault Refusal :=
  takeOrder .stormAlert (isKindSel .stormAlert 4 1 1) alertPark s

/-- STORM_CLEAR. -/
def execStormClear (s : State) : Host.Outcome State Fault Refusal :=
  takeOrder .stormClear (isKind .stormClear) stormClear s

end Sys2Proof.Machine
end

