-- ==== Sys2Proof/Machine/TimerEvents.lean ====
section
/-!
DEFINITION. The expiries of the part's timers and the events of the field instruments: round ends, stage deadlines,
measurements, the periodic scan, wiper pulses, anemometer pulses and windows, parking deadlines, hold-offs. An expiry
advances the site second to the timer's own second (assumption 4).
-/

namespace Sys2Proof.Machine

/-- The mode is RUN. -/
def running (s : State) : Bool := s.modes.mode == .run

/-! ### Round ends (R120, R139, R140) -/

/-- R120, R139: the window end; with no grace the round goes on to RECALLING where it is still WINDING
(assumption 18). -/
def reachWindowEnd (s : State) : State :=
  let s := windDown (advanceTo s.round.windowEnd s)
  if s.round.graceMinutes = 0 then
    let s := drain s
    if s.round.state = .winding then recallFleet s else s
  else s

/-- ROUND_WINDOW_END: due while the round is ACTIVE. -/
def execRoundWindowEnd (s : State) : Host.Outcome State Fault Refusal :=
  actWhen (fun s => running s && s.round.state == .active) reachWindowEnd s

/-- R140. -/
def reachHardEnd (s : State) : State := recallFleet (advanceTo s.round.hardEnd s)

/-- ROUND_HARD_END: due while the round is WINDING. -/
def execRoundHardEnd (s : State) : Host.Outcome State Fault Refusal :=
  actWhen (fun s => running s && s.round.state == .winding) reachHardEnd s

/-! ### Stage deadlines (R158, R166) -/

/-- R158: the stage, or the shelter drive, fails. -/
def reachDeadline (k : ShuttleIx) (s : State) : State :=
  match (s.shuttle k).deadline with
  | none => s
  | some t =>
    let s := advanceTo t s
    if (s.shuttle k).state = .toShelter then failShelter k s else failStage k s

/-- STAGE_DEADLINE_EXPIRY: due while a deadline of the shuttle runs. -/
def execStageDeadlineExpiry (k : ShuttleIx) (s : State) : Host.Outcome State Fault Refusal :=
  actWhen (fun s => running s && (s.shuttle k).deadline.isSome) (reachDeadline k) s

/-! ### Measurements and scans (R82, R85, R86) -/

/-- A scan is measuring a channel. -/
def measuring (s : State) : Bool :=
  match s.scanner.scan with
  | some sc => !sc.telling && !sc.channels.isEmpty
  | none => false

/-- R82, R95: the raw count of the head channel is kept while its station is still in the scan. -/
def Scan.measuredOne (sc : Scan) (owned : Bool) (count : Nat) : Scan :=
  match sc.channels with
  | [] => sc
  | c :: rest => { sc with channels := rest, raw := if owned then sc.raw ++ [(c, count)] else sc.raw }

/-- R82: one measurement ends; the last one completes the scan. A count is at most the full scale. -/
def endMeasurement (periods : Nat) (s : State) : State :=
  match s.scanner.scan with
  | none => s
  | some sc =>
    let owned := (channelOwner s sc.measured (sc.channels.headD 0)).isSome
    let sc := sc.measuredOne owned (min periods (fullScale s))
    let s := modScanner (fun x => { x with scan := some sc }) s
    if sc.channels = [] then completeScan s else s

/-- MEASUREMENT_END. -/
def execMeasurementEnd (periods : Nat) (s : State) : Host.Outcome State Fault Refusal :=
  actWhen (fun s => running s && measuring s) (endMeasurement periods) s

/-- R85: an expiry requests a scan of all used stations; the next is one interval on. -/
def periodicExpires (s : State) : State :=
  match s.scanner.periodicDue with
  | none => s
  | some t =>
    let s := advanceTo t s
    let next := (t + 60 * s.params.scanInterval) % 4294967296
    requestScan (usedMask s) (modScanner (fun x => { x with periodicDue := some next }) s)

/-- PERIODIC_SCAN_TIMER. -/
def execPeriodicScanTimer (s : State) : Host.Outcome State Fault Refusal :=
  actWhen (fun s => running s && s.scanner.periodicDue.isSome) periodicExpires s

/-- R94. -/
def pulseExpires (n : StationIx) (s : State) : State :=
  match (s.station n).pulseEnd with
  | none => s
  | some t => endPulse n (advanceTo t s)

/-- WIPER_PULSE_END: due in any mode while a pulse runs (R35). -/
def execWiperPulseEnd (n : StationIx) (s : State) : Host.Outcome State Fault Refusal :=
  actWhen (fun s => (s.station n).pulseEnd.isSome) (pulseExpires n) s

/-! ### Anemometers, parking deadlines, hold-offs (R180, R194, R197) -/

/-- R180: a pulse is counted in the window under way. -/
def countPulse (a : AnemIx) (s : State) : State := modAnemometer a (fun x => { x with pulses := x.pulses + 1 }) s

/-- ANEMOMETER_PULSE: pulses in SETUP or CHECKING are not counted. -/
def execAnemometerPulse (a : AnemIx) (s : State) : Host.Outcome State Fault Refusal :=
  actWhen running (countPulse a) s

/-- R180: a window ends. -/
def windowEnds (a : AnemIx) (s : State) : State :=
  match (tget s.anemometers a).windowDue with
  | none => s
  | some t => endWindow a (advanceTo t s)

/-- ANEMOMETER_WINDOW_END. -/
def execAnemometerWindowEnd (a : AnemIx) (s : State) : Host.Outcome State Fault Refusal :=
  actWhen (fun s => running s && (tget s.anemometers a).windowDue.isSome) (windowEnds a) s

/-- R194. -/
def parkDeadline (n : AlertIx) (s : State) : State := expireParking n (advanceTo (s.alert n).deadline s)

/-- PARK_DEADLINE_EXPIRY: due while the record is PARKING. -/
def execParkDeadlineExpiry (n : AlertIx) (s : State) : Host.Outcome State Fault Refusal :=
  actWhen (fun s => running s && (s.alert n).state == .parking) (parkDeadline n) s

/-- R197. -/
def holdOffExpires (n : AlertIx) (s : State) : State := expireHoldOff n (advanceTo (s.alert n).holdOff s)

/-- HOLD_OFF_EXPIRY: due while the record is RELEASING. -/
def execHoldOffExpiry (n : AlertIx) (s : State) : Host.Outcome State Fault Refusal :=
  actWhen (fun s => running s && (s.alert n).state == .releasing) (holdOffExpires n) s

end Sys2Proof.Machine
end

