-- ==== Sys2Proof/Machine/Dispatch.lean ====
section
/-!
DEFINITION. The meaning of every command: one arm per constructor of `Instr`, each one call of its meaning.
-/

namespace Sys2Proof.Machine

def exec (i : Instr) (s : State) : Host.Outcome State Fault Refusal :=
  match i with
  | .powerOnReset => Sys2Proof.Machine.execPowerOnReset s
  | .pinResetAssert => Sys2Proof.Machine.execPinResetAssert s
  | .pinResetRelease => Sys2Proof.Machine.execPinResetRelease s
  | .softReset modeRequest statusPage => Sys2Proof.Machine.execSoftReset modeRequest statusPage s
  | .runRequest statusPage => Sys2Proof.Machine.execRunRequest statusPage s
  | .setupRequest statusPage => Sys2Proof.Machine.execSetupRequest statusPage s
  | .statusPageSelect modeRequest statusPage => Sys2Proof.Machine.execStatusPageSelect modeRequest statusPage s
  | .runEntryChecks => Sys2Proof.Machine.execRunEntryChecks s
  | .setupAtFrameEnd => Sys2Proof.Machine.execSetupAtFrameEnd s
  | .post mask => Sys2Proof.Machine.execPost mask s
  | .abort mask => Sys2Proof.Machine.execAbort mask s
  | .answeredCollect mask => Sys2Proof.Machine.execAnsweredCollect mask s
  | .noticeClear bits => Sys2Proof.Machine.execNoticeClear bits s
  | .noticeEnableWrite value => Sys2Proof.Machine.execNoticeEnableWrite value s
  | .registerWriteOther reg value => Sys2Proof.Machine.execRegisterWriteOther reg value s
  | .hostMemoryWrite addr value => Sys2Proof.Machine.execHostMemoryWrite addr value s
  | .hostSilenceExpiry => Sys2Proof.Machine.execHostSilenceExpiry s
  | .mirrorRewriteStart m => Sys2Proof.Machine.execMirrorRewriteStart m s
  | .mirrorRewriteEnd m => Sys2Proof.Machine.execMirrorRewriteEnd m s
  | .unknownOrder => Sys2Proof.Machine.execUnknownOrder s
  | .setRowEnable => Sys2Proof.Machine.execSetRowEnable s
  | .setRowDisable => Sys2Proof.Machine.execSetRowDisable s
  | .setRowClearContested => Sys2Proof.Machine.execSetRowClearContested s
  | .serviceWithdraw => Sys2Proof.Machine.execServiceWithdraw s
  | .serviceReturn => Sys2Proof.Machine.execServiceReturn s
  | .serviceDeclareAtRow => Sys2Proof.Machine.execServiceDeclareAtRow s
  | .scanStations => Sys2Proof.Machine.execScanStations s
  | .wipeStation => Sys2Proof.Machine.execWipeStation s
  | .dayClose => Sys2Proof.Machine.execDayClose s
  | .dayCloseDeferred => Sys2Proof.Machine.execDayCloseDeferred s
  | .startRound => Sys2Proof.Machine.execStartRound s
  | .stopRoundFinish => Sys2Proof.Machine.execStopRoundFinish s
  | .stopRoundRecall => Sys2Proof.Machine.execStopRoundRecall s
  | .cleanRow => Sys2Proof.Machine.execCleanRow s
  | .moveRobot => Sys2Proof.Machine.execMoveRobot s
  | .stormAlertWatch => Sys2Proof.Machine.execStormAlertWatch s
  | .stormAlertPark => Sys2Proof.Machine.execStormAlertPark s
  | .stormClear => Sys2Proof.Machine.execStormClear s
  | .turnStart => Sys2Proof.Machine.execTurnStart s
  | .keyLeadExpiry => Sys2Proof.Machine.execKeyLeadExpiry s
  | .frameSent => Sys2Proof.Machine.execFrameSent s
  | .replyWindowExpiry => Sys2Proof.Machine.execReplyWindowExpiry s
  | .replyFrameEnd chars => Sys2Proof.Machine.execReplyFrameEnd chars s
  | .replyLengthLimit chars => Sys2Proof.Machine.execReplyLengthLimit chars s
  | .broadcastTurnEnd => Sys2Proof.Machine.execBroadcastTurnEnd s
  | .roundWindowEnd => Sys2Proof.Machine.execRoundWindowEnd s
  | .roundHardEnd => Sys2Proof.Machine.execRoundHardEnd s
  | .stageDeadlineExpiry k => Sys2Proof.Machine.execStageDeadlineExpiry k s
  | .measurementEnd periods => Sys2Proof.Machine.execMeasurementEnd periods s
  | .periodicScanTimer => Sys2Proof.Machine.execPeriodicScanTimer s
  | .wiperPulseEnd n => Sys2Proof.Machine.execWiperPulseEnd n s
  | .anemometerPulse a => Sys2Proof.Machine.execAnemometerPulse a s
  | .anemometerWindowEnd a => Sys2Proof.Machine.execAnemometerWindowEnd a s
  | .parkDeadlineExpiry n => Sys2Proof.Machine.execParkDeadlineExpiry n s
  | .holdOffExpiry n => Sys2Proof.Machine.execHoldOffExpiry n s

end Sys2Proof.Machine
end

