-- ==== Sys2Proof/Machine/Step.lean ====
section
/-!
DEFINITION. One step of the FC48: the command at the front of the waiting queue is carried out; with none waiting, a
character goes out on the line or one site second passes.
-/

namespace Sys2Proof.Machine

/-- One step. A command leaves the queue before it is carried out. On an empty queue the part idles: the next character
of a frame being sent goes into the shift register, or one site second passes (assumption 3). -/
def step (s : State) : Host.Outcome State Fault Refusal :=
  match s.pending with
  | [] => .next (idleTick s)
  | c :: rest => exec c { s with pending := rest }

/-- The state with the command that a table word spells at the front of its queue. The table gives no row any bits, so
no word spells a command and the state is unchanged (assumption 31). -/
def State.withFetchWord (s : State) (nbits w : Nat) : State :=
  match decodeTableWord nbits w with
  | some c => { s with pending := c :: s.pending }
  | none => s

end Sys2Proof.Machine
end

