-- ==== Sys2Proof/Safety.lean ====
section
/-!
DEFINITION. What counts as a lawful state and a lawful change of the FC48, in the terms that the statements use: which
commands write which register, and the invariants that the manual's prose states of the whole machine.
-/

namespace Sys2Proof

/-- The command is a host write to this register (R18: each host write to any of the eight register addresses). -/
def Instr.writes (c : Instr) (reg : Register) : Prop :=
  match c with
  | .softReset _ _ | .runRequest _ | .setupRequest _ | .statusPageSelect _ _ => reg = .control
  | .post _ => reg = .post
  | .abort _ => reg = .abort
  | .answeredCollect _ => reg = .answered
  | .noticeClear _ => reg = .notice
  | .noticeEnableWrite _ => reg = .noticeEnable
  | .registerWriteOther x _ => reg = x
  | .hostMemoryWrite a _ => Machine.registerAt a = some reg
  | _ => False

/-- The command is a CONTROL write with the soft reset bit set (R20, R23). -/
def Instr.softResets (c : Instr) : Prop :=
  match c with
  | .softReset _ _ => True
  | .registerWriteOther reg v => reg = .control ∧ v.getLsbD 1 = true
  | .hostMemoryWrite a v => Machine.registerAt a = some .control ∧ v.getLsbD 1 = true
  | _ => False

/-- The command can reset the part (R23): power-on, either edge of the reset pin, or a soft reset. -/
def Instr.mayReset (c : Instr) : Prop :=
  c = .powerOnReset ∨ c = .pinResetAssert ∨ c = .pinResetRelease ∨ c.softResets

/-- The mode changes that a command other than a reset can make (R20, R31 to R33, R35, R77). -/
inductive Instr.ModeMove (c : Instr) : Machine.Mode → Machine.Mode → Prop
  | check : c.writes .control → Instr.ModeMove c .setup .checking
  | refuse : c = .runEntryChecks → Instr.ModeMove c .checking .setup
  | enter : c = .runEntryChecks → Instr.ModeMove c .checking .run
  | leave : c.writes .control ∨ c = .frameSent ∨ c = .setupAtFrameEnd → Instr.ModeMove c .run .setup

/-- The kind of order that a command takes, and which slots of that kind: those whose selecting word (action, mode or
level) is its own, or names nothing (R205, assumption 1). -/
def Instr.takesOrder (c : Instr) : Option (Machine.OrderKind × (List Word → Bool)) :=
  match c with
  | .setRowEnable => some (.setRow, Machine.isKindSel .setRow 3 0 2)
  | .setRowDisable => some (.setRow, Machine.isKindSel .setRow 3 1 2)
  | .setRowClearContested => some (.setRow, Machine.isKindSel .setRow 3 2 2)
  | .serviceWithdraw => some (.service, Machine.isKindSel .service 3 0 2)
  | .serviceReturn => some (.service, Machine.isKindSel .service 3 1 2)
  | .serviceDeclareAtRow => some (.service, Machine.isKindSel .service 3 2 2)
  | .scanStations => some (.scanStations, Machine.isKind .scanStations)
  | .wipeStation => some (.wipeStation, Machine.isKind .wipeStation)
  | .dayClose => some (.dayClose, Machine.isKind .dayClose)
  | .startRound => some (.startRound, Machine.isKind .startRound)
  | .stopRoundFinish => some (.stopRound, Machine.isKindSel .stopRound 2 0 1)
  | .stopRoundRecall => some (.stopRound, Machine.isKindSel .stopRound 2 1 1)
  | .cleanRow => some (.cleanRow, Machine.isKind .cleanRow)
  | .moveRobot => some (.moveRobot, Machine.isKind .moveRobot)
  | .stormAlertWatch => some (.stormAlert, Machine.isKindSel .stormAlert 4 0 1)
  | .stormAlertPark => some (.stormAlert, Machine.isKindSel .stormAlert 4 1 1)
  | .stormClear => some (.stormClear, Machine.isKind .stormClear)
  | _ => none

end Sys2Proof

namespace Sys2Proof.Machine

/-! ### The order board (R6, R8, R14) -/

/-- R6, R8: the intake queue holds only HELD slots, each once. R14: an abort request is recorded only for a slot that
is HELD and taken. -/
structure BoardLawful (b : Board) : Prop where
  once : b.intake.Nodup
  held : ∀ n ∈ b.intake, (tget b.slots n).state = .held
  requests : ∀ n, (tget b.slots n).abortRequested = true → (tget b.slots n).state = .held ∧ n ∉ b.intake

/-! ### Ratios and accounts (R97, R101, R115) -/

/-- R97, R101: every Tr, SRf and Ts is at most 1.0, which is 32768. -/
def RatiosBounded (s : State) : Prop :=
  (∀ r, (tget s.rows r).tr ≤ 32768) ∧ ∀ n, (tget s.stations n).srf ≤ 32768 ∧ (tget s.stations n).ts ≤ 32768

/-- R115: a saturating account goes from x to y: where x is a value of its field, it does not fall and stays within
the field. -/
def Grows (cap x y : Nat) : Prop := x ≤ cap → x ≤ y ∧ y ≤ cap

/-- R115: the four accounts of a row grow. -/
structure RowGrows (x y : Row) : Prop where
  cumLoss : Grows max32 x.cumLoss y.cumLoss
  cumRecovered : Grows max32 x.cumRecovered y.cumRecovered
  passEnergy : Grows max32 x.passEnergy y.passEnergy
  passCount : Grows max16 x.passCount y.passCount

/-- R115: the eight farm accounts grow. -/
structure FarmGrows (x y : Farm) : Prop where
  totalLoss : Grows max32 x.totalLoss y.totalLoss
  totalRecovered : Grows max32 x.totalRecovered y.totalRecovered
  passEnergy : Grows max32 x.passEnergy y.passEnergy
  transitEnergy : Grows max32 x.transitEnergy y.transitEnergy
  shuttleEnergy : Grows max32 x.shuttleEnergy y.shuttleEnergy
  completePasses : Grows max32 x.completePasses y.completePasses
  partialPasses : Grows max32 x.partialPasses y.partialPasses
  closeCount : Grows max16 x.closeCount y.closeCount

/-- R115: every cumulative row and farm account grows. -/
def AccountsGrow (s t : State) : Prop := (∀ r, RowGrows (tget s.rows r) (tget t.rows r)) ∧ FarmGrows s.farm t.farm

/-- The four accounts of a row, R115. -/
def Row.accounts (x : Row) : List Nat := [x.cumLoss, x.cumRecovered, x.passEnergy, x.passCount]

/-- The eight farm accounts, R116. -/
def Farm.accounts (x : Farm) : List Nat :=
  [x.totalLoss, x.totalRecovered, x.passEnergy, x.transitEnergy, x.shuttleEnergy, x.completePasses, x.partialPasses,
   x.closeCount]

/-- R115: every account stands as it stood. -/
def AccountsStand (s t : State) : Prop :=
  (∀ r, (tget t.rows r).accounts = (tget s.rows r).accounts) ∧ t.farm.accounts = s.farm.accounts

/-- R115: every account is 0. -/
def AccountsZero (s : State) : Prop :=
  (∀ r, ∀ x ∈ (tget s.rows r).accounts, x = 0) ∧ ∀ x ∈ s.farm.accounts, x = 0

/-! ### FieldLink (R60, R63, R70, R74) -/

/-- R70: the error counter lies in 0..256; R72: the recovery count is below 8; R74: the noise count is at most 255. -/
structure EntryLawful (e : LinkEntry) : Prop where
  errorCount : e.errorCount ≤ 256
  recovery : e.recovery < 8
  noise : e.noise ≤ 255

/-- R63: the urgent queue holds at most 16 entries, and a held broadcast count is at most 3. -/
structure LinkLawful (l : LinkUnit) : Prop where
  entries : ∀ i, EntryLawful (tget l.entries i)
  urgent : l.urgent.length ≤ 16
  held : ∀ n, tget l.heldBroadcast n ≤ 3

/-! ### Alert records (R183) -/

/-- R183: the counts of an alert record lie in 0..48. -/
structure AlertLawful (a : Alert) : Prop where
  toSecure : a.toSecure ≤ 48
  secured : a.secured ≤ 48
  late : a.late ≤ 48

/-- R183: every alert record's counts are in range. -/
def AlertsLawful (s : State) : Prop := ∀ n, AlertLawful (tget s.alerts n)

/-! ### The candidate list (R123) and the request queues (R147) -/

/-- R123: the list never holds a row twice, and forced rows stand first. -/
structure ListLawful (xs : List (RowId × Bool)) : Prop where
  once : (xs.map Prod.fst).Nodup
  forcedFirst : xs.Pairwise fun p q => q.2 = true → p.2 = true

/-- R147: the request queue of a shuttle holds at most 8 requests. -/
def QueuesLawful (s : State) : Prop := ∀ k, (tget s.shuttles k).queue.length ≤ 8

/-! ### Places, reservations and transfers (R41, R145) -/

/-- The shuttle state that names a stage of a transfer in service, R145. -/
def Stage.state : Stage → ShuttleState
  | .fetch => .fetch | .board => .board | .carry => .carry | .alight => .alight

/-- R145, R147: the robots of the requests queued and of the transfers held, stranded ones included. -/
def requestRobots (s : State) : List RobotId :=
  allShuttles.flatMap fun k =>
    ((s.shuttle k).queue.map fun q => q.robot) ++ (s.shuttle k).transfer.toList.map fun t => t.robot

/-- A request queued or a transfer held, stranded ones included, of robot r to this row. -/
def requestedBy (s : State) (r : RobotId) (row : RowId) : Prop :=
  ∃ k, (∃ q ∈ (s.shuttle k).queue, q.robot = r ∧ q.destination = row)
    ∨ ∃ t, (s.shuttle k).transfer = some t ∧ t.robot = r ∧ t.destination = row

/-- R41: a row is the place of at most one robot and never carries a reservation while it is some robot's place; a
robot has one place, and the row or shuttle there names it. R145, R147: a robot has one request at most, its
destination reserved from the request to its end; the state of a shuttle names the stage of its transfer, and a shuttle
carries nobody but the robot of the transfer that it carries out, or in FAULT the one that a failure left aboard. R46: a
WITHDRAWN robot is unplaced and has no request. -/
structure PlacesLawful (s : State) : Prop where
  atRow : ∀ r row, (s.robot r).place = .row row ↔ (s.row row).occupant = some r
  aboard : ∀ r k, (s.robot r).place = .shuttle k ↔ (s.shuttle k).carried = some r
  unreserved : ∀ row, (s.row row).occupant ≠ none → (s.row row).reserved = none
  queued : ∀ k, ∀ q ∈ (s.shuttle k).queue, (s.row q.destination).reserved = some q.robot
  serving : ∀ k t, (s.shuttle k).transfer = some t → t.stranded = false →
    (s.row t.destination).reserved = some t.robot
  requested : ∀ row r, (s.row row).reserved = some r → requestedBy s r row
  once : (requestRobots s).Nodup
  stages : ∀ k t, (s.shuttle k).transfer = some t → t.stranded = false → (s.shuttle k).state = t.stage.state
  stranded : ∀ k t, (s.shuttle k).transfer = some t → t.stranded = true →
    (s.shuttle k).state = .fault ∧ (s.shuttle k).carried = some t.robot
  loaded : ∀ k r, (s.shuttle k).carried = some r →
    (s.shuttle k).state = .carry ∨ (s.shuttle k).state = .alight ∨ (s.shuttle k).state = .fault
  carrying : ∀ k t r, (s.shuttle k).transfer = some t → t.stranded = false → (s.shuttle k).carried = some r →
    t.robot = r
  withdrawn : ∀ r, (s.robot r).activity = .withdrawn → (s.robot r).place = .unknown ∧ r ∉ requestRobots s

/-! ### The context pool (R168, R169) -/

/-- R169: the records that the free list passes through, from a head, by the link fields. -/
def freeChain (records : Table 96 Context) : Option CtxIx → List CtxIx → Prop
  | head, [] => head = none
  | head, x :: rest => head = some x ∧ freeChain records (tget records x).link rest

/-- R168, R169: the free list holds exactly the records without an owner, each once, and the free count is its length;
a record is owned by a robot when, and only when, that robot's context index names it. -/
structure PoolLawful (s : State) : Prop where
  chain : ∃ xs : List CtxIx, xs.Nodup ∧ freeChain s.pool.records s.pool.head xs ∧ s.pool.freeCount = xs.length
    ∧ ∀ x, x ∈ xs ↔ (tget s.pool.records x).owner = none
  owners : ∀ x r, (tget s.pool.records x).owner = some r ↔ (tget s.robots r).context = some x

/-! ### Passes, contexts and the candidate list (R123, R168) -/

/-- R123: what a row in the candidate list must be: enabled, not contested, without a reservation, no robot's pass row,
and not the row of an occupant that owns a context. -/
structure RowListable (s : State) (row : RowId) : Prop where
  enabled : (s.row row).enabled = true
  settled : (s.row row).contested = false
  unreserved : (s.row row).reserved = none
  unpassed : ∀ r, (s.robot r).passRow ≠ some row
  unsaved : ∀ o, (s.row row).occupant = some o → (s.robot o).context = none

/-- R168, R171: the row of a pass and the row of an owned context are their robot's place row. A robot with a transfer
request, queued or in service, has neither a pass nor a context (R127, R148, R149), nor has a WITHDRAWN one (R46). In
IDLE there is no pass and the list is empty (R123, R143); the list holds only rows that may stand in it. -/
structure WorkLawful (s : State) : Prop where
  passes : ∀ r p, (s.robot r).pass = some p → (s.robot r).place = .row p.row
  contexts : ∀ r c, (s.robot r).context = some c → ∃ row, (s.robot r).place = .row row ∧ (s.context c).row = row.1
  queued : ∀ k, ∀ q ∈ (s.shuttle k).queue, (s.robot q.robot).pass = none ∧ (s.robot q.robot).context = none
  serving : ∀ k t, (s.shuttle k).inService = some t → (s.robot t.robot).pass = none ∧ (s.robot t.robot).context = none
  withdrawn : ∀ r, (s.robot r).activity = .withdrawn → (s.robot r).pass = none ∧ (s.robot r).context = none
  idle : s.round.state = .idle → s.round.candidates = [] ∧ ∀ r, (s.robot r).pass = none
  listed : ∀ p ∈ s.round.candidates, RowListable s p.1

/-! ### Exchange memory (R1, R2) -/

/-- A word of record n of a region of records of `size` words lies between `first` and `last`. -/
def inRecords (base size count first last a : Nat) : Bool :=
  decide (base ≤ a) && decide (a < base + size * count) && decide (first ≤ (a - base) % size)
    && decide ((a - base) % size ≤ last)

/-- R1: the host-written words of exchange memory. -/
def hostWritten (a : Nat) : Bool :=
  inRecords 0x0000 32 16 0 15 a || inRecords 0x0200 64 1 0 63 a || inRecords 0x02A0 8 16 0 2 a
    || inRecords 0x0320 16 8 12 15 a || inRecords 0x03A0 16 48 11 15 a || inRecords 0x06A0 8 256 0 7 a
    || (decide (0x25A0 ≤ a) && decide (a ≤ 0x7FF7))

/-- R4: a rewrite writes only part-written words. -/
def RewritesLawful (s : State) : Prop :=
  ∀ m ws, (mirrorOf s m).rewrite = some ws → ∀ p ∈ ws, hostWritten p.1 = false

/-! ### What the statements speak of -/

/-- R18, R19: the state that a host register write finds: the silence monitor has been restarted and, where the silent
flag was set, what its clearing gives rise to has been carried out. -/
def afterWrite (s : State) : State := drain (restartSilence { s with agenda := [] })

/-- The order engine is free to take the slot at the head of the intake queue in RUN, and its word 0 holds this
number (R8, R9). -/
structure AtHead (s : State) (n : SlotIx) (rest : List SlotIx) (kind : Nat) : Prop where
  released : s.resetHeld = false
  running : s.modes.mode = .run
  head : s.board.intake = n :: rest
  kind : (s.mem (slotBase n)).toNat = kind

/-- R8, R11: the state when the head slot has been taken: it has left the queue, its words 0 to 15 are in the order
register, and its tag is word 1. -/
def takenAt (s : State) (n : SlotIx) (rest : List SlotIx) : State :=
  { s with
    agenda := []
    board :=
      { s.board with
        intake := rest
        orderRegister := slotWords s n
        slots := tset s.board.slots n { tget s.board.slots n with tag := s.mem (slotBase n + 1) } } }

/-- Word i of an order's slot as a number. -/
def orderWord (s : State) (n : SlotIx) (i : Nat) : Nat := (s.mem (slotBase n + i)).toNat

/-- R65: the pending command of a station that is polled is this one, for this owner. -/
def Commanded (t : State) (i : LinkId) (cmd : Cmd) (owner : Owner) : Prop :=
  (t.entry i).inPollList = true → ∃ p, (t.entry i).command = some p ∧ p.cmd = cmd ∧ p.owner = owner

/-- R63: an entry for the station stands in the urgent queue, or is held for it. -/
def Urged (t : State) (i : LinkId) : Prop := .station i ∈ t.link.urgent ∨ (t.entry i).heldUrgent = true

/-- R11: the slot is ANSWERED, with this class in word 16 and this detail in word 17. -/
def AnsweredWith (t : State) (n : SlotIx) (cls detail : Nat) : Prop :=
  (t.slot n).state = .answered ∧ t.mem (slotBase n + 16) = word cls ∧ t.mem (slotBase n + 17) = word detail

/-- R23: the order board, the registers and the mirrors after a reset. -/
structure ResetBoard (t : State) : Prop where
  slots : ∀ n, (t.slot n).state = .free ∧ (t.slot n).abortRequested = false
  intake : t.board.intake = [] ∧ t.board.orderRegister = []
  masks : readPost t = 0 ∧ readAbort t = 0 ∧ readAnswered t = 0
  notices : t.board.notice = 0 ∧ t.board.enable = 0 ∧ interruptAsserted t = false
  control : readControl t = 0
  status : statusPage0 t = 0 ∧ statusPage1 t = 0 ∧ readStatus t = 0
  mode : t.modes.mode = .setup ∧ t.modes.refusal = .none ∧ t.modes.refusalIndex = 0 ∧ t.modes.clamped = 0
  silence : t.board.silenceStart = none ∧ t.board.silent = false
  mirrors : ∀ m, (mirrorOf t m).count = 0 ∧ (mirrorOf t m).pending = true ∧ t.mem (countAddress m) = 0

end Sys2Proof.Machine
end

