-- ==== Sys2Proof/Certificates/Slice0/Obligations.lean ====
section
/-!
DEFINITION. The statements for the provers, chapter by chapter of the manual. A statement speaks of the states that
the machine passes through by the model's own names; a state written out as a record update says that every field it
does not name is as before. `commit` is spoken for by `MirrorRewrites`, `markRewrite` sets one mark, and `answer` is
spoken for by `AnswerWritten`; `drain` delivers the notices of the agenda, in the order that Laws/Frame.lean states, each
to the block whose handling (`handle`) a statement gives.
-/

open Sys2Proof Sys2Proof.Machine

/-! ### The queue of commands -/

/-- One step carries out the command at the front of the waiting queue, on the state whose queue is the rest. With no
command waiting, nothing happens in reset; while a character waits behind the one being sent, the stop bit of that one
ends and the waiting character goes out (R53); otherwise one site second passes (what an idle step does is the model's
choice, assumption 3). -/
def Obligations.StepTakesFront : Prop :=
  (∀ (c : Instr) (s : State) (rest : List Instr), step { s with pending := c :: rest } = exec c { s with pending := rest })
  ∧ ∀ s : State, s.pending = [] →
      (s.resetHeld = true → step s = .next s)
      ∧ (s.resetHeld = false → ∀ c, s.link.transmitter.holding = some c →
          step s = .next { s with link := { s.link with transmitter :=
            { shift := some c, holding := s.link.transmitter.rest.head?, rest := s.link.transmitter.rest.tail } } })
      ∧ (s.resetHeld = false → s.link.transmitter.holding = none →
          step s = .next { s with siteSecond := (s.siteSecond + 1) % 4294967296 })

/-! ### Resets, register writes and outputs (chapter 1) -/

/-- R22, R23, R201: each kind of reset leaves the board, the registers and the mirrors at their reset values, and ID
names the reset; a pin and a soft reset keep every word of memory but the change counts. R23, R208: while the reset
pin is asserted the registers read their reset values, every output stands as in reset (TXD at the idle level), host
writes to registers are discarded, and host writes of memory words are carried out. That the assertion itself leaves
all of memory alone, change counts included, and that ID shows the last cause until the release, is the model's
reading (assumption 8). -/
def Obligations.ResetsBoard : Prop :=
  ((∀ s : State, ∃ t, exec .powerOnReset s = .next t ∧ ResetBoard t ∧ readId t = 0x1148#16)
    ∧ (∀ s : State, s.resetHeld = true → Memory.wf s.memory = true →
        ∃ t, exec .pinResetRelease s = .next t ∧ t.resetHeld = false ∧ ResetBoard t ∧ readId t = 0x2148#16
          ∧ ∀ a, (∀ m, a ≠ countAddress m) → t.mem a = s.mem a)
    ∧ ∀ (s : State) (request page : Bool), s.resetHeld = false → Memory.wf s.memory = true →
        ∃ t, exec (.softReset request page) s = .next t ∧ ResetBoard t ∧ readId t = 0x3148#16
          ∧ ∀ a, (∀ m, a ≠ countAddress m) → t.mem a = s.mem a)
  ∧ ((∀ s : State, s.resetHeld = false → ∃ t, exec .pinResetAssert s = .next t ∧ t.resetHeld = true ∧ t.memory = s.memory
      ∧ readId t = readId s ∧ (∀ bit, txd t bit = true)
      ∧ (∀ n, (t.slot n).state = .free ∧ (t.slot n).abortRequested = false) ∧ t.board.intake = []
      ∧ readPost t = 0 ∧ readAbort t = 0 ∧ readAnswered t = 0 ∧ t.board.notice = 0 ∧ t.board.enable = 0
      ∧ readControl t = 0 ∧ statusPage0 t = 0 ∧ statusPage1 t = 0 ∧ interruptAsserted t = false
      ∧ radioKey t = false ∧ (∀ b, blockClear t b = false) ∧ ∀ n, wiperOutput t n = false)
    ∧ (∀ s : State, s.resetHeld = true → exec .pinResetAssert s = .next s)
    ∧ (∀ (s : State) (c : Instr) (reg : Register), s.resetHeld = true → c.writes reg → exec c s = .next s)
    ∧ ∀ (s : State) (a : Nat) (v : Word), s.resetHeld = true → a < 0x7FF8 → Memory.wf s.memory = true →
        ∃ t, exec (.hostMemoryWrite a v) s = .next t ∧ t.resetHeld = true
          ∧ ∀ x, t.mem x = if x = a then v else s.mem x)

/-- Power-on leaves the state of `State.reset` but for the waiting commands, the free value's counter and the pin's
level, which are no registers (assumption 7); its masters are the power-on columns of R36, R37, R38, R60, R97, R117,
R119, R170, R183 and R199. (No plant is in force before RUN entry, and Tr, daily loss and accounts start as R36 gives;
values that the manual does not give are the model's, assumption 6.) The pin and soft columns of the same tables: rows
keep their Tr, daily loss and accounts, stations their SRf, Ts and reseed flag, the farm its accounts; everything
else, the plant in force and the site second with it, stands as at power-on. -/
def Obligations.ResetsMasters : Prop :=
  (∀ s : State, exec .powerOnReset s =
      .next { State.reset with pending := s.pending, freeCount := s.freeCount, resetHeld := s.resetHeld })
  ∧ (let t := State.reset
    (∀ r, t.row r =
        { tr := 32768, enabled := false, sheltered := false, watch := false, contested := false, occupant := none
          reserved := none, daily := 0, lastScore := 0, cumLoss := 0, cumRecovered := 0, passEnergy := 0
          passCount := 0, lastPassEnd := 0 })
    ∧ (∀ r, t.robot r =
        { activity := .unknown, place := .unknown, position := 0, leg := .out, soc := 0, meter := 0, faultCode := 0
          lastHeard := 0, context := none, placementMark := false, surfaceTaken := false, pass := none, target := none
          noEchoBar := false, recallMark := false, homingMark := false
          storm := { target := .none, enRoute := false, release := false, acknowledged := false, retry := false } })
    ∧ (∀ k, t.shuttle k =
        { state := .idle, road := none, carried := none, transfer := none, queue := [], deadline := none
          goAcknowledged := false, faultCode := 0 })
    ∧ (∀ i, t.entry i =
        { inPollList := false, errorCount := 0, doze := false, recovery := 0, noise := 0, sequence := 0
          synchronised := false, command := none, baseline := none, heldUrgent := false })
    ∧ (∀ n, t.station n =
        { state := .unused, remembered := .unused, reseed := true, lastValid := 0, saturation := 0, srf := 32768
          ts := 32768, fresh := false, pulseEnd := none })
    ∧ (∀ n, t.alert n =
        { code := 0, mask := 0, level := .none, state := .free, fault := false, deadline := 0, holdOff := 0, toSecure := 0
          secured := 0, late := 0, heldSlot := none, calm := 0, members := tfill 48 .out })
    ∧ (∀ c : CtxIx, t.context c =
        { link := if h : c.1 + 1 < 96 then some ⟨c.1 + 1, h⟩ else none, owner := none, row := 0, leg := .out
          position := 0, covered := 0, energy := 0, roundNumber := 0, cause := .none, saved := 0 })
    ∧ t.pool.head = some 0 ∧ t.pool.freeCount = 96 ∧ t.pool.failedSaves = 0 ∧ t.pool.armed = true
    ∧ t.farm =
        { totalLoss := 0, totalRecovered := 0, passEnergy := 0, transitEnergy := 0, shuttleEnergy := 0
          completePasses := 0, partialPasses := 0, closeCount := 0, lastClose := 0, closeSlot := none }
    ∧ t.round =
        { state := .idle, number := 0, blocks := 0, horizon := 0, leastLoss := 0, start := 0, windowEnd := 0
          hardEnd := 0, graceMinutes := 0, held := false, started := 0, complete := 0, partialCount := 0, assigned := 0
          candidates := [], recalls := [] }
    ∧ (t.link.urgent = [] ∧ (∀ n, tget t.link.heldBroadcast n = 0) ∧ t.link.cursor = none ∧ t.link.cycle = 0
      ∧ t.link.broadcastCount = 0 ∧ t.link.phase = .idle ∧ t.link.transmitter.shift = none)
    ∧ t.scanner = { scan := none, pendingMask := 0, orders := [], periodicDue := none }
    ∧ (∀ a, tget t.anemometers a = { pulses := 0, speeds := [], gust := 0, windowDue := none })
    ∧ t.modes.mode = .setup ∧ t.siteSecond = 0)
  ∧ ∀ (s t : State) (request page : Bool),
      (s.resetHeld = true ∧ exec .pinResetRelease s = .next t
        ∨ s.resetHeld = false ∧ exec (.softReset request page) s = .next t) →
      t = { State.reset with
            pending := s.pending, freeCount := s.freeCount, board := t.board, memory := t.memory, mirrors := t.mirrors
            rows := tabulate fun r =>
              { Row.powerOn with
                tr := (s.row r).tr, daily := (s.row r).daily, cumLoss := (s.row r).cumLoss
                cumRecovered := (s.row r).cumRecovered, passEnergy := (s.row r).passEnergy
                passCount := (s.row r).passCount, lastPassEnd := (s.row r).lastPassEnd }
            stations := tabulate fun n =>
              { Station.powerOn with
                srf := (s.station n).srf, ts := (s.station n).ts, reseed := (s.station n).reseed }
            farm := { s.farm with lastClose := 0, closeSlot := none } }

/-- R18: a host register write restarts the silence timer in RUN, where it has a limit, and does nothing else to a
part whose silent flag is clear. R19, R142: a host register write that finds the silent flag set clears it and the
held flag of the round and restarts the timer; the robots of the masked blocks are examined in ascending id where the
round is ACTIVE, and the start rule of every shuttle is evaluated. R18, R19: at the expiry of a running silence timer
the HOST SILENT notice, the silent flag and the round's held flag are set, and the timer stands still; the site second
has reached the expiry, a 32-bit count of seconds (assumption 4). (Site seconds wrap at 2^32 and are compared as they
stand, the model's choice, assumption 39.) -/
def Obligations.HostSilence : Prop :=
  (∀ s : State, (s.board.silent = false ∨ s.modes.mode ≠ .run ∨ s.params.silenceLimit = 0) →
      afterWrite s =
        { s with
          agenda := []
          board :=
            { s.board with
              silenceStart :=
                if s.modes.mode = .run ∧ s.params.silenceLimit ≠ 0 then some s.siteSecond else s.board.silenceStart } })
  ∧ (∀ s : State, s.board.silent = true → s.modes.mode = .run → s.params.silenceLimit ≠ 0 →
      afterWrite s = drain
        { s with
          board := { s.board with silenceStart := some s.siteSecond, silent := false }
          round := { s.round with held := false }
          agenda :=
            (if s.round.state = .active then
              ((List.finRange 48).filter fun r =>
                (s.robotConfig r).registered && s.round.blocks.getLsbD (s.robotConfig r).block).map Job.examine
              else [])
            ++ (List.finRange 8).map Job.startRule })
  ∧ (∀ (s : State) (start : Nat), s.resetHeld = false → s.modes.mode = .run → s.params.silenceLimit ≠ 0 →
      s.board.silenceStart = some start →
      exec .hostSilenceExpiry s = .next (commit s
        { s with
          agenda := []
          siteSecond := max s.siteSecond ((start + s.params.silenceLimit) % 4294967296)
          board := { s.board with silenceStart := none, silent := true, notice := s.board.notice ||| 4#13 }
          round := { s.round with held := true } }))

/-- R20, R202: a CONTROL write without a soft reset takes its mode request and page bits; a RUN request in SETUP
starts CHECKING; a request for the mode in force, and any write during CHECKING, changes no mode. (The refusal code,
its index and the clamped count stand while CHECKING runs, the model's choice, assumption 16; the write is acted on
after what the end of a silence gives rise to, the model's choice, assumption 30.) R34: the fleet is at rest exactly
when the round is IDLE, every registered robot is DOCKED or WITHDRAWN or its link is LOST, and every registered
shuttle that is not WITHDRAWN is IDLE or FAULT and carries no robot. R34, R77: a SETUP request in RUN, whatever the
write was made for, is refused FLEET ACTIVE with index 0 unless the fleet is at rest; at rest it waits for the end of
a frame being sent, and is taken at once where none is. (A second request while one waits adds nothing and the check
is not repeated, the model's choice, assumption 15.) -/
def Obligations.ControlWrites : Prop :=
  (∀ (s : State) (request page : Bool), s.resetHeld = false → ¬((afterWrite s).modes.mode = .run ∧ request = false) →
      let u := afterWrite s
      let t := commit s
        { u with
          board := { u.board with modeRequest := request, statusPage := page }
          modes :=
            if u.modes.mode = .setup ∧ request = true then { u.modes with mode := .checking, checkRead := [] }
            else u.modes }
      exec (.statusPageSelect request page) s = .next t
        ∧ (request = true → exec (.runRequest page) s = .next t)
        ∧ (request = false → exec (.setupRequest page) s = .next t))
  ∧ (∀ s : State, atRest s = true ↔
      s.round.state = .idle
      ∧ (∀ r, (s.robotConfig r).registered = true →
          (s.robot r).activity = .docked ∨ (s.robot r).activity = .withdrawn ∨ s.robotLinkState r = .lost)
      ∧ ∀ k, (s.shuttleConfig k).registered = true → (s.shuttle k).state ≠ .withdrawn →
          ((s.shuttle k).state = .idle ∨ (s.shuttle k).state = .fault) ∧ (s.shuttle k).carried = none)
  ∧ ∀ (s : State) (page : Bool), s.resetHeld = false → (afterWrite s).modes.mode = .run →
      let u := { afterWrite s with board := { (afterWrite s).board with modeRequest := false, statusPage := page } }
      ∀ c ∈ [Instr.setupRequest page, .statusPageSelect false page],
        (u.modes.setupWaiting = true → exec c s = .next (commit s u))
        ∧ (u.modes.setupWaiting = false → atRest u = false →
            exec c s = .next (commit s { u with modes := { u.modes with refusal := .fleetActive, refusalIndex := 0 } }))
        ∧ (u.modes.setupWaiting = false → atRest u = true → radioKey u = true →
            exec c s = .next (commit s { u with modes := { u.modes with setupWaiting := true } }))
        ∧ (u.modes.setupWaiting = false → atRest u = true → radioKey u = false →
            exec c s = .next (commit s (leaveRun u)))

/-- R7: a POST write posts each FREE slot whose bit is 1, in ascending slot order at the tail of the intake queue; it
refuses the 1 bits of other slots, which keep their state, and sets POST COLLISION once for them; a 0 bit has no
effect. R13: an ANSWERED write makes each ANSWERED slot whose bit is 1 FREE; every other bit is ignored, and memory is
left as it was. POST reads the HELD slots and ANSWERED the answered ones. (Both act on the slots as the end of a
silence leaves them, the model's choice, assumption 30.) -/
def Obligations.SlotWrites : Prop :=
  (∀ (s : State) (mask : Word), s.resetHeld = false →
      let u := afterWrite s
      let posted := (List.finRange 16).filter fun n => mask.getLsbD n.1 && decide ((u.slot n).state = .free)
      let refused := (List.finRange 16).any fun n => mask.getLsbD n.1 && decide ((u.slot n).state ≠ .free)
      exec (.post mask) s = .next (commit s
        { u with
          board :=
            { u.board with
              slots := tabulate fun n => if n ∈ posted then { u.slot n with state := .held } else u.slot n
              intake := u.board.intake ++ posted
              notice := if refused then u.board.notice ||| 2#13 else u.board.notice } }))
  ∧ (∀ (s : State) (mask : Word), s.resetHeld = false →
      let u := afterWrite s
      exec (.answeredCollect mask) s = .next (commit s
        { u with
          board :=
            { u.board with
              slots := tabulate fun n =>
                if mask.getLsbD n.1 = true ∧ (u.slot n).state = .answered then { u.slot n with state := .free }
                else u.slot n } }))
  ∧ (∀ (s : State) (n : SlotIx),
      (readPost s).getLsbD n.1 = decide ((s.slot n).state = .held)
      ∧ (readAnswered s).getLsbD n.1 = decide ((s.slot n).state = .answered))

/-- R14: an ABORT write acts on the named slots (in ascending order, with what the jobs tell one another after the
last bit, the model's choice, assumption 50, and after what the end of a silence gives rise to, assumption 30): a FREE
or ANSWERED slot is left alone, a slot in the intake queue is answered ABORTED with detail 0 (with the tag that its
word 1 then holds, assumption 19), a taken slot with its request pending is left alone, and a taken slot without one
has it recorded. R88, R107, R189, R141: what the owning jobs do with an abort request just recorded. A SCAN STATIONS
is answered ABORTED and its scan runs on; a DAY CLOSE that waits on a scan is answered ABORTED; the record of a PARK
order parks on without it; a RECALL keeps its request pending. (The request of a DAY CLOSE whose scan has completed
stays pending, the model's choice, assumption 17.) R164: a MOVE ROBOT in a queue leaves it, its reservation released,
and is answered ABORTED with detail 0; in FETCH the shuttle is sent HALT and becomes IDLE, or TO SHELTER where a row
of its block is sheltered, and the order is answered ABORTED; in BOARD the robot is sent GOTO DOCK and the order
waits, and where an abort is under way there already that one stands with its detail (the model's reading, assumption
43); in CARRY and ALIGHT the request stays pending. -/
def Obligations.AbortWrites : Prop :=
  (∀ (s : State) (mask : Word), s.resetHeld = false →
      exec (.abort mask) s = .next (drain (commit s
        (((List.finRange 16).filter fun n => mask.getLsbD n.1).foldl (fun u n => abortSlot n u) (afterWrite s))))
      ∧ ∀ (n : SlotIx) (u : State),
        ((u.slot n).state ≠ .held → abortSlot n u = u)
        ∧ ((u.slot n).state = .held → n ∈ u.board.intake →
            abortSlot n u = answer n .aborted 0 []
              { u with board := { u.board with
                  slots := tset u.board.slots n { u.slot n with tag := u.mem (slotBase n + 1) } } })
        ∧ ((u.slot n).state = .held → n ∉ u.board.intake → (u.slot n).abortRequested = true → abortSlot n u = u)
        ∧ ((u.slot n).state = .held → n ∉ u.board.intake → (u.slot n).abortRequested = false →
            abortSlot n u = actOnAbort n
              { u with board := { u.board with
                  slots := tset u.board.slots n { u.slot n with abortRequested := true } } }))
  ∧ (∀ (n : SlotIx) (u : State),
      ((∃ o ∈ u.scanner.orders, o.slot = n) →
        actOnAbort n u = answer n .aborted 0 []
          { u with scanner := { u.scanner with orders := u.scanner.orders.filter fun o => decide (o.slot ≠ n) } })
      ∧ ((∀ o ∈ u.scanner.orders, o.slot ≠ n) → u.farm.closeSlot = some n →
          (∀ sc, u.scanner.scan = some sc → sc.telling = false) →
          actOnAbort n u = answer n .aborted 0 [] { u with farm := { u.farm with closeSlot := none } })
      ∧ (∀ sc, (∀ o ∈ u.scanner.orders, o.slot ≠ n) → u.farm.closeSlot = some n → u.scanner.scan = some sc →
          sc.telling = true → actOnAbort n u = u)
      ∧ ((∀ o ∈ u.scanner.orders, o.slot ≠ n) → u.farm.closeSlot ≠ some n →
          ∀ a : AlertIx, (u.alert a).heldSlot = some n → (∀ b : AlertIx, b < a → (u.alert b).heldSlot ≠ some n) →
            actOnAbort n u = answer n .aborted 0 []
              { u with alerts := tset u.alerts a { u.alert a with heldSlot := none } })
      ∧ ((∀ o ∈ u.scanner.orders, o.slot ≠ n) → u.farm.closeSlot ≠ some n → (∀ a, (u.alert a).heldSlot ≠ some n) →
          (∀ k, (∀ q ∈ (u.shuttle k).queue, q.origin ≠ some n)
            ∧ ∀ x, (u.shuttle k).inService = some x → x.origin ≠ some n) → actOnAbort n u = u))
  ∧ (∀ (n : SlotIx) (u : State), Memory.wf u.memory = true → (∀ o ∈ u.scanner.orders, o.slot ≠ n) →
      u.farm.closeSlot ≠ some n → (∀ a, (u.alert a).heldSlot ≠ some n) →
      let t := actOnAbort n u
      (∀ (k : ShuttleIx) (q : Request), (∀ j, j < k → ∀ y ∈ (u.shuttle j).queue, y.origin ≠ some n) →
        (u.shuttle k).queue.filter (fun y => decide (y.origin = some n)) = [q] → q.cls = .host →
        let x := u.row q.destination
        let v := answer n .aborted 0 [] (markRewrite (.shuttle k)
          { u with
            shuttles := tset u.shuttles k
              { u.shuttle k with queue := (u.shuttle k).queue.filter fun y => decide (y.origin ≠ some n) }
            rows := tset u.rows q.destination
              { x with reserved := if x.reserved = some q.robot then none else x.reserved } })
        t = { v with agenda := u.agenda
          ++ (if (u.shuttle k).queue.length = 8 then [.examineBlock (u.shuttleConfig k).block] else [])
          ++ [.startRule k] })
      ∧ ∀ (k : ShuttleIx) (x : Transfer), (∀ j, ∀ y ∈ (u.shuttle j).queue, y.origin ≠ some n) →
        (u.shuttle k).inService = some x → x.origin = some n →
        (∀ j, j ≠ k → ∀ y, (u.shuttle j).inService = some y → y.origin ≠ some n) →
        (x.stage = .fetch →
          AnsweredWith t n 3 0 ∧ (t.shuttle k).transfer = none ∧ (t.row x.destination).reserved ≠ some x.robot
          ∧ (t.shuttle k).queue = (u.shuttle k).queue
          ∧ (blockSheltered u (u.shuttleConfig k).block = false →
              (t.shuttle k).state = .idle ∧ (t.shuttle k).deadline = none ∧ Commanded t (shuttleLink k) .halt .arbiter
              ∧ ∃ told, t.agenda = told ++ [.startRule k])
          ∧ (blockSheltered u (u.shuttleConfig k).block = true →
              (t.shuttle k).state = .toShelter
              ∧ Commanded t (shuttleLink k) (.shuttleGo (u.shuttleConfig k).shelter .shelter) .arbiter))
        ∧ (x.stage = .board → x.aborting = none →
          (t.shuttle k).transfer = some { x with aborting := some 0 } ∧ t.slot n = u.slot n ∧ t.memory = u.memory
          ∧ Commanded t (robotLink x.robot) .gotoDock .arbiter)
        ∧ (x.stage = .board → x.aborting ≠ none → t = u)
        ∧ (x.stage = .carry ∨ x.stage = .alight → t = u))

/-- R16, R17, R201: a NOTICE write clears the bits written 1 and drops bits 13 to 15; a NOTICE ENABLE write stores
bits 0 to 12; a write to ID or STATUS stores nothing. (The register acts after the end of a silence, the model's
choice, assumption 30.) -/
def Obligations.NoticeWrites : Prop :=
  ∀ (s : State) (v : Word), s.resetHeld = false →
    let u := afterWrite s
    (∃ t, exec (.noticeClear v) s = .next t
      ∧ t = commit s { u with board := { u.board with notice := t.board.notice } }
      ∧ ∀ i, t.board.notice.getLsbD i = (u.board.notice.getLsbD i && !v.getLsbD i))
    ∧ (∃ t, exec (.noticeEnableWrite v) s = .next t
      ∧ t = commit s { u with board := { u.board with enable := t.board.enable } }
      ∧ ∀ i, t.board.enable.getLsbD i = (decide (i < 13) && v.getLsbD i))
    ∧ exec (.registerWriteOther .id v) s = .next (commit s u)
    ∧ exec (.registerWriteOther .status v) s = .next (commit s u)

/-- R17: the interrupt output is asserted while, and only while, at least one bit is set in both NOTICE and NOTICE
ENABLE; NOTICE ENABLE reads as the host last wrote it, and no command changes it but that write and a reset. R50: a
block clear output is high exactly in RUN, out of reset, with every registered robot placed in the block, or aboard
its shuttle, that is not WITHDRAWN at DOCKED or CLAMPED on a link that is not LOST, and the block's shuttle carrying
no robot. R53: the key is raised exactly while a key lead runs or a frame is sent. R94: a wiper output is high exactly
while a pulse runs. R51, R53: TXD carries the character in the shift register as a start bit 0, eight data bits low
first, the marker and a stop bit 1, and stands at 1 with none there and in reset. R208: D0 to D15 are driven only
during a host read. -/
def Obligations.OutputsFollow : Prop :=
  (∀ s : State, interruptAsserted s = true ↔ ∃ i, s.board.notice.getLsbD i = true ∧ s.board.enable.getLsbD i = true)
  ∧ (∀ (s t : State) (v : Word), s.resetHeld = false → exec (.noticeEnableWrite v) s = .next t →
      ∀ i, (readRegister t .noticeEnable).getLsbD i = (decide (i < 13) && v.getLsbD i))
  ∧ (∀ (c : Instr) (s t : State), exec c s = .next t → ¬c.mayReset → ¬c.writes .noticeEnable →
      t.board.enable = s.board.enable)
  ∧ (∀ (s : State) (b : Nat), blockClear s b = true ↔
      s.modes.mode = .run ∧ s.resetHeld = false
      ∧ (∀ r, (s.robotConfig r).registered = true → (s.robot r).activity ≠ .withdrawn →
          ((∃ row, (s.robot r).place = .row row ∧ (s.site row).block = b)
            ∨ ∃ k, (s.robot r).place = .shuttle k ∧ (s.shuttleConfig k).block = b) →
          ((s.robot r).activity = .docked ∨ (s.robot r).activity = .clamped) ∧ s.robotLinkState r ≠ .lost)
      ∧ ∀ k, (s.shuttleConfig k).registered = true → (s.shuttleConfig k).block = b →
          (∀ j, j < k → (s.shuttleConfig j).registered = true → (s.shuttleConfig j).block ≠ b) →
          (s.shuttle k).carried = none)
  ∧ (∀ s : State, (radioKey s = true ↔ ∃ t, s.link.phase = .keyLead t ∨ s.link.phase = .sending t)
      ∧ ∀ n, wiperOutput s n = true ↔ (s.station n).pulseEnd ≠ none)
  ∧ (∀ s : State, (s.resetHeld = true ∨ s.link.transmitter.shift = none → ∀ bit, txd s bit = true)
      ∧ (s.resetHeld = false → ∀ c, s.link.transmitter.shift = some c →
          txd s 0 = false ∧ (∀ i, i < 8 → txd s (i + 1) = c.value.getLsbD i) ∧ txd s 9 = c.marker ∧ txd s 10 = true))
  ∧ ∀ (s : State) (a : Nat), dataBus s none = none ∧ dataBus s (some a) = some (hostRead s a)

/-- R201: a write of a word to a register address does what the command of that register does, whatever name the
command goes by. R14, R201, R202: ABORT reads the pending requests; ID, NOTICE, NOTICE ENABLE and CONTROL read their
fields, 0 in every bit not in use. R21, R202: STATUS reads the page in force: mode, storm summary, round state, silent
flag and refusal code on page 0, refusal index and clamped count on page 1. R2: a host write of a memory word is
stored, whoever its writer is and in every mode and in reset as well; no other word changes, and no master and no
register (where it meets a CHECKING or a rewrite in progress, the model's own race fields move, assumptions 9 and 10).
-/
def Obligations.RegisterAccess : Prop :=
  (∀ (s : State) (v : Word),
      exec (.hostMemoryWrite 0x7FF8 v) s = exec (.registerWriteOther .id v) s
      ∧ exec (.hostMemoryWrite 0x7FF9 v) s
          = (if v.getLsbD 1 then exec (.softReset (v.getLsbD 0) (v.getLsbD 2)) s
             else exec (.statusPageSelect (v.getLsbD 0) (v.getLsbD 2)) s)
      ∧ exec (.hostMemoryWrite 0x7FFA v) s = exec (.registerWriteOther .status v) s
      ∧ exec (.hostMemoryWrite 0x7FFB v) s = exec (.noticeClear v) s
      ∧ exec (.hostMemoryWrite 0x7FFC v) s = exec (.noticeEnableWrite v) s
      ∧ exec (.hostMemoryWrite 0x7FFD v) s = exec (.post v) s
      ∧ exec (.hostMemoryWrite 0x7FFE v) s = exec (.abort v) s
      ∧ exec (.hostMemoryWrite 0x7FFF v) s = exec (.answeredCollect v) s
      ∧ ∀ a, 0x8000 ≤ a → exec (.hostMemoryWrite a v) s = .fault .noSuchAddress)
  ∧ (∀ (s : State) (n : SlotIx),
      (readAbort s).getLsbD n.1 = (s.slot n).abortRequested
      ∧ (readId s).toNat = 0x148 + 4096 * s.board.resetCause.code
      ∧ (readControl s).toNat = bitOf s.board.modeRequest + 4 * bitOf s.board.statusPage
      ∧ (hostRead s 0x7FFB).toNat = s.board.notice.toNat ∧ (hostRead s 0x7FFC).toNat = s.board.enable.toNat)
  ∧ (∀ s : State,
      (statusPage0 s).toNat = s.modes.mode.code + 4 * (stormSummary s).code + 32 * s.round.state.code
        + 128 * bitOf s.board.silent + 256 * s.modes.refusal.code
      ∧ (s.modes.refusalIndex < 256 → s.modes.clamped < 256 →
          (statusPage1 s).toNat = s.modes.refusalIndex + 256 * s.modes.clamped)
      ∧ hostRead s 0x7FFA = (if s.board.statusPage then statusPage1 s else statusPage0 s))
  ∧ (∀ (s : State) (a : Nat) (v : Word), a < 0x7FF8 → Memory.wf s.memory = true →
      ∃ t, exec (.hostMemoryWrite a v) s = .next t
        ∧ (∀ x, t.mem x = if x = a then v else s.mem x)
        ∧ t = { s with memory := t.memory, freeCount := t.freeCount, mirrors := t.mirrors,
                       modes := { s.modes with checkRead := t.modes.checkRead } }
        ∧ ∀ m, (mirrorOf t m).count = (mirrorOf s m).count ∧ (mirrorOf t m).pending = (mirrorOf s m).pending)

/-! ### Answers and mirrors (chapter 1) -/

/-- R11: an answer writes word 16 with the class, word 17 with the detail, word 18 with the tag kept from taking and
words 19 to 31 with the results, 0 where the order gives none; the slot becomes ANSWERED and leaves the intake queue,
its abort request is cleared, the ANSWER notice is set; nothing else changes. -/
def Obligations.AnswerWritten : Prop :=
  ∀ (n : SlotIx) (cls : AnswerClass) (detail : Nat) (results : List Word) (s : State), Memory.wf s.memory = true →
    let t := answer n cls detail results s
    t = { s with
          memory := t.memory
          board :=
            { s.board with
              slots := tset s.board.slots n { s.slot n with state := .answered, abortRequested := false }
              intake := s.board.intake.filter fun m => decide (m ≠ n)
              notice := s.board.notice ||| 1#13 } }
      ∧ t.mem (slotBase n + 16) = word cls.code ∧ t.mem (slotBase n + 17) = word detail
      ∧ t.mem (slotBase n + 18) = (s.slot n).tag
      ∧ (∀ i, i < 13 → t.mem (slotBase n + 19 + i) = results.getD i 0)
      ∧ ∀ a, (a < slotBase n + 16 ∨ slotBase n + 32 ≤ a) → t.mem a = s.mem a

/-- R206: where each mirror's record lies and what its words show of the master: the change count's address, and the
other words in order behind it, each with its address. R203: the values that the codes take in them. R200: a signed
quantity is written in two's complement. (That the bits of a held slot and of an origin slot are 0 where there is none
is the model's choice, assumption 67.) -/
def Obligations.MirrorLayouts : Prop :=
  (∀ (s : State) (r : RowId), let x := s.row r; let a := 0x0EA0 + 16 * r.1
      countAddress (.row r) = a ∧ mirrorImage s (.row r) =
        [(a + 1, word x.tr),
         (a + 2, word (bitOf x.enabled + 2 * bitOf (isCandidate s r) + 4 * bitOf x.sheltered + 8 * bitOf x.watch
            + 16 * bitOf x.contested + 32 * bitOf (isForced s r))),
         (a + 3, word (byteOrNone x.occupant + 256 * byteOrNone x.reserved)), (a + 4, word x.daily),
         (a + 5, lowWord (signed32 x.lastScore)), (a + 6, highWord (signed32 x.lastScore)),
         (a + 7, lowWord x.cumLoss), (a + 8, highWord x.cumLoss),
         (a + 9, lowWord x.cumRecovered), (a + 10, highWord x.cumRecovered),
         (a + 11, lowWord x.passEnergy), (a + 12, highWord x.passEnergy), (a + 13, word x.passCount),
         (a + 14, lowWord x.lastPassEnd), (a + 15, highWord x.lastPassEnd)])
  ∧ (∀ (s : State) (r : RobotId), let b := s.robot r; let e := s.entry (robotLink r); let a := 0x03A0 + 16 * r.1
      countAddress (.robot r) = a ∧ mirrorImage s (.robot r) =
        [(a + 1, word (b.activity.code + 256 * (linkStateOf e.errorCount).code + 1024 * bitOf e.doze + 2048 * b.leg.code)),
         (a + 2, word e.errorCount),
         (a + 3, word (match b.place with
            | .unknown => 0
            | .row x => x.1 + 256
            | .shuttle k => k.1 + 512)),
         (a + 4, word b.position), (a + 5, word (b.soc + 256 * b.faultCode)), (a + 6, lowWord b.meter),
         (a + 7, word (b.meter / 65536 % 256 + 256 * e.noise)),
         (a + 8, word ((match b.pass with | some p => p.row.1 + 256 | none => 0)
            + 512 * (match b.context with | some c => c.1 | none => 127))),
         (a + 9, lowWord b.lastHeard), (a + 10, highWord b.lastHeard)])
  ∧ (∀ (s : State) (k : ShuttleIx), let x := s.shuttle k; let e := s.entry (shuttleLink k); let a := 0x0320 + 16 * k.1
      countAddress (.shuttle k) = a ∧ mirrorImage s (.shuttle k) =
        [(a + 1, word x.state.code), (a + 2, word ((linkStateOf e.errorCount).code + 256 * e.noise)),
         (a + 3, word e.errorCount), (a + 4, word (x.road.getD 0xFFFF)),
         (a + 5, word (byteOrNone x.carried + 256 * x.queue.length)), (a + 6, word x.faultCode),
         (a + 7, match x.transfer with | some t => word (t.robot.1 + 256 * t.source.1) | none => 0xFF),
         (a + 8, match x.transfer with
            | some t => word (t.destination.1 + 256 * t.cls.code + 512 * bitOf t.stranded + 4096 * t.stage.code)
            | none => 0),
         (a + 9, match x.transfer with
            | some t => word (match t.origin with | some n => n.1 + 16 | none => 0)
            | none => 0),
         (a + 10, lowWord (x.deadline.getD 0)), (a + 11, highWord (x.deadline.getD 0))])
  ∧ (∀ (s : State) (n : StationIx), let x := s.station n; let a := 0x02A0 + 8 * n.1
      countAddress (.station n) = a + 3 ∧ mirrorImage s (.station n) =
        [(a + 4, word (x.state.code + 8 * bitOf x.reseed + 16 * bitOf x.fresh + 256 * x.saturation)),
         (a + 5, word x.srf), (a + 6, word x.ts), (a + 7, word x.lastValid)])
  ∧ (∀ (s : State) (n : AlertIx), let x := s.alert n; let a := 0x0260 + 8 * n.1
      countAddress (.alert n) = a ∧ mirrorImage s (.alert n) =
        [(a + 1, word (x.code.toNat + 256 * x.mask.toNat)),
         (a + 2, word (x.state.code + 8 * x.late
            + (match x.heldSlot with | some slot => 512 * slot.1 + 8192 | none => 0))),
         (a + 3, word (x.toSecure + 64 * x.secured + 4096 * bitOf x.fault + 8192 * x.level.code)),
         (a + 4, lowWord x.deadline), (a + 5, highWord x.deadline), (a + 6, lowWord x.holdOff),
         (a + 7, highWord x.holdOff)])
  ∧ (∀ (s : State) (c : CtxIx), let x := s.context c; let a := 0x1EA0 + 16 * c.1
      countAddress (.context c) = a ∧ mirrorImage s (.context c) =
        [(a + 1, word (match x.link with | some d => d.1 | none => 0xFFFF)),
         (a + 2, word (match x.owner with | some r => r.1 | none => 0xFFFF)), (a + 3, word x.row),
         (a + 4, word (x.leg.code + 256 * x.cause.code)), (a + 5, word x.position), (a + 6, word x.covered),
         (a + 7, lowWord x.energy), (a + 8, highWord x.energy), (a + 9, word x.roundNumber),
         (a + 10, lowWord x.saved), (a + 11, highWord x.saved), (a + 12, 0), (a + 13, 0), (a + 14, 0), (a + 15, 0)])
  ∧ (∀ s : State, let f := s.farm; let x := s.round; let a := 0x0240
      countAddress .farm = a ∧ mirrorImage s .farm =
        [(a + 1, lowWord f.totalLoss), (a + 2, highWord f.totalLoss), (a + 3, lowWord f.totalRecovered),
         (a + 4, highWord f.totalRecovered), (a + 5, lowWord f.passEnergy), (a + 6, highWord f.passEnergy),
         (a + 7, lowWord f.transitEnergy), (a + 8, highWord f.transitEnergy), (a + 9, lowWord f.shuttleEnergy),
         (a + 10, highWord f.shuttleEnergy), (a + 11, lowWord f.completePasses), (a + 12, highWord f.completePasses),
         (a + 13, lowWord f.partialPasses), (a + 14, highWord f.partialPasses), (a + 15, word f.closeCount),
         (a + 16, lowWord f.lastClose), (a + 17, highWord f.lastClose),
         (a + 18, word (x.state.code + 4 * bitOf x.held + 256 * x.blocks.toNat)),
         (a + 19, word (x.horizon + 256 * x.graceMinutes)), (a + 20, word x.number), (a + 21, word x.leastLoss),
         (a + 22, lowWord x.start), (a + 23, highWord x.start), (a + 24, lowWord x.windowEnd),
         (a + 25, highWord x.windowEnd), (a + 26, word x.started), (a + 27, word x.complete),
         (a + 28, word x.partialCount), (a + 29, word (x.candidates.length + 512 * s.pool.freeCount)),
         (a + 30, word ((match s.pool.head with | some c => c.1 | none => 127) + 128 * x.assigned)),
         (a + 31, word s.pool.failedSaves)]
        ++ (List.range 256).map fun i =>
            (0x24A0 + i, match x.candidates[i]? with | some p => word p.1.1 | none => 0xFFFF))
  ∧ (∀ n : Nat, lowWord n = word (n % 65536) ∧ (n < 4294967296 → highWord n = word (n / 65536))
      ∧ ∀ i : RobotId, byteOrNone (some i) = i.1 ∧ byteOrNone (none : Option RobotId) = 0xFF)
  ∧ (∀ z : Int, -2147483648 ≤ z → z < 2147483648 →
      signed32 z = if 0 ≤ z then z.toNat else (z + 4294967296).toNat)
  ∧ (∀ (s : State) (r : RowId), (isCandidate s r = true ↔ ∃ p ∈ s.round.candidates, p.1 = r)
      ∧ (isForced s r = true ↔ (r, true) ∈ s.round.candidates))
  ∧ bitOf true = 1 ∧ bitOf false = 0
  ∧ [Activity.unknown, .docked, .cleaning, .returning, .clamped, .boarding, .aboard, .alighting, .halted, .fault,
      .withdrawn].map Activity.code = List.range 11
  ∧ [ShuttleState.idle, .fetch, .board, .carry, .alight, .toShelter, .sheltered, .fault, .withdrawn].map
      ShuttleState.code = List.range 9
  ∧ [StationState.unused, .ok, .dark, .fault, .wiping].map StationState.code = List.range 5
  ∧ [AlertState.free, .watch, .parking, .parked, .releasing].map AlertState.code = List.range 5
  ∧ [LinkState.linked, .weak, .mute, .lost].map LinkState.code = List.range 4
  ∧ [RoundState.idle, .active, .winding, .recalling].map RoundState.code = List.range 4
  ∧ [ContextCause.none, .storm, .lowBattery, .hardEnd, .halted, .fault, .linkLost].map ContextCause.code = List.range 7
  ∧ [Stage.fetch, .board, .carry, .alight].map Stage.code = [1, 2, 3, 4]
  ∧ [Leg.out, .back].map Leg.code = List.range 2
  ∧ [TransferClass.host, .round].map TransferClass.code = List.range 2
  ∧ [AlertLevel.none, .watch, .park].map AlertLevel.code = List.range 3

/-- R4: the marks that a step of the part's work sets: a mirror is marked where it was marked before or where its
master has changed, which is where a word of its record other than the change count differs, or what the record does
not show of it, the second of a station's last valid sample (R206) and a count of rows assigned past its field
(assumption 46). A change undone within one step, or a write of the same value, marks nothing unless a rule marks the
mirror by name, the model's choice (assumption 11). R1, R3, R206: the words that a rewrite of a record writes lie at
distinct addresses, none of them the record's change count, and none of them a host-written word. R3, R4: where a
mirror's mark is set and no rewrite of it is in progress, a rewrite begins: the mark is cleared, the change count goes
up by 1 and is written, and the words to be written are the master's as it stands. R3: the rewrite in progress ends:
the words it holds are written, the change count goes up by 1 and is written, and no other word changes. (That no word
but the count changes at the start and that all are written at the end is the model's choice, assumption 10.) Where
the words' addresses are distinct, as a record's are, each reads back. -/
def Obligations.MirrorRewrites : Prop :=
  (∀ (s t : State) (m : MirrorId),
      (mirrorOf (commit s t) m).count = (mirrorOf t m).count ∧ (mirrorOf (commit s t) m).rewrite = (mirrorOf t m).rewrite
        ∧ ((mirrorOf (commit s t) m).pending = true ↔
            (mirrorOf t m).pending = true ∨ mirrorImage s m ≠ mirrorImage t m
            ∨ (∃ n, m = .station n ∧ (s.station n).lastValid ≠ (t.station n).lastValid)
            ∨ m = .farm ∧ s.round.assigned ≠ t.round.assigned)
        ∧ commit s t = { t with mirrors := (commit s t).mirrors })
  ∧ (∀ (s : State) (m : MirrorId),
      ((mirrorImage s m).map Prod.fst).Nodup
      ∧ ∀ p ∈ mirrorImage s m, p.1 ≠ countAddress m ∧ hostWritten p.1 = false ∧ hostWritten (countAddress m) = false)
  ∧ (∀ (s : State) (m : MirrorId), s.resetHeld = false → (mirrorOf s m).pending = true → (mirrorOf s m).rewrite = none →
      Memory.wf s.memory = true →
      let count := ((mirrorOf s m).count + 1) % 65536
      ∃ t, exec (.mirrorRewriteStart m) s = .next t
        ∧ t = { s with agenda := [], memory := t.memory, mirrors := t.mirrors }
        ∧ mirrorOf t m = { count := count, pending := false, rewrite := some (mirrorImage s m) }
        ∧ (∀ m', m' ≠ m → mirrorOf t m' = mirrorOf s m')
        ∧ ∀ a, t.mem a = if a = countAddress m then word count else s.mem a)
  ∧ (∀ (s : State) (m : MirrorId) (words : List (Nat × Word)), s.resetHeld = false →
      (mirrorOf s m).rewrite = some words → Memory.wf s.memory = true →
      (words.map Prod.fst).Nodup → (∀ p ∈ words, p.1 ≠ countAddress m) →
      let count := ((mirrorOf s m).count + 1) % 65536
      ∃ t, exec (.mirrorRewriteEnd m) s = .next t
        ∧ t = { s with agenda := [], memory := t.memory, mirrors := t.mirrors }
        ∧ mirrorOf t m = { count := count, pending := (mirrorOf s m).pending, rewrite := none }
        ∧ (∀ m', m' ≠ m → mirrorOf t m' = mirrorOf s m')
        ∧ t.mem (countAddress m) = word count ∧ (∀ p ∈ words, t.mem p.1 = p.2)
        ∧ ∀ a, a ≠ countAddress m → (∀ p ∈ words, p.1 ≠ a) → t.mem a = s.mem a)

/-! ### Modes (chapter 2) -/

/-- R77: at the last stop bit of the frame being sent, a taken SETUP request that waited for it is carried out. R35,
R15, R77, R144, R167, R199: the part leaves RUN: every long order that a job holds is answered ABORTED with detail 2,
reservations of removed requests are released, every job stops (passes end without effect, targets and storm marks
go), PARKING records become PARKED with their unsecured members late, and the rest of the masters stand. R199, R185:
no PARK LATE is set; the only notices are ANSWER, where a long order is answered, and STORM, where the summary has
changed with those records. R15, R34: the long orders that leaving RUN answers are those a job holds: a SCAN STATIONS,
a DAY CLOSE, a RECALL, a PARK, and a MOVE ROBOT queued or in service. (The request is not checked again at the frame's
end, so work may be under way; the effects for a fleet at rest are applied to it, and an open round's state and list
stand until RUN entry, and a shuttle keeps whatever state it is in: the model's choices, assumptions 15, 29, 55 and
61.) -/
def Obligations.SetupLeavesRun : Prop :=
  ((∀ s : State, s.resetHeld = false → s.modes.mode = .run → s.modes.setupWaiting = true →
      (∃ x, s.link.phase = .sending x) →
      exec .setupAtFrameEnd s = .next (commit s (leaveRun { s with agenda := [] })))
    ∧ ∀ u : State, Memory.wf u.memory = true →
      let t := leaveRun u
      t = { u with
            board := { u.board with
              slots := t.board.slots, notice := t.board.notice, silent := false, silenceStart := none
              intake := u.board.intake.filter fun n => decide (n ∉ heldLongOrders u) }
            memory := t.memory
            modes := { u.modes with mode := .setup, refusal := .none, refusalIndex := 0, setupWaiting := false }
            rows := t.rows
            robots := tabulate fun r =>
              { u.robot r with
                pass := none, target := none, noEchoBar := false, recallMark := false, homingMark := false
                storm := { target := .none, enRoute := false, release := false, acknowledged := false, retry := false } }
            shuttles := tabulate fun k =>
              { u.shuttle k with transfer := none, queue := [], deadline := none, goAcknowledged := false }
            alerts := tabulate fun n =>
              let a := u.alert n
              { a with
                state := if a.state = .parking then .parked else a.state
                late := if a.state = .parking
                  then ((List.finRange 48).filter fun r => decide (a.member r = .unsecured)).length else a.late
                heldSlot := none, members := tfill 48 .out }
            anemometers := tabulate fun a => { tget u.anemometers a with windowDue := none }
            link := { u.link with
              phase := .idle, transmitter := { shift := none, holding := none, rest := [] }
              urgent := [], heldBroadcast := tfill 8 0
              entries := tabulate fun i => { u.entry i with command := none, heldUrgent := false } }
            scanner := Scanner.afterReset, farm := { u.farm with closeSlot := none }
            round := { u.round with held := false, recalls := [] } }
        ∧ (∀ n, n ∈ heldLongOrders u →
            (t.slot n).state = .answered ∧ (t.slot n).abortRequested = false
            ∧ t.mem (slotBase n + 16) = 3 ∧ t.mem (slotBase n + 17) = 2 ∧ t.mem (slotBase n + 18) = (u.slot n).tag)
        ∧ (∀ n, n ∉ heldLongOrders u → t.slot n = u.slot n)
        ∧ t.board.notice = u.board.notice ||| (if heldLongOrders u = [] then 0#13 else 1#13)
            ||| (if stormSummary t = stormSummary u then 0#13 else 16#13)
        ∧ (∀ a, (∀ n ∈ heldLongOrders u, a < slotBase n + 16 ∨ slotBase n + 32 ≤ a) → t.mem a = u.mem a)
        ∧ ∀ r, t.row r = { u.row r with reserved := (t.row r).reserved }
            ∧ (t.row r).reserved =
                if ∃ k, (∃ q ∈ (u.shuttle k).queue, q.destination = r ∧ (u.row r).reserved = some q.robot)
                  ∨ ∃ x, (u.shuttle k).transfer = some x ∧ x.destination = r ∧ (u.row r).reserved = some x.robot
                then none else (u.row r).reserved)
  ∧ (∀ (s : State) (n : SlotIx), n ∈ heldLongOrders s ↔
      (∃ o ∈ s.scanner.orders, o.slot = n) ∨ s.farm.closeSlot = some n ∨ n ∈ s.round.recalls
      ∨ (∃ a, (s.alert a).heldSlot = some n)
      ∨ ∃ k, (∃ q ∈ (s.shuttle k).queue, q.origin = some n)
          ∨ ∃ x, (s.shuttle k).transfer = some x ∧ x.stranded = false ∧ x.origin = some n)

/-- R31 to R33: at the end of CHECKING the clamped count is set; a failed check puts the mode back to SETUP with its
refusal code and index, and otherwise RUN is entered with the plant read. R24 to R27, R32: RUN entry passes exactly
where every present row, used station, registered robot and registered shuttle meets its checks; where one fails, the
failure reported is of the first record that fails, rows first, then stations, robots and shuttles, each in ascending
number. R32, R203: the checks of one record in their order, each with its refusal code and the record's number as
index. -/
def Obligations.RunEntryChecks : Prop :=
  (∀ s : State, s.resetHeld = false → s.modes.mode = .checking →
      let read := readPlant s
      let u := { s with agenda := [], modes := { s.modes with clamped := read.2 } }
      (∀ f, firstFailure u read.1 = some f →
        exec .runEntryChecks s = .next (commit s
          { u with modes := { u.modes with mode := .setup, refusal := f.1, refusalIndex := f.2, checkRead := [] } }))
      ∧ (firstFailure u read.1 = none → exec .runEntryChecks s = .next (drain (commit s (enterRun read.1 u))))
      ∧ read.2 ≤ 255)
  ∧ (∀ (s : State) (p : Plant),
      (firstFailure s p = none ↔
        (∀ r, (tget p.site r).present = true →
          10 ≤ (tget p.site r).length ∧ (tget p.site r).length ≤ 1023 ∧ (tget p.site r).block ≤ 7
          ∧ (checkedNat s (siteRowAddress r + 4) = 0xFFFF
            ∨ ∃ n : StationIx, checkedNat s (siteRowAddress r + 4) = n.1 ∧ (tget p.stations n).used = true))
        ∧ (∀ n, (tget p.stations n).used = true →
          (tget p.stations n).clean ≤ 31 ∧ (tget p.stations n).soiled ≤ 31
          ∧ (tget p.stations n).clean ≠ (tget p.stations n).soiled
          ∧ ∀ m, m < n → (tget p.stations m).used = true →
            (tget p.stations m).clean ≠ (tget p.stations n).clean ∧ (tget p.stations m).clean ≠ (tget p.stations n).soiled
            ∧ (tget p.stations m).soiled ≠ (tget p.stations n).clean
            ∧ (tget p.stations m).soiled ≠ (tget p.stations n).soiled)
        ∧ (∀ r, (tget p.robots r).registered = true →
          (∃ row : RowId, (tget p.robots r).home = row.1 ∧ (tget p.site row).present = true
            ∧ (tget p.site row).block = (tget p.robots r).block)
          ∧ ∀ q, q < r → (tget p.robots q).registered = true → (tget p.robots q).home ≠ (tget p.robots r).home)
        ∧ ∀ k, (tget p.shuttles k).registered = true →
          (tget p.shuttles k).block ≤ 7
          ∧ ∀ j, j < k → (tget p.shuttles j).registered = true → (tget p.shuttles j).block ≠ (tget p.shuttles k).block)
      ∧ ∀ f, firstFailure s p = some f →
        (∃ r, checkRow s p r = some f ∧ ∀ q, q < r → checkRow s p q = none)
        ∨ (∀ r, checkRow s p r = none) ∧
          ((∃ n, checkStation p n = some f ∧ ∀ m, m < n → checkStation p m = none)
          ∨ (∀ n, checkStation p n = none) ∧
            ((∃ r, checkRobot p r = some f ∧ ∀ q, q < r → checkRobot p q = none)
            ∨ (∀ r, checkRobot p r = none) ∧ ∃ k, checkShuttle p k = some f ∧ ∀ j, j < k → checkShuttle p j = none)))
  ∧ (∀ (s : State) (p : Plant),
      (∀ r, let x := tget p.site r; let w := checkedNat s (siteRowAddress r + 4)
        checkRow s p r =
          if x.present = false then none
          else if x.length < 10 ∨ 1023 < x.length then some (.rowLength, r.1)
          else if 7 < x.block then some (.rowBlock, r.1)
          else if w = 0xFFFF ∨ ∃ n : StationIx, w = n.1 ∧ (tget p.stations n).used = true then none
          else some (.rowStation, r.1))
      ∧ (∀ n, let x := tget p.stations n
        let shared : Nat → Bool := fun c => decide (∃ m, m < n ∧ (tget p.stations m).used = true
          ∧ ((tget p.stations m).clean = c ∨ (tget p.stations m).soiled = c))
        checkStation p n =
          if x.used = false then none
          else if 31 < x.clean ∨ 31 < x.soiled then some (.channelRange, n.1)
          else if x.clean = x.soiled ∨ shared x.clean = true ∨ shared x.soiled = true then some (.channelReused, n.1)
          else none)
      ∧ (∀ r, let x := tget p.robots r
        checkRobot p r =
          if x.registered = false then none
          else if ∃ row : RowId, x.home = row.1 ∧ (tget p.site row).present = true ∧ (tget p.site row).block = x.block then
            if ∃ q, q < r ∧ (tget p.robots q).registered = true ∧ (tget p.robots q).home = x.home then
              some (.homeShared, r.1)
            else none
          else some (.robotHome, r.1))
      ∧ ∀ k, let x := tget p.shuttles k
        checkShuttle p k =
          if x.registered = false then none
          else if 7 < x.block then some (.shuttleBlock, k.1)
          else if ∃ j, j < k ∧ (tget p.shuttles j).registered = true ∧ (tget p.shuttles j).block = x.block then
            some (.shuttleShared, k.1)
          else none)
  ∧ [RefusalCode.none, .rowLength, .rowBlock, .rowStation, .channelRange, .channelReused, .robotHome, .homeShared,
      .shuttleBlock, .shuttleShared, .fleetActive].map RefusalCode.code = List.range 11

/-- R28, R29, R204: without the marker every parameter is its default and none counts as clamped; with it each is
taken at the nearest value that its range admits, and each taken at a value other than the one written counts. R24 to
R27, R204: each present row, used station, registered robot and registered shuttle is taken from its words, with the
road position, the speeds, epm and the shelter position at the nearest value of their ranges; any other is taken as
absent. The clamped count counts every field so moved, and saturates at 255. R31: a word is taken as this CHECKING
reads it (for a word that the host has written since, as assumption 9 gives). -/
def Obligations.ParametersTaken : Prop :=
  (∀ s : State, let v := fun i => checkedNat s (0x0200 + i)
    let off : Nat → Nat → Nat → Nat := fun lo hi x => if clampTo lo hi x = x then 0 else 1
    let unlisted : List Nat → Nat → Nat := fun xs x => if nearestListed x xs = x then 0 else 1
    (v 0 ≠ 0x4643 → readParams s = (
      { filterShift := 2, darkFloor := 4096, resolution := 14, countClock := 4, scanInterval := 10, wipeTime := 20
        efficiency := 230, passReserve := 40, transferCost := 12, linkRate := 192, replyWindow := 40, keyLead := 5
        repeatLimit := 8, silenceLimit := 0, poolLow := 8, parkMargin := 30, boardTimeout := 120
        anemometers := tabulate fun _ =>
          { metres := 700, watchGust := 120, parkGust := 180, parkMean := 140, releaseMean := 80, holdOff := 30
            parkDeadline := 300, code := 0, mask := 0 } }, 0))
    ∧ (v 0 = 0x4643 → let p := (readParams s).1
      p.filterShift = clampTo 0 7 (v 1) ∧ p.darkFloor = v 2 ∧ p.resolution = clampTo 9 16 (v 3)
      ∧ p.countClock = nearestListed (v 4) [1, 2, 4, 8] ∧ p.scanInterval = clampTo 0 60 (v 5)
      ∧ p.wipeTime = clampTo 5 60 (v 6) ∧ p.efficiency = clampTo 0 255 (v 7) ∧ p.passReserve = clampTo 10 90 (v 8)
      ∧ p.transferCost = clampTo 0 255 (v 9) ∧ p.linkRate = nearestListed (v 10) [96, 192, 384, 576, 1152]
      ∧ p.replyWindow = clampTo 5 200 (v 11) ∧ p.keyLead = clampTo 1 50 (v 12) ∧ p.repeatLimit = clampTo 2 16 (v 13)
      ∧ p.silenceLimit = clampTo 0 255 (v 14) ∧ p.poolLow = clampTo 0 32 (v 15) ∧ p.parkMargin = clampTo 0 300 (v 16)
      ∧ p.boardTimeout = clampTo 30 600 (v 17)
      ∧ ∀ i : AnemIx, let w := fun j => v (24 + 9 * i.1 + j); let a := tget p.anemometers i
        a.metres = clampTo 1 9999 (w 0) ∧ a.watchGust = clampTo 1 1000 (w 1)
        ∧ a.parkGust = clampTo a.watchGust 1000 (w 2) ∧ a.parkMean = clampTo 1 1000 (w 3)
        ∧ a.releaseMean = clampTo 1 a.parkMean (w 4) ∧ a.holdOff = clampTo 10 120 (w 5)
        ∧ a.parkDeadline = clampTo 60 1800 (w 6) ∧ a.code = clampTo 0 255 (w 7) ∧ a.mask = clampTo 0 255 (w 8))
    ∧ (v 0 = 0x4643 → let p := (readParams s).1
      (readParams s).2 =
        off 0 7 (v 1) + off 9 16 (v 3) + unlisted [1, 2, 4, 8] (v 4) + off 0 60 (v 5) + off 5 60 (v 6) + off 0 255 (v 7)
        + off 10 90 (v 8) + off 0 255 (v 9) + unlisted [96, 192, 384, 576, 1152] (v 10) + off 5 200 (v 11)
        + off 1 50 (v 12) + off 2 16 (v 13) + off 0 255 (v 14) + off 0 32 (v 15) + off 0 300 (v 16) + off 30 600 (v 17)
        + ((List.finRange 4).map fun i : AnemIx =>
            let w := fun j => v (24 + 9 * i.1 + j)
            off 1 9999 (w 0) + off 1 1000 (w 1) + off (tget p.anemometers i).watchGust 1000 (w 2) + off 1 1000 (w 3)
              + off 1 (tget p.anemometers i).parkMean (w 4) + off 10 120 (w 5) + off 60 1800 (w 6) + off 0 255 (w 7)
              + off 0 255 (w 8)).sum))
  ∧ (∀ s : State, let p := (readPlant s).1; let v := checkedNat s; let bit := checkedBit s
    let off : Nat → Nat → Nat → Nat := fun lo hi x => if clampTo lo hi x = x then 0 else 1
    (∀ r : RowId, let a := 0x06A0 + 8 * r.1
      tget p.site r =
        if bit a 0 then
          { present := true, enabledAtStart := bit a 1, block := v (a + 1), length := v (a + 2), yield := v (a + 3)
            station := if h : v (a + 4) < 16 then some ⟨v (a + 4), h⟩ else none, road := clampTo 0 4095 (v (a + 5)) }
        else
          { present := false, enabledAtStart := false, block := 0, length := 0, yield := 0, station := none, road := 0 })
    ∧ (∀ n : StationIx, let a := 0x02A0 + 8 * n.1
      tget p.stations n = if bit a 0 then { used := true, clean := v (a + 1), soiled := v (a + 2) }
        else { used := false, clean := 0, soiled := 0 })
    ∧ (∀ r : RobotId, let a := 0x03A0 + 16 * r.1
      tget p.robots r =
        if bit (a + 11) 0 then
          { registered := true, surfaceSensor := bit (a + 11) 1, block := v (a + 12), home := v (a + 13)
            speed := clampTo 5 40 (v (a + 14)), epm := clampTo 1 4095 (v (a + 15)) }
        else { registered := false, surfaceSensor := false, block := 0, home := 0, speed := 0, epm := 0 })
    ∧ (∀ k : ShuttleIx, let a := 0x0320 + 16 * k.1
      tget p.shuttles k =
        if bit (a + 12) 0 then
          { registered := true, block := v (a + 13), shelter := clampTo 0 4095 (v (a + 14))
            speed := clampTo 10 300 (v (a + 15)) }
        else { registered := false, block := 0, shelter := 0, speed := 0 })
    ∧ p.params = (readParams s).1
    ∧ (readPlant s).2 = min 255 (
        ((List.finRange 256).map fun r : RowId => let a := 0x06A0 + 8 * r.1
          if bit a 0 then off 0 4095 (v (a + 5)) else 0).sum
        + ((List.finRange 48).map fun r : RobotId => let a := 0x03A0 + 16 * r.1
          if bit (a + 11) 0 then off 5 40 (v (a + 14)) + off 1 4095 (v (a + 15)) else 0).sum
        + ((List.finRange 8).map fun k : ShuttleIx => let a := 0x0320 + 16 * k.1
          if bit (a + 12) 0 then off 0 4095 (v (a + 14)) + off 10 300 (v (a + 15)) else 0).sum
        + (readParams s).2)
    ∧ ∀ a, (∀ i, bit a i = (v a).testBit i)
      ∧ ((∀ q ∈ s.modes.checkRead, q.1 ≠ a) → v a = (s.mem a).toNat)
      ∧ ∀ before w after, s.modes.checkRead = before ++ (a, w) :: after → (∀ q ∈ before, q.1 ≠ a) → v a = w.toNat)
  ∧ (∀ lo hi v, lo ≤ hi → lo ≤ clampTo lo hi v ∧ clampTo lo hi v ≤ hi
      ∧ ∀ x, lo ≤ x → x ≤ hi → absDiff v (clampTo lo hi v) ≤ absDiff v x)
  ∧ ∀ v, ∀ xs ∈ [[1, 2, 4, 8], [96, 192, 384, 576, 1152]], nearestListed v xs ∈ xs
      ∧ ∀ x ∈ xs, absDiff v (nearestListed v xs) < absDiff v x
          ∨ absDiff v (nearestListed v xs) = absDiff v x ∧ nearestListed v xs ≤ x

/-- R33 and the RUN-entry columns of R36, R37, R38, R97, R117, R119, R170, R144, R185, R199: what RUN entry leaves:
the plant in force, every row unoccupied with the flags of the site map and the alert table, every registered robot
UNKNOWN with its placement mark set unless it is WITHDRAWN, every used station OK (WIPING while its pulse runs), the
alert records with the coverage in force, those whose hold-off has passed FREE, the pool re-formed and marked, the
timers started. R16, R70: LINK STATE is set where a station's link state changes (the model's reading, assumption 47).
R33 step 6, R60, R166: the FieldLink table and the shuttles of sheltered blocks at RUN entry: a registered station
that is not withdrawn is polled, with error counter 0, no doze and no synchronisation, its noise count and sequence
kept; an idle shuttle of a block with a sheltered row is sent to its shelter at once; one WITHDRAWN or in FAULT stays
so. (Site seconds wrap at 2^32 and are compared as they stand, the model's choice, assumption 39.) -/
def Obligations.RunEntryMasters : Prop :=
  (∀ (p : Plant) (u : State),
      let t := enterRun p u
      t.plant = p ∧ t.modes = { u.modes with mode := .run, refusal := .none, refusalIndex := 0, checkRead := [] }
      ∧ (∀ r, t.row r = { u.row r with
            enabled := (tget p.site r).present && (tget p.site r).enabledAtStart, contested := false, occupant := none
            reserved := none, sheltered := shelteredBy t r, watch := watchedBy t r })
      ∧ (∀ r, t.robot r =
          if (tget p.robots r).registered then
            if (u.robot r).activity = .withdrawn then
              { Robot.afterReset with
                activity := .withdrawn, position := (u.robot r).position, leg := (u.robot r).leg, soc := (u.robot r).soc
                meter := (u.robot r).meter, faultCode := (u.robot r).faultCode, lastHeard := (u.robot r).lastHeard }
            else { Robot.afterReset with placementMark := true }
          else Robot.afterReset)
      ∧ (∀ k, ((tget p.shuttles k).registered = false ∨ (u.shuttle k).state = .withdrawn ∨ (u.shuttle k).state = .fault
            ∨ blockSheltered t (tget p.shuttles k).block = false) → t.shuttle k =
          { Shuttle.afterReset with
            state :=
              if (tget p.shuttles k).registered ∧ ((u.shuttle k).state = .withdrawn ∨ (u.shuttle k).state = .fault)
              then (u.shuttle k).state else .idle })
      ∧ (∀ n, t.station n =
          let x := u.station n
          if (tget p.stations n).used then
            { x with
              state := if x.pulseEnd = none then .ok else .wiping
              remembered := if x.pulseEnd = none then .unused else .ok
              saturation := 0 }
          else
            { x with
              state := .unused, remembered := .unused, reseed := true, lastValid := 0, saturation := 0, fresh := false
              pulseEnd := none })
      ∧ t.pool = State.reset.pool ∧ t.farm = u.farm
      ∧ (mirrorOf t .farm).pending = true ∧ (∀ c, (mirrorOf t (.context c)).pending = true)
      ∧ t.round = { u.round with state := .idle, held := false, candidates := [] }
      ∧ t.scanner.scan = none ∧ t.scanner.pendingMask = 0
      ∧ t.scanner.periodicDue =
          (if p.params.scanInterval = 0 then none else some (later u (60 * p.params.scanInterval)))
      ∧ (∀ a, tget t.anemometers a = { pulses := 0, speeds := [], gust := 0, windowDue := some (later u 3) })
      ∧ t.board.silent = false
      ∧ t.board.silenceStart = (if p.params.silenceLimit = 0 then none else some u.siteSecond)
      ∧ t.board.notice = u.board.notice ||| (if stormSummary t = stormSummary u then 0#13 else 16#13)
          ||| (if ∀ i, linkStateOf (t.entry i).errorCount = linkStateOf (u.entry i).errorCount then 0#13 else 8#13)
      ∧ (∀ n : AlertIx,
          let x := { u.alert n with calm := 0, members := tfill 48 .out }
          let a := if h : n.1 < 4 then
              { x with
                code := BitVec.ofNat 8 (tget p.params.anemometers ⟨n.1, h⟩).code
                mask := BitVec.ofNat 8 (tget p.params.anemometers ⟨n.1, h⟩).mask, fault := false }
            else x
          t.alert n =
            if a.state = .releasing ∧ a.holdOff ≤ u.siteSecond then { a with state := .free, heldSlot := none } else a)
      ∧ t.memory = u.memory ∧ t.siteSecond = u.siteSecond)
  ∧ (∀ (p : Plant) (u : State),
      let t := enterRun p u
      let fresh := fun (i : LinkId) => { LinkEntry.afterReset with
        inPollList := true, noise := (u.entry i).noise, sequence := (u.entry i).sequence }
      t.link.urgent = [] ∧ t.link.heldBroadcast = tfill 8 0 ∧ t.link.cursor = none ∧ t.link.cycle = 0
      ∧ t.link.phase = .idle ∧ t.link.transmitter = { shift := none, holding := none, rest := [] }
      ∧ t.link.broadcastCount = u.link.broadcastCount ∧ (u.agenda = [] → t.agenda = [])
      ∧ (∀ r : RobotId, t.entry (robotLink r) =
          if (tget p.robots r).registered then
            if (u.robot r).activity = .withdrawn then
              { fresh (robotLink r) with inPollList := false, errorCount := (u.entry (robotLink r)).errorCount }
            else fresh (robotLink r)
          else LinkEntry.afterReset)
      ∧ ∀ k : ShuttleIx,
          ((tget p.shuttles k).registered = false → t.entry (shuttleLink k) = LinkEntry.afterReset)
          ∧ ((tget p.shuttles k).registered = true → (u.shuttle k).state = .withdrawn →
              t.entry (shuttleLink k)
                = { fresh (shuttleLink k) with inPollList := false, errorCount := (u.entry (shuttleLink k)).errorCount })
          ∧ ((tget p.shuttles k).registered = true → (u.shuttle k).state ≠ .withdrawn →
              ((u.shuttle k).state = .fault ∨ blockSheltered t (tget p.shuttles k).block = false) →
              t.entry (shuttleLink k) = fresh (shuttleLink k))
          ∧ ((tget p.shuttles k).registered = true → (u.shuttle k).state ≠ .withdrawn → (u.shuttle k).state ≠ .fault →
              blockSheltered t (tget p.shuttles k).block = true →
              t.shuttle k =
                { Shuttle.afterReset with
                  state := .toShelter
                  deadline := some (later u (driveTimeout 4095 (tget p.shuttles k).speed)) }
              ∧ t.entry (shuttleLink k) =
                { fresh (shuttleLink k) with
                  command := some { cmd := .shuttleGo (tget p.shuttles k).shelter .shelter, owner := .arbiter,
                                    sequence := none, sends := 0 } }))

/-! ### Orders -/

/-- R8, R9: the slot at the head of the intake queue is taken and answered UNKNOWN-ORDER where its word 0 names no
kind, in every mode; REFUSED-MODE outside RUN; REFUSED-RANGE with the word of the first field out of range in RUN. R9,
R205: the fields of each kind are in range exactly under these bounds, and where one is not, the word reported is the
lowest whose field is out of range. (That every command of a kind takes and refuses a slot whose selecting word names
nothing is the model's choice, assumption 1.) -/
def Obligations.OrdersRefused : Prop :=
  (∀ (s : State) (n : SlotIx) (rest : List SlotIx), s.resetHeld = false → s.board.intake = n :: rest →
      (orderKind (s.mem (slotBase n)) = none →
        exec .unknownOrder s = .next (commit s (answer n .unknownOrder 0 [] (takenAt s n rest))))
      ∧ ∀ (c : Instr) (k : OrderKind) (holds : List Word → Bool),
        c.takesOrder = some (k, holds) → holds (slotWords s n) = true →
        (s.modes.mode ≠ .run → exec c s = .next (commit s (answer n .refusedMode 0 [] (takenAt s n rest))))
        ∧ ∀ w, s.modes.mode = .run → rangeFailure k (slotWords s n) = some w →
            exec c s = .next (commit s (answer n .refusedRange w [] (takenAt s n rest))))
  ∧ (∀ ws : List Word,
      let f := field ws
      (rangeFailure .setRow ws = if 255 < f 2 then some 2 else if 2 < f 3 then some 3 else none)
      ∧ (rangeFailure .service ws =
          if 55 < f 2 ∨ f 3 = 2 ∧ 47 < f 2 then some 2 else if 2 < f 3 then some 3
          else if f 3 = 2 ∧ 255 < f 4 then some 4 else none)
      ∧ (∀ k, k = .scanStations ∨ k = .wipeStation → rangeFailure k ws = if f 2 = 0 then some 2 else none)
      ∧ rangeFailure .dayClose ws = none
      ∧ (rangeFailure .startRound ws = if f 2 = 0 ∨ 255 < f 2 then some 2 else none)
      ∧ (rangeFailure .stopRound ws = if 1 < f 2 then some 2 else none)
      ∧ (rangeFailure .cleanRow ws = if 255 < f 2 then some 2 else none)
      ∧ (rangeFailure .moveRobot ws = if 47 < f 2 then some 2 else if 255 < f 3 then some 3 else none)
      ∧ (rangeFailure .stormAlert ws =
          if 255 < f 2 then some 2 else if 255 < f 3 then some 3 else if 1 < f 4 then some 4 else none)
      ∧ (rangeFailure .stormClear ws = if 255 < f 2 then some 2 else if 255 < f 3 then some 3 else none)
      ∧ ∀ w : Word, (∀ k, orderKind w = some k → 1 ≤ w.toNat ∧ w.toNat ≤ 11)
          ∧ (w.toNat = 0 ∨ 12 ≤ w.toNat → orderKind w = none))

/-- R45: SET ROW ENABLE sets the row's enabled flag; DISABLE clears it and takes the row off the candidate list; CLEAR
CONTESTED clears a set contested flag and refuses a clear one; an action outside the three is refused by its word, and
an absent row is refused ABSENT. Nothing else changes but the answer. (That each of the three commands takes a slot
whose action is outside the three is the model's choice, assumption 1.) -/
def Obligations.SetRowOrders : Prop :=
  ∀ (s : State) (n : SlotIx) (rest : List SlotIx), AtHead s n rest 1 → orderWord s n 2 ≤ 255 →
    let u := takenAt s n rest
    let row : RowId := Fin.ofNat 256 (orderWord s n 2)
    let x := u.row row
    let absent := commit s (answer n .refusedState 0x80 [] u)
    (orderWord s n 3 = 0 → exec .setRowEnable s = .next
      (if (u.site row).present then
        commit s (answer n .done 0 [] { u with rows := tset u.rows row { x with enabled := true } })
      else absent))
    ∧ (orderWord s n 3 = 1 → exec .setRowDisable s = .next
      (if (u.site row).present then
        commit s (answer n .done 0 []
          { u with
            rows := tset u.rows row { x with enabled := false }
            round := { u.round with candidates := u.round.candidates.filter fun p => decide (p.1 ≠ row) } })
      else absent))
    ∧ (orderWord s n 3 = 2 → exec .setRowClearContested s = .next
      (if (u.site row).present then
        if x.contested then
          commit s (answer n .done 0 [] { u with rows := tset u.rows row { x with contested := false } })
        else commit s (answer n .refusedState 0x85 [] u)
      else absent))
    ∧ (2 < orderWord s n 3 → ∀ c ∈ [Instr.setRowEnable, .setRowDisable, .setRowClearContested],
        exec c s = .next (commit s (answer n .refusedRange 3 [] u)))

/-- R46: SERVICE WITHDRAW of a robot is refused NOT REGISTERED, its activity where it is WITHDRAWN or aboard a
shuttle, or TRANSFER where a transfer of it is in service; accepted, it leaves the robot WITHDRAWN, with no place, no
pass and no marks, and not polled, with no command pending. Before that its queued request leaves (its
reservation released, a HOST order answered ABORTED with detail 2, a ROUND request reported cancelled), its pass ends
abandoned and its context is abandoned (`ContextPool`); it loses its row, and belongs to no alert set and has no storm
target after it. R47: SERVICE WITHDRAW of a shuttle is refused NOT REGISTERED, or with its state where it is WITHDRAWN, in
BOARD, CARRY or ALIGHT, or carries a robot; accepted, it leaves the shuttle WITHDRAWN, its queue empty, no deadline,
not polled, with no command pending, and no transfer in service; every reservation of its requests is released, their
HOST orders are answered ABORTED with detail 2, and the ROUND ones reported cancelled. -/
def Obligations.StationsWithdrawn : Prop :=
  (∀ (s : State) (n : SlotIx) (rest : List SlotIx) (r : RobotId), AtHead s n rest 2 → orderWord s n 2 = r.1 →
      orderWord s n 3 = 0 →
      let u := takenAt s n rest
      let b := u.robot r
      let refused := fun d => exec .serviceWithdraw s = .next (commit s (answer n .refusedState d [] u))
      ((u.robotConfig r).registered = false → refused 0x86)
      ∧ ((u.robotConfig r).registered = true → (b.activity = .withdrawn ∨ ∃ k, b.place = .shuttle k) →
          refused b.activity.code)
      ∧ ((u.robotConfig r).registered = true → b.activity ≠ .withdrawn → (∀ k, b.place ≠ .shuttle k) →
          (serviceOf u r).isSome = true → refused 0x87)
      ∧ ((u.robotConfig r).registered = true → b.activity ≠ .withdrawn → (∀ k, b.place ≠ .shuttle k) →
          serviceOf u r = none →
          exec .serviceWithdraw s = .next (drain (commit s (answer n .done 0 [] (withdrawRobot r u)))))
      ∧ (let t := withdrawRobot r u;
        (t.robot r).activity = .withdrawn ∧ (t.robot r).place = .unknown ∧ (t.robot r).pass = none
        ∧ (t.robot r).placementMark = false ∧ (t.robot r).homingMark = false ∧ (t.robot r).storm.release = false
        ∧ (t.entry (robotLink r)).inPollList = false ∧ (t.entry (robotLink r)).command = none)
      ∧ (let t := withdrawRobot r u
        (∀ m, (t.alert m).member r = .out) ∧ (t.robot r).storm.target = .none
        ∧ ((∀ c, b.context = some c → (u.context c).owner = some r) → (t.robot r).context = none))
      ∧ let d := dropRobotRequest r (.cancelled 2) u
        let v := abandonOwned r (endAbandoned r d)
        (queueOf u r = none → d = u)
        ∧ (∀ k, queueOf u r = some k →
          d.robots = u.robots
          ∧ (d.shuttle k).queue = (u.shuttle k).queue.filter (fun q => decide (q.robot ≠ r))
          ∧ ∀ q ∈ (u.shuttle k).queue, q.robot = r →
              (d.row q.destination).reserved ≠ some r
              ∧ (q.cls = .round → .transferReport r q.destination .cancelled ∈ d.agenda)
              ∧ ∀ m, q.origin = some m → Memory.wf u.memory = true → AnsweredWith d m 3 2)
        ∧ (inSomeSet u r = false → (∀ k, b.place ≠ .shuttle k) →
          withdrawRobot r u =
            { v with
              agenda := v.agenda ++ [.closeCheck]
              robots := tset v.robots r
                { v.robot r with place := .unknown, placementMark := false, pass := none, activity := .withdrawn
                                 homingMark := false, storm := StormMarks.clear }
              rows :=
                match b.place with
                | .row row => tset v.rows row
                    { v.row row with occupant := if (v.row row).occupant = some r then none else (v.row row).occupant }
                | _ => v.rows
              link := { v.link with
                entries := tset v.link.entries (robotLink r)
                  { v.entry (robotLink r) with inPollList := false, command := none } } }))
  ∧ (∀ (s : State) (n : SlotIx) (rest : List SlotIx) (k : ShuttleIx), AtHead s n rest 2 → orderWord s n 2 = 48 + k.1 →
      orderWord s n 3 = 0 →
      let u := takenAt s n rest
      let x := u.shuttle k
      let kept := x.state = .withdrawn ∨ x.state = .board ∨ x.state = .carry ∨ x.state = .alight ∨ x.carried ≠ none
      ((u.shuttleConfig k).registered = false →
        exec .serviceWithdraw s = .next (commit s (answer n .refusedState 0x86 [] u)))
      ∧ ((u.shuttleConfig k).registered = true → kept →
        exec .serviceWithdraw s = .next (commit s (answer n .refusedState (0x10 + x.state.code) [] u)))
      ∧ ((u.shuttleConfig k).registered = true → ¬kept →
        exec .serviceWithdraw s = .next (drain (commit s (answer n .done 0 [] (withdrawShuttle k u)))))
      ∧ (let t := withdrawShuttle k u;
        (t.shuttle k).state = .withdrawn ∧ (t.shuttle k).queue = [] ∧ (t.shuttle k).deadline = none
        ∧ (t.shuttle k).inService = none
        ∧ (t.entry (shuttleLink k)).inPollList = false ∧ (t.entry (shuttleLink k)).command = none
        ∧ (∀ q ∈ x.queue, (t.row q.destination).reserved ≠ some q.robot
          ∧ (q.cls = .round → .transferReport q.robot q.destination .cancelled ∈ t.agenda)
          ∧ ∀ m, q.origin = some m → Memory.wf u.memory = true → AnsweredWith t m 3 2)
        ∧ ∀ y, x.inService = some y → (t.row y.destination).reserved ≠ some y.robot
          ∧ (y.cls = .round → .transferReport y.robot y.destination .cancelled ∈ t.agenda)
          ∧ ∀ m, y.origin = some m → Memory.wf u.memory = true → AnsweredWith t m 3 2))

/-- R48, R60: SERVICE RETURN of a withdrawn robot leaves it UNKNOWN with no place (any place it held is left) and its
placement mark set, polled again with error counter 0; any other is refused with its activity. R48, R60, R166: SERVICE
RETURN of a WITHDRAWN or FAULT shuttle that carries no robot leaves it IDLE, or TO SHELTER where a row of its block is
sheltered, polled again; any other is refused with its state. (The link column applied to a FAULT shuttle is the
model's reading, assumption 38.) (Site seconds wrap at 2^32 and are compared as they stand, the model's choice,
assumption 39.) -/
def Obligations.StationsReturned : Prop :=
  (∀ (s : State) (n : SlotIx) (rest : List SlotIx) (r : RobotId), AtHead s n rest 2 → orderWord s n 2 = r.1 →
      orderWord s n 3 = 1 →
      let u := takenAt s n rest
      let b := u.robot r
      let e := u.entry (robotLink r)
      exec .serviceReturn s = .next (commit s
        (if (u.robotConfig r).registered = false then answer n .refusedState 0x86 [] u
        else if b.activity ≠ .withdrawn then answer n .refusedState b.activity.code [] u
        else answer n .done 0 []
          { u with
            robots := tset u.robots r { b with activity := .unknown, place := .unknown, placementMark := true }
            rows :=
              match b.place with
              | .row row => tset u.rows row
                  { u.row row with occupant := if (u.row row).occupant = some r then none else (u.row row).occupant }
              | _ => u.rows
            shuttles :=
              match b.place with
              | .shuttle k => tset u.shuttles k
                  { u.shuttle k with carried := if (u.shuttle k).carried = some r then none else (u.shuttle k).carried }
              | _ => u.shuttles
            link := { u.link with
              entries := tset u.link.entries (robotLink r)
                { LinkEntry.afterReset with inPollList := true, noise := e.noise, sequence := e.sequence } }
            board := { u.board with
              notice := if e.errorCount < 96 then u.board.notice else u.board.notice ||| 8#13 } })))
  ∧ (∀ (s : State) (n : SlotIx) (rest : List SlotIx) (k : ShuttleIx), AtHead s n rest 2 → orderWord s n 2 = 48 + k.1 →
      orderWord s n 3 = 1 →
      let u := takenAt s n rest
      let x := u.shuttle k
      let e := u.entry (shuttleLink k)
      let c := u.shuttleConfig k
      let road := if x.state = .withdrawn then none else x.road
      let fresh : LinkEntry :=
        { LinkEntry.afterReset with inPollList := true, noise := e.noise, sequence := e.sequence }
      let v := { u with board := { u.board with
        notice := if e.errorCount < 96 then u.board.notice else u.board.notice ||| 8#13 } }
      (c.registered = false → exec .serviceReturn s = .next (commit s (answer n .refusedState 0x86 [] u)))
      ∧ (c.registered = true → (x.state ≠ .withdrawn ∧ x.state ≠ .fault ∨ x.carried ≠ none) →
        exec .serviceReturn s = .next (commit s (answer n .refusedState (0x10 + x.state.code) [] u)))
      ∧ (c.registered = true → (x.state = .withdrawn ∨ x.state = .fault) → x.carried = none →
        exec .serviceReturn s = .next (drain (commit s (answer n .done 0 []
          (if blockSheltered u c.block then
            { v with
              agenda := [.examineBlock c.block]
              shuttles := tset u.shuttles k
                { x with state := .toShelter, road := road, goAcknowledged := false
                         deadline := some (later u (driveTimeout (driveDistance road c.shelter) c.speed)) }
              link := { u.link with
                entries := tset u.link.entries (shuttleLink k)
                  { fresh with command := some { cmd := .shuttleGo c.shelter .shelter, owner := .arbiter,
                                                 sequence := none, sends := 0 } } } }
          else
            { v with
              agenda := [.startRule k, .examineBlock c.block]
              shuttles := tset u.shuttles k
                { x with state := .idle, road := road, deadline := none, goAcknowledged := false }
              link := { u.link with entries := tset u.link.entries (shuttleLink k) fresh } }))))))

/-- R49: SERVICE DECLARE AT ROW: the first of the checks, in this order, that fails refuses it with its detail;
accepted, it leaves the robot DOCKED at the row, with its placement mark clear, as the row's occupant; the row or the
shuttle that held it is left. A context saved on the row stands and keeps the row out of the list; one saved on another
row is abandoned. R161: a stranded record of the robot is emptied with its reservation released, the shuttle's state
standing. (A pass ends as the model has it, assumption 64; no run comes to it.) -/
def Obligations.RobotDeclared : Prop :=
  ∀ (s : State) (n : SlotIx) (rest : List SlotIx) (r : RobotId), AtHead s n rest 2 → orderWord s n 2 = r.1 →
    orderWord s n 3 = 2 → orderWord s n 4 ≤ 255 →
    let u := takenAt s n rest
    let row : RowId := Fin.ofNat 256 (orderWord s n 4)
    let b := u.robot r
    let x := u.row row
    exec .serviceDeclareAtRow s = .next (drain (commit s (
      if (u.robotConfig r).registered = false then answer n .refusedState 0x86 [] u
      else if b.activity = .withdrawn
          ∨ b.activity ≠ .halted ∧ b.activity ≠ .fault ∧ b.activity ≠ .unknown ∧ u.robotLinkState r ≠ .lost then
        answer n .refusedState b.activity.code [] u
      else if hasRequest u r = true then answer n .refusedState 0x87 [] u
      else if (u.site row).present = false then answer n .refusedState 0x80 [] u
      else if (u.site row).block ≠ (u.robotConfig r).block then answer n .refusedState 0x81 [] u
      else if x.contested = true then answer n .refusedState 0x82 [] u
      else if x.occupant ≠ none ∧ x.occupant ≠ some r then answer n .refusedState 0x83 [] u
      else if x.reserved ≠ none then answer n .refusedState 0x84 [] u
      else answer n .done 0 [] (declareAt r row u))))
    ∧ let t := declareAt r row u
      (t.robot r).activity = .docked ∧ (t.robot r).place = .row row ∧ (t.robot r).placementMark = false
      ∧ (t.row row).occupant = some r ∧ (t.robot r).pass = none
      ∧ (∀ y, b.place = .row y → y ≠ row → (t.row y).occupant ≠ some r)
      ∧ (∀ k, b.place = .shuttle k → (t.shuttle k).carried ≠ some r)
      ∧ (∀ c, b.pass = none → b.context = some c →
        let saved := (u.context c).rowId
        let length := (u.site saved).length
        (saved = row → (t.robot r).context = some c ∧ t.pool = u.pool ∧ ∀ p ∈ t.round.candidates, p.1 ≠ row)
        ∧ (saved ≠ row → (u.context c).owner = some r → 1 ≤ length →
          let loss := 32768 - (u.row saved).tr
          let f := min (u.context c).covered (2 * length) * 256 / (2 * length)
          (t.robot r).context = none ∧ t.pool = (freeContext c u).pool
          ∧ (t.row saved).tr = 32768 - (loss - loss * u.params.efficiency * f / 65536)))
      ∧ ∀ k y, strandedOf u r = some k → (u.shuttle k).transfer = some y →
        (t.shuttle k).transfer = none ∧ (t.row y.destination).reserved ≠ some r
        ∧ (t.shuttle k).state = (u.shuttle k).state

/-- R83, R84, R87: SCAN STATIONS of an unused station is refused; otherwise the order is held, and its stations join
the scan-pending mask where a scan is in flight, or else a scan starts, of the used and not WIPING stations among
them, that covers it. -/
def Obligations.ScanOrders : Prop :=
  (∀ (s : State) (n : SlotIx) (rest : List SlotIx), AtHead s n rest 3 → orderWord s n 2 ≠ 0 →
      let u := takenAt s n rest
      let mask := s.mem (slotBase n + 2)
      let measured := measuredSet u mask
      ((∃ m, maskHas mask m = true ∧ (u.stationConfig m).used = false) →
        exec .scanStations s = .next (commit s (answer n .refusedState 0x30 [] u)))
      ∧ ((∀ m, maskHas mask m = true → (u.stationConfig m).used = true) → (u.scanner.scan).isSome = true →
        exec .scanStations s = .next (commit s { u with
          scanner := { u.scanner with
            pendingMask := u.scanner.pendingMask ||| mask
            orders := u.scanner.orders ++ [{ slot := n, mask := mask, covered := false }] } }))
      ∧ ((∀ m, maskHas mask m = true → (u.stationConfig m).used = true) → u.scanner.scan = none →
        exec .scanStations s = .next (drain (commit s { u with
          agenda := if channelsOf u measured = [] then [Job.scanComplete] else []
          scanner := { u.scanner with
            scan := some { requested := mask, measured := measured, channels := channelsOf u measured, raw := [],
                           telling := false }
            orders := (u.scanner.orders.map fun o => { o with covered := true })
              ++ [{ slot := n, mask := mask, covered := true }] } }))))
  ∧ ∀ (v : State) (mask : Word),
    (∀ m, maskHas (measuredSet v mask) m = true ↔
        maskHas mask m = true ∧ (v.stationConfig m).used = true ∧ (v.station m).state ≠ .wiping)
    ∧ (∀ c, c ∈ channelsOf v mask ↔ c ≤ 31 ∧ ∃ m, maskHas mask m = true ∧
        (c = (v.stationConfig m).clean ∨ c = (v.stationConfig m).soiled))
    ∧ (channelsOf v mask).Pairwise (· < ·)

/-- R94 to R96: WIPE STATION of no station is refused by its word, and of an unused station with its state; otherwise
a pulse starts on each named station that is not WIPING, whose state is remembered, and restarts on each that is; the
answer gives the two masks; a scan in flight drops the stations whose pulse starts, with their raw counts and their
channels still to be measured, but for the one being measured. (A scan that has completed and has still to tell the
account unit drops nothing: the model's split of the completion, assumption 17.) (Site seconds wrap at 2^32 and are
compared as they stand, the model's choice, assumption 39.) -/
def Obligations.WipeOrders : Prop :=
  ∀ (s : State) (n : SlotIx) (rest : List SlotIx), AtHead s n rest 4 →
    let u := takenAt s n rest
    let mask := s.mem (slotBase n + 2)
    let named := (List.finRange 16).filter (maskHas mask)
    let wiping := fun m => decide ((u.station m).state = .wiping)
    let t := forEach named startPulse u
    (orderWord s n 2 = 0 → exec .wipeStation s = .next (commit s (answer n .refusedRange 2 [] u)))
    ∧ ((∃ m, maskHas mask m = true ∧ (u.stationConfig m).used = false) →
      exec .wipeStation s = .next (commit s (answer n .refusedState 0x30 [] u)))
    ∧ (orderWord s n 2 ≠ 0 → (∀ m, maskHas mask m = true → (u.stationConfig m).used = true) →
      exec .wipeStation s = .next (commit s (answer n .done 0
        [stationMask fun m => maskHas mask m && !wiping m, stationMask fun m => maskHas mask m && wiping m] t)))
    ∧ t = { u with
            stations := tabulate fun m =>
              if maskHas mask m then
                if wiping m then { u.station m with pulseEnd := some (later u u.params.wipeTime) }
                else { u.station m with
                  remembered := (u.station m).state, state := .wiping, reseed := true
                  pulseEnd := some (later u u.params.wipeTime) }
              else u.station m
            scanner := { u.scanner with scan := t.scanner.scan } }
    ∧ (u.scanner.scan = none → t.scanner.scan = none)
    ∧ ∀ sc, u.scanner.scan = some sc →
        let dropped := named.filter fun m => maskHas sc.measured m && !wiping m && !sc.telling
        let theirs := fun c => dropped.any fun m => c == (u.stationConfig m).clean || c == (u.stationConfig m).soiled
        ∃ sc', t.scanner.scan = some sc'
        ∧ (∀ m, maskHas sc'.measured m = true ↔
            maskHas sc.measured m = true ∧ (sc.telling = true ∨ maskHas mask m = false ∨ wiping m = true))
        ∧ sc' = { sc with
            measured := sc'.measured
            raw := sc.raw.filter fun p => !theirs p.1
            channels := match sc.channels with
              | [] => []
              | c :: rest => c :: rest.filter fun d => !theirs d }

/-- R104 to R106: DAY CLOSE is refused BUSY while another is held; it waits while a scan is in flight; else it runs:
each used station takes its filtered ratio as Ts where it is fresh, and is held where not, and its pulse starts; each
present row with a station has its Tr multiplied by that Ts, and every present row's daily loss is recomputed and
accumulated. DAY_CLOSE_DEFERRED runs the close that a completed scan owes (the model's split of the completion,
assumption 17). R101, R105, R115: what a close does: the stations' Ts, fresh marks and pulses, the rows' Tr, daily
losses and cumulative losses, the farm's total loss, and the record of the close. (Site seconds wrap at 2^32 and are
compared as they stand, the model's choice, assumption 39.) -/
def Obligations.DayCloses : Prop :=
  ((∀ (s : State) (n : SlotIx) (rest : List SlotIx), AtHead s n rest 5 →
      let u := takenAt s n rest
      (u.farm.closeSlot ≠ none → exec .dayClose s = .next (commit s (answer n .refusedBusy 0 [] u)))
      ∧ (u.farm.closeSlot = none → u.scanner.scan ≠ none →
          exec .dayClose s = .next (commit s { u with farm := { u.farm with closeSlot := some n } }))
      ∧ (u.farm.closeSlot = none → u.scanner.scan = none →
          exec .dayClose s = .next (commit s (closeAndAnswer n u))))
    ∧ (∀ (s : State) (sc : Scan) (n : SlotIx), s.resetHeld = false → s.modes.mode = .run →
        s.scanner.scan = some sc → sc.telling = true → s.farm.closeSlot = some n →
        let v := closeAndAnswer n { s with agenda := [] }
        exec .dayCloseDeferred s
          = .next (drain (commit s (endScan { v with farm := { v.farm with closeSlot := none } }))))
    ∧ ∀ (u : State) (n : SlotIx),
        let t := runClose u
        let held := ((List.finRange 16).filter fun m => (u.stationConfig m).used && !(u.station m).fresh).length
        closeAndAnswer n u = answer n .done 0
          [lowWord t.farm.totalLoss, highWord t.farm.totalLoss, lowWord t.farm.totalRecovered,
           highWord t.farm.totalRecovered, word held] t)
  ∧ (∀ u : State,
      let t := runClose u
      (∀ m, (u.stationConfig m).used = true →
        (t.station m).ts = (if (u.station m).fresh then (u.station m).srf else (u.station m).ts)
        ∧ (t.station m).fresh = false ∧ (t.station m).srf = (u.station m).srf
        ∧ (t.station m).state = .wiping ∧ (t.station m).pulseEnd = some (later u u.params.wipeTime))
      ∧ (∀ m, (u.stationConfig m).used = false → t.station m = u.station m)
      ∧ (∀ r, (u.site r).present = false → t.row r = u.row r)
      ∧ (∀ r, (u.site r).present = true →
        let tr := match (u.site r).station with
          | some m => (u.row r).tr * (t.station m).ts / 32768
          | none => (u.row r).tr
        let d := (32768 - tr) * (u.site r).yield / 32768
        t.row r = { u.row r with tr := tr, daily := d, cumLoss := min 0xFFFFFFFF ((u.row r).cumLoss + d) })
      ∧ (u.farm.totalLoss ≤ 0xFFFFFFFF →
        t.farm = { u.farm with
          totalLoss := min 0xFFFFFFFF (u.farm.totalLoss +
            (((List.finRange 256).filter fun r => (u.site r).present).map fun r => (t.row r).daily).sum)
          closeCount := min 65535 (u.farm.closeCount + 1), lastClose := u.siteSecond })
      ∧ t = { u with stations := t.stations, rows := t.rows, farm := t.farm, scanner := t.scanner })

/-- R122: START ROUND is refused with the round's state unless it is IDLE; else the round is opened. R121 to R124,
R108, R109: what opening a round does: the round record from the order's words, the score of every present row of the
masked blocks, each marked whether or not its score moved, and the candidate list, which holds exactly the fit rows,
none forced, by falling score and then rising number; the answer carries its length and the round number; unless the
round is held, WAKE is set for each dozing robot of the masked blocks that is not WITHDRAWN, in ascending id (R65 has
the owner of a command that it replaces told, and the planner where the robot is not polled), and then the robots of
the masked blocks are examined; where it is held, neither. (Site seconds wrap at 2^32 and are compared as they stand,
the model's choice, assumption 39.) -/
def Obligations.RoundsOpened : Prop :=
  (∀ (s : State) (n : SlotIx) (rest : List SlotIx), AtHead s n rest 6 → orderWord s n 2 ≠ 0 → orderWord s n 2 ≤ 255 →
      let u := takenAt s n rest
      (u.round.state ≠ .idle →
        exec .startRound s = .next (commit s (answer n .refusedState (0x20 + u.round.state.code) [] u)))
      ∧ (u.round.state = .idle → exec .startRound s = .next (drain (commit s (openRound n (slotWords s n) u)))))
  ∧ (∀ (u : State) (n : SlotIx) (ws : List Word), Memory.wf u.memory = true →
      let t := openRound n ws u
      let window := clampTo 1 720 (field ws 3)
      let grace := clampTo 0 120 (field ws 4)
      let masked := fun r => (u.site r).present && (BitVec.ofNat 8 (field ws 2)).getLsbD (u.site r).block
      t.round = { u.round with
          state := .active, number := (u.round.number + 1) % 65536, blocks := BitVec.ofNat 8 (field ws 2)
          horizon := clampTo 1 15 (field ws 5), leastLoss := clampTo 0 32768 (field ws 6), start := u.siteSecond
          windowEnd := later u (60 * window), hardEnd := later u (60 * window + 60 * grace), graceMinutes := grace
          started := 0, complete := 0, partialCount := 0, assigned := 0, candidates := t.round.candidates }
      ∧ (∀ r, masked r = false → t.row r = u.row r)
      ∧ (∀ r, masked r = true →
          let d := (32768 - (u.row r).tr) * (u.site r).yield / 32768
          t.row r = { u.row r with
            daily := d
            lastScore := (d * t.round.horizon * u.params.efficiency / 256 : Nat)
              - (ceilDiv (2 * (u.site r).length * (lowestEpm u (u.site r).block).getD 0) 10000 : Nat) })
      ∧ (∀ r, masked r = true → (mirrorOf t (.row r)).pending = true)
      ∧ (∀ p, p ∈ t.round.candidates ↔ p.2 = false ∧ masked p.1 = true ∧
          let x := t.row p.1
          x.enabled = true ∧ x.contested = false ∧ x.reserved = none
          ∧ (∀ o, x.occupant = some o → (u.robot o).context = none) ∧ lowestEpm u (u.site p.1).block ≠ none
          ∧ t.round.leastLoss ≤ 32768 - x.tr ∧ 0 < x.lastScore)
      ∧ t.round.candidates.Pairwise (fun p q =>
          (t.row q.1).lastScore < (t.row p.1).lastScore
          ∨ (t.row q.1).lastScore = (t.row p.1).lastScore ∧ p.1 < q.1)
      ∧ (t.slot n).state = .answered ∧ t.mem (slotBase n + 16) = 1 ∧ t.mem (slotBase n + 17) = 0
      ∧ t.mem (slotBase n + 19) = word t.round.candidates.length ∧ t.mem (slotBase n + 20) = word t.round.number
      ∧ let ofMask := fun r => (u.robotConfig r).registered && t.round.blocks.getLsbD (u.robotConfig r).block
        let waked := fun r => ofMask r && (u.robot r).activity != .withdrawn && (u.entry (robotLink r)).doze
        let told := fun r =>
          if (u.entry (robotLink r)).inPollList then
            match (u.entry (robotLink r)).command with
            | some p => if p.owner = .planner then [] else [Job.told (robotLink r) p.owner p.cmd (.superseded .wake)]
            | none => []
          else [Job.told (robotLink r) .planner .wake .noEcho]
        t.agenda = u.agenda ++
          (if u.round.held then []
          else ((List.finRange 48).filter waked).flatMap told ++ ((List.finRange 48).filter ofMask).map Job.examine)
        ∧ ∀ r, (u.round.held = false → waked r = true → Commanded t (robotLink r) .wake .planner)
          ∧ (u.round.held = true ∨ waked r = false → t.entry (robotLink r) = u.entry (robotLink r)))

/-- R139 to R141: STOP ROUND FINISH winds an ACTIVE round down, and is answered with the round's state (after its
whole effect, assumption 44); RECALL is held and recalls an ACTIVE or WINDING round; both are refused in IDLE. -/
def Obligations.StopOrders : Prop :=
  ∀ (s : State) (n : SlotIx) (rest : List SlotIx), AtHead s n rest 7 →
    let u := takenAt s n rest
    let held := { u with round := { u.round with recalls := u.round.recalls ++ [n] } }
    let refused := commit s (answer n .refusedState 0x20 [] u)
    let wound := drain (windDown u)
    (orderWord s n 2 = 0 →
      (u.round.state = .idle → exec .stopRoundFinish s = .next refused)
      ∧ (u.round.state = .active → exec .stopRoundFinish s
          = .next (commit s (answer n .done 0 [word (0x20 + wound.round.state.code)] wound)))
      ∧ (u.round.state = .winding → exec .stopRoundFinish s = .next (commit s (answer n .done 0 [0x22] u)))
      ∧ (u.round.state = .recalling → exec .stopRoundFinish s = .next (commit s (answer n .done 0 [0x23] u))))
    ∧ (orderWord s n 2 = 1 →
      (u.round.state = .idle → exec .stopRoundRecall s = .next refused)
      ∧ (u.round.state = .active ∨ u.round.state = .winding →
          exec .stopRoundRecall s = .next (drain (commit s (recallFleet held))))
      ∧ (u.round.state = .recalling → exec .stopRoundRecall s = .next (commit s held)))

/-- R126: CLEAN ROW: a row above 255 is refused by its word; the first of the checks, in this order, that fails
refuses it with its detail; accepted, it puts the row directly behind the forced rows already listed, answers with its
index and the list's length, and has the robots of its block examined. -/
def Obligations.CleanRowOrders : Prop :=
  ∀ (s : State) (n : SlotIx) (rest : List SlotIx), AtHead s n rest 8 →
    let u := takenAt s n rest
    let row : RowId := Fin.ofNat 256 (orderWord s n 2)
    let x := u.row row
    let others := u.round.candidates.filter fun p => decide (p.1 ≠ row)
    let forced := others.filter fun p => p.2
    let list := forced ++ (row, true) :: others.filter fun p => !p.2
    exec .cleanRow s = .next (drain (commit s (
      if 255 < orderWord s n 2 then answer n .refusedRange 2 [] u
      else if u.round.state ≠ .active then answer n .refusedState (0x20 + u.round.state.code) [] u
      else if (u.site row).present = false then answer n .refusedState 0x80 [] u
      else if u.round.blocks.getLsbD (u.site row).block = false then answer n .refusedState 0x81 [] u
      else if x.enabled = false then answer n .refusedState 0x88 [] u
      else if x.contested = true then answer n .refusedState 0x82 [] u
      else if x.reserved ≠ none then answer n .refusedState 0x84 [] u
      else if ∃ b, (u.robot b).passRow = some row then answer n .refusedState 0x89 [] u
      else if ∃ o, x.occupant = some o ∧ (u.robot o).context ≠ none then answer n .refusedState 0x8A [] u
      else answer n .done 0 [word forced.length, word list.length]
        { u with agenda := [.examineBlock (u.site row).block], round := { u.round with candidates := list } })))

/-- R147 to R149: MOVE ROBOT: the first of the checks, in this order, that fails refuses it with its detail, a full
queue refuses it BUSY; accepted, it abandons the robot's context, takes the destination off the candidate list and
reserves it, and queues a HOST request at the shuttle of the robot's block, whose record is marked. -/
def Obligations.MoveOrders : Prop :=
  ∀ (s : State) (n : SlotIx) (rest : List SlotIx) (r : RobotId), AtHead s n rest 9 → orderWord s n 2 = r.1 →
    orderWord s n 3 ≤ 255 →
    let u := takenAt s n rest
    let d : RowId := Fin.ofNat 256 (orderWord s n 3)
    let b := u.robot r
    let x := u.row d
    let block := (u.robotConfig r).block
    let refused := fun detail => answer n .refusedState detail [] u
    let v := abandonOwned r u
    exec .moveRobot s = .next (drain (commit s (
      if (u.robotConfig r).registered = false then refused 0x86
      else if b.activity ≠ .docked then refused b.activity.code
      else if u.robotLinkState r = .lost then refused 0x8B
      else if hasRequest u r = true then refused 0x87
      else if b.pass ≠ none then refused 0x89
      else if (u.site d).present = false then refused 0x80
      else if (u.site d).block ≠ block then refused 0x81
      else if x.enabled = false then refused 0x88
      else if x.contested = true then refused 0x82
      else if x.occupant ≠ none then refused 0x83
      else if x.reserved ≠ none then refused 0x84
      else if x.sheltered = true then refused 0x8C
      else if x.watch = true then refused 0x8D
      else match shuttleOf u block with
        | none => refused 0x8E
        | some k =>
          if (u.shuttle k).state = .withdrawn ∨ (u.shuttle k).state = .fault then
            refused (0x10 + (u.shuttle k).state.code)
          else match b.row? with
            | none => refused b.activity.code
            | some source =>
              if 8 ≤ (u.shuttle k).queue.length then answer n .refusedBusy 0 [] u
              else markRewrite (.shuttle k) { v with
                agenda := v.agenda ++ [.startRule k]
                round := { v.round with candidates := v.round.candidates.filter fun p => decide (p.1 ≠ d) }
                rows := tset v.rows d { v.row d with reserved := some r }
                shuttles := tset v.shuttles k { v.shuttle k with
                  queue := (v.shuttle k).queue ++
                    [{ robot := r, source := source, destination := d, cls := .host, origin := some n }] } })))
    ∧ (b.context = none → v = u)

/-- R187, R188, R190: STORM ALERT and STORM CLEAR act on the lowest host record in use with the order's code and mask;
a new alert takes the lowest FREE host record, and is refused BUSY where there is none; a PARK merges into a record in
use; a CLEAR that matches none is refused FREE. R188: a PARK merge raises the level to PARK; it takes a record in
WATCH or RELEASING to PARKING with the order's deadline, gives one in PARKING the earlier of the two deadlines, and
leaves one that is PARKED. R192: an earlier deadline has every unsecured member with target DOCK decided again, and
CLAMP set for each that no longer reaches its dock; where it is past, its expiry is taken at once. R197: RELEASING is
entered with the hold-off running from now. (Site seconds wrap at 2^32 and are compared as they stand, the model's
choice, assumption 39.) -/
def Obligations.StormOrders : Prop :=
  ∀ (s : State) (n : SlotIx) (rest : List SlotIx) (code mask : Byte),
    let u := takenAt s n rest
    let taken := fun (m : AlertIx) (level : AlertLevel) (slot : Option SlotIx) =>
      { u with alerts := tset u.alerts m { u.alert m with
        code := code, mask := mask, level := level, toSecure := 0, secured := 0, late := 0, heldSlot := slot, calm := 0 } }
    let merged := fun (m : AlertIx) (slot : Option SlotIx) =>
      { u with alerts := tset u.alerts m { u.alert m with level := .park, heldSlot := slot } }
    let deadline := later u (clampTo 60 1800 (orderWord s n 5))
    let answered := fun (t : State) (m : AlertIx) (cls : AnswerClass) (d : Nat) =>
      answer n cls d [word m.1, word (t.alert m).toSecure, word (t.alert m).secured] t
    orderWord s n 2 = code.toNat → orderWord s n 3 = mask.toNat →
    (AtHead s n rest 10 → orderWord s n 4 = 0 → exec .stormAlertWatch s = .next (drain (commit s (
      match matchingAlert u code.toNat mask.toNat, freeHostAlert u with
      | some m, _ => answer n .done 0 [word m.1] u
      | none, none => answer n .refusedBusy 0 [] u
      | none, some m => answer n .done 0 [word m.1]
          (changeAlert m (fun a => { a with state := .watch }) (taken m .watch none))))))
    ∧ (AtHead s n rest 10 → orderWord s n 4 = 1 → exec .stormAlertPark s = .next (drain (commit s (
      match matchingAlert u code.toNat mask.toNat, freeHostAlert u with
      | none, none => answer n .refusedBusy 0 [] u
      | none, some m => enterParking m deadline (taken m .park (some n))
      | some m, _ =>
        if (u.alert m).heldSlot ≠ none then
          let t := mergePark m deadline u
          answered t m .done 255
        else if (u.alert m).state = .parked then
          answered (merged m none) m (if (u.alert m).late = 0 then .done else .failed) (u.alert m).late
        else if (u.alert m).state = .parking then mergeDeadline m deadline (merged m (some n))
        else enterParking m deadline (merged m (some n))))))
    ∧ (AtHead s n rest 11 → exec .stormClear s = .next (drain (commit s (
      match matchingAlert u code.toNat mask.toNat with
      | none => answer n .refusedState 0x40 [] u
      | some m =>
        let t := match (u.alert m).state with
          | .watch => freeAlert m u
          | .parking | .parked =>
            enterReleasing m
              (60 * (List.finRange 4).foldl (fun acc a => max acc (tget u.params.anemometers a).holdOff) 0)
              (answerHeld m .aborted 0 [] u)
          | .releasing | .free => u
        answer n .done 0 [word m.1, word (0x40 + (t.alert m).state.code)] t))))
    ∧ (∀ m, matchingAlert u code.toNat mask.toNat = some m ↔
        4 ≤ m.1 ∧ (u.alert m).state ≠ .free ∧ (u.alert m).code = code ∧ (u.alert m).mask = mask
        ∧ ∀ j, j < m → 4 ≤ j.1 → (u.alert j).state = .free ∨ (u.alert j).code ≠ code ∨ (u.alert j).mask ≠ mask)
    ∧ (∀ m, freeHostAlert u = some m ↔ 4 ≤ m.1 ∧ (u.alert m).state = .free
        ∧ ∀ j, j < m → 4 ≤ j.1 → (u.alert j).state ≠ .free)
    ∧ (∀ m, let t := mergePark m deadline u; let v := { u with
          alerts := tset u.alerts m { u.alert m with level := .park } }
        ((u.alert m).state = .watch ∨ (u.alert m).state = .releasing → t = enterParking m deadline v)
        ∧ ((u.alert m).state = .parking → t = mergeDeadline m deadline v)
        ∧ ((u.alert m).state = .parked ∨ (u.alert m).state = .free → t = v))
    ∧ (∀ m second, let t := mergeDeadline m second u
        let moved := redecide m { u with alerts := tset u.alerts m { u.alert m with deadline := second } }
        ((u.alert m).deadline ≤ second → t = u)
        ∧ (second < (u.alert m).deadline → u.siteSecond < second → t = moved)
        ∧ (second < (u.alert m).deadline → second ≤ u.siteSecond → t = expireParking m moved))
    ∧ (∀ m, let t := redecide m u
        t.alerts = u.alerts ∧ t.siteSecond = u.siteSecond
        ∧ ∀ r, let b := u.robot r; let speed := (u.robotConfig r).speed
          let late := (u.alert m).member r = .unsecured ∧ b.storm.target = .dock
            ∧ ¬(u.siteSecond < (u.alert m).deadline
              ∧ (b.position * 60 + speed - 1) / speed + u.params.parkMargin ≤ (u.alert m).deadline - u.siteSecond)
          (late → t.robot r = { b with storm :=
                { b.storm with target := .clamp, enRoute := false, acknowledged := false, retry := false } }
              ∧ Commanded t (robotLink r) .clamp .supervisor)
          ∧ (¬late → t.robot r = b ∧ t.entry (robotLink r) = u.entry (robotLink r)))
    ∧ ∀ m seconds, let t := enterReleasing m seconds u
        t = changeAlert m (fun a => { a with
          state := .releasing, holdOff := (u.siteSecond + seconds) % 4294967296 }) u

/-! ### FieldLink (chapter 3) -/

/-- R61, R62, R64, R56: with no turn in progress in RUN and no SETUP request waiting, a turn begins: the urgent head
first, discarding entries for stations not polled; else the next eligible station after the poll cursor; a broadcast
turn sends the broadcast count, which then goes up by 1 (that the frame carries the count before it goes up is the
model's reading, assumption 26), and an addressed turn that carries the pending command counts one more send of it.
R61 to R63: the turn is chosen from the urgent queue past the station entries that are not polled; a poll turn goes to
an eligible station of the poll list, and to the lowest one after the cursor that is eligible in the cycle under way;
with none left in it, the cycle count goes up by 1, modulo 2^16, at each return to the lowest, until one is eligible.
R63: the held entries move behind those queued while there is room, the broadcasts of each record first, in ascending
record, then the station entries in ascending id; those that find no room stay held. -/
def Obligations.TurnBegins : Prop :=
  (∀ s : State, s.resetHeld = false → s.modes.mode = .run → s.modes.setupWaiting = false → s.link.phase = .idle →
      let u := moveHeld { s with agenda := [] }
      let addressed := fun (l : LinkUnit) (i : LinkId) =>
        let e := tget l.entries i
        let sends := e.errorCount < 256 ∧ e.synchronised = true
        { u with link := { l with
          phase := .keyLead
            (match e.command with
            | some p =>
              if sends then
                let q := p.sequence.getD e.sequence
                { station := some i, frame := frameOf i.1 p.cmd.kindByte q p.cmd.payload, sequence := q,
                  sentCommand := some q }
              else { station := some i, frame := frameOf i.1 (if e.errorCount < 256 then 1 else 2) e.sequence [],
                     sequence := e.sequence, sentCommand := none }
            | none => { station := some i, frame := frameOf i.1 (if e.errorCount < 256 then 1 else 2) e.sequence [],
                        sequence := e.sequence, sentCommand := none })
          entries :=
            if sends then tset l.entries i { e with command := e.command.map fun p => { p with sends := p.sends + 1 } }
            else l.entries } }
      (∀ m c k rest, chooseUrgent u u.link.urgent = some (.park m c k, rest) →
        exec .turnStart s = .next (commit s { u with link := { u.link with
          urgent := rest, broadcastCount := u.link.broadcastCount + 1
          phase := .keyLead
            { station := none, frame := frameOf 127 0x20 u.link.broadcastCount [c, k], sequence := u.link.broadcastCount,
              sentCommand := none } } }))
      ∧ (∀ i rest, chooseUrgent u u.link.urgent = some (.station i, rest) →
        exec .turnStart s = .next (commit s (addressed { u.link with urgent := rest } i)))
      ∧ (∀ i cycle, chooseUrgent u u.link.urgent = none →
          nextPoll { u with link := { u.link with urgent := [] } } = some (i, cycle) →
        exec .turnStart s
          = .next (commit s (addressed { u.link with urgent := [], cursor := some i, cycle := cycle } i)))
      ∧ (chooseUrgent u u.link.urgent = none → (∀ i, (u.entry i).inPollList = false) →
        exec .turnStart s = .next (commit s { u with link := { u.link with urgent := [] } })))
  ∧ (∀ u : State,
      (∀ x rest, chooseUrgent u u.link.urgent = some (x, rest) → ∃ skipped, u.link.urgent = skipped ++ x :: rest
        ∧ (∀ y ∈ skipped, ∃ i, y = .station i ∧ (u.entry i).inPollList = false)
        ∧ ∀ i, x = .station i → (u.entry i).inPollList = true)
      ∧ (chooseUrgent u u.link.urgent = none →
          ∀ y ∈ u.link.urgent, ∃ i, y = .station i ∧ (u.entry i).inPollList = false)
      ∧ (∀ i c, nextPoll u = some (i, c) → (u.entry i).inPollList = true ∧ eligible (u.entry i) c = true)
      ∧ ((∃ i, (u.entry i).inPollList = true) → (nextPoll u).isSome = true)
      ∧ (∀ i, (u.entry i).inPollList = true → eligible (u.entry i) u.link.cycle = true →
          (∀ c, u.link.cursor = some c → c < i) →
          (∀ j, j < i → (∀ c, u.link.cursor = some c → c < j) → (u.entry j).inPollList = true →
            eligible (u.entry j) u.link.cycle = false) →
          nextPoll u = some (i, u.link.cycle))
      ∧ (∀ e : LinkEntry, ∀ c, eligible e c = true ↔
          if 256 ≤ e.errorCount then c % 16 = 0
          else if e.doze = true ∧ e.command = none then c % 8 = 0
          else if 128 ≤ e.errorCount then c % 4 = 0 else True)
      ∧ (∀ i n, (u.entry i).inPollList = true → eligible (u.entry i) ((u.link.cycle + n) % 65536) = true → 1 ≤ n →
          (∀ j, (∀ c, u.link.cursor = some c → c < j) → (u.entry j).inPollList = true →
            eligible (u.entry j) u.link.cycle = false) →
          (∀ m, 1 ≤ m → m < n → ∀ j, (u.entry j).inPollList = true →
            eligible (u.entry j) ((u.link.cycle + m) % 65536) = false) →
          (∀ j, j < i → (u.entry j).inPollList = true →
            eligible (u.entry j) ((u.link.cycle + n) % 65536) = false) →
          nextPoll u = some (i, (u.link.cycle + n) % 65536)))
  ∧ ∀ u : State,
      let t := moveHeld u
      let room := 16 - u.link.urgent.length
      let held := fun n => tget u.link.heldBroadcast n
      let before := fun n : AlertIx => (((List.finRange 8).filter fun m => decide (m < n)).map held).sum
      let broadcasts := (List.finRange 8).flatMap fun n =>
        List.replicate (held n) (Urgent.park n (u.alert n).code (u.alert n).mask)
      let marked := (List.finRange 56).filter fun i => (u.entry i).heldUrgent
      t.link.urgent = u.link.urgent ++ (broadcasts ++ marked.map Urgent.station).take room
      ∧ (∀ n, tget t.link.heldBroadcast n = held n - (room - before n))
      ∧ ((List.finRange 56).filter fun i => (t.entry i).heldUrgent) = marked.drop (room - broadcasts.length)
      ∧ (∀ i, t.entry i = { u.entry i with heldUrgent := (t.entry i).heldUrgent })
      ∧ t = { u with link := { u.link with
          urgent := t.link.urgent, heldBroadcast := t.link.heldBroadcast, entries := t.link.entries } }

/-- R53, R61, R77: the key lead gives way to the frame, whose first character goes into the shift register with the
second waiting behind it; at each stop bit the next character follows, so that the n-th character of the frame is sent
after n stop bits; at the frame's last stop bit the key drops, and the reply window of an addressed turn opens; a
taken SETUP request that waited for it is carried out (the model lets either event do so, assumption 14); a broadcast
turn ends after its gap. R59, R61, R68, R74, R75: an addressed turn ends with its reply missed, corrupt or good; a
reply that carries a noise mark counts one more in its station's noise count (a noisy false start counts as the
reply's, also ahead of its first character, the model's choice, assumption 68); a reply of a station that has left the
poll list is dropped (assumption 25). -/
def Obligations.LineEvents : Prop :=
  (∀ (s : State) (t : Turn), s.resetHeld = false →
      let none_ : Transmitter := { shift := none, holding := none, rest := [] }
      let at_ := fun phase tx =>
        commit s { s with agenda := [], link := { s.link with phase := phase, transmitter := tx } }
      (s.link.phase = .keyLead t → exec .keyLeadExpiry s = .next
        (at_ (.sending t) { shift := t.frame[0]?, holding := t.frame[1]?, rest := t.frame.drop 2 }))
      ∧ (s.link.phase = .sending t → ¬(s.modes.mode = .run ∧ s.modes.setupWaiting = true) →
          exec .frameSent s = .next (at_ (if t.station = none then .broadcastGap else .replyWindow t) none_))
      ∧ (s.link.phase = .sending t → s.modes.mode = .run → s.modes.setupWaiting = true →
          exec .frameSent s = .next (commit s (leaveRun { s with agenda := [] })))
      ∧ (s.link.phase = .broadcastGap → exec .broadcastTurnEnd s = .next (at_ .idle s.link.transmitter)))
  ∧ (∀ (frame : List TxChar) (n : Nat), (Transmitter.advance^[n] (Transmitter.load frame)).shift = frame[n]?)
  ∧ (∀ (s : State) (t : Turn) (i : LinkId) (cs : List LineChar), s.resetHeld = false → s.link.phase = .replyWindow t →
      t.station = some i →
      let idle := { s with agenda := [], link := { s.link with phase := .idle } }
      let heard :=
        if replyNoisy cs then
          { idle with link := { idle.link with
            entries := tset s.link.entries i { s.entry i with noise := min 255 ((s.entry i).noise + 1) } } }
        else idle
      ((s.entry i).inPollList = true → exec .replyWindowExpiry s = .next (drain (commit s (badTurn i t idle))))
      ∧ ((s.entry i).inPollList = false → exec .replyWindowExpiry s = .next (commit s idle))
      ∧ (received cs ≠ [] → (s.entry i).inPollList = true →
          exec (.replyLengthLimit cs) s = .next (drain (commit s (badTurn i t heard)))
          ∧ (∀ p, goodPayload i t.sequence (received cs) = some p →
            exec (.replyFrameEnd cs) s = .next (drain (commit s (goodReply i t p heard))))
          ∧ (goodPayload i t.sequence (received cs) = none →
            exec (.replyFrameEnd cs) s = .next (drain (commit s (badTurn i t heard)))))
      ∧ (received cs ≠ [] → (s.entry i).inPollList = false →
          exec (.replyLengthLimit cs) s = .next (commit s idle) ∧ exec (.replyFrameEnd cs) s = .next (commit s idle)))

/-- R65, R66: a command set for a polled station becomes its pending command with 0 sends, and takes the next sequence
where the station is synchronised; the same command of the same owner keeps its sequence and starts its sends again;
another one replaces it, and the owner of the one replaced is told where it differs; a command for a station that is
not polled is reported NO ECHO. R66, R67, R73: a good STATUS whose echo is the pending command's sequence acknowledges
it, the doze flag following a DOZE or a WAKE and the owner being told; at the first good STATUS of a station that is
not synchronised the sequence follows the echo, and a pending command with another sequence takes the next one after
it. R68: a command is checked against the repeat limit at the end of the turn that sent it, after the STATUS of a good
reply has been delivered (the model's choice, assumption 52); at the limit it fails, and its owner is told NO ECHO. -/
def Obligations.PendingCommands : Prop :=
  (∀ (u : State) (i : LinkId) (cmd : Cmd) (owner : Owner),
      let e := u.entry i
      let t := setCommand i cmd owner u
      let entry :=
        if e.synchronised then
          { e with
            sequence := e.sequence + 1
            command := some { cmd := cmd, owner := owner, sequence := some (e.sequence + 1), sends := 0 } }
        else { e with command := some { cmd := cmd, owner := owner, sequence := none, sends := 0 } }
      let fresh := { u with link := { u.link with entries := tset u.link.entries i entry } }
      (e.inPollList = false → t = { u with agenda := u.agenda ++ [.told i owner cmd .noEcho] })
      ∧ (e.inPollList = true → e.command = none → t = fresh)
      ∧ ∀ p, e.inPollList = true → e.command = some p →
          (p.cmd = cmd ∧ p.owner = owner → t = { u with link := { u.link with
            entries := tset u.link.entries i { e with command := some { p with sends := 0 } } } })
          ∧ (¬(p.cmd = cmd ∧ p.owner = owner) → t = { fresh with agenda :=
              if p.owner = owner then u.agenda else u.agenda ++ [.told i p.owner p.cmd (.superseded cmd)] }))
  ∧ (∀ (v : State) (turn : Turn) (i : LinkId) (payload : List Byte), (v.entry i).errorCount < 256 →
      let e := v.entry i
      let w := goodReply i turn payload v
      let echo := if i.1 < 48 then (robotReport payload).echo else (shuttleReport payload).echo
      let acknowledged := fun (p : PendingCommand) => (w.entry i).command = none ∧ (w.entry i).sequence = e.sequence
        ∧ (w.entry i).doze = (match p.cmd with | .doze => true | .wake => false | _ => e.doze)
      let told := match e.command with
        | some p => if p.sequence = some echo then [Job.told i p.owner p.cmd .delivered] else []
        | none => []
      let limit := match turn.sentCommand with | some q => [Job.repeatLimit i q] | none => []
      (∀ p, e.command = some p → p.sequence = some echo → acknowledged p)
      ∧ (∀ p, e.command = some p → p.sequence ≠ some echo → e.synchronised = true →
          (w.entry i).command = some p ∧ (w.entry i).sequence = e.sequence ∧ (w.entry i).doze = e.doze)
      ∧ (∀ p, e.command = some p → p.sequence ≠ some echo → e.synchronised = false →
          (w.entry i).command = some { p with sequence := some (echo + 1) } ∧ (w.entry i).sequence = echo + 1
          ∧ (w.entry i).doze = e.doze)
      ∧ (e.command = none → (w.entry i).command = none ∧ (w.entry i).doze = e.doze
          ∧ (w.entry i).sequence = if e.synchronised then e.sequence else echo)
      ∧ ∃ status, w.agenda = v.agenda ++ told ++ [status] ++ limit
          ∧ ((∃ r, status = .robotStatus r (robotReport payload)
                (energyDifference e.baseline (robotReport payload).meter) ∧ i = robotLink r)
            ∨ ∃ k, status = .shuttleStatus k (shuttleReport payload)
                (energyDifference e.baseline (shuttleReport payload).meter) ∧ i = shuttleLink k))
  ∧ ∀ (u : State) (i : LinkId) (q : Byte),
      (∀ p, (u.entry i).command = some p → p.sequence = some q → u.params.repeatLimit ≤ p.sends →
        handle (.repeatLimit i q) u =
          { u with
            agenda := u.agenda ++ [.told i p.owner p.cmd .noEcho]
            link := { u.link with entries := tset u.link.entries i { u.entry i with command := none } } })
      ∧ ((∀ p, (u.entry i).command = some p → p.sequence = some q → p.sends < u.params.repeatLimit) →
        handle (.repeatLimit i q) u = u)

/-- R68, R70, R71, R72, R75, R76: a bad turn adds 8 to the error counter up to 256, and fails a command whose sends have
reached the repeat limit (before the counter moves, the model's choice, assumption 24); the owner of the failed
command is told NO ECHO, and the planner where the turn has lost a robot's link. R71: a station that becomes LOST has
its recovery count set to 0 and keeps its baseline and a command that has not failed. A good reply takes 1 off it,
and hands the STATUS on with the energy difference against the baseline, which its reading becomes; eight good probes
bring a LOST station back with its counter 0. A change of link state raises LINK STATE. (What a good reply does to the
pending command is in `PendingCommands`.) -/
def Obligations.LinkHealth : Prop :=
  (∀ (v : State) (t : Turn) (i : LinkId),
    let e := v.entry i
    let failed := ∃ p q, e.command = some p ∧ t.sentCommand = some q ∧ p.sequence = some q
      ∧ v.params.repeatLimit ≤ p.sends
    let count := min 256 (e.errorCount + 8)
    let w := badTurn i t v
    let told := match e.command, t.sentCommand with
      | some p, some q =>
        if p.sequence = some q ∧ v.params.repeatLimit ≤ p.sends then [Job.told i p.owner p.cmd .noEcho] else []
      | _, _ => []
    let lost := if h : i.1 < 48 ∧ e.errorCount < 256 ∧ count = 256 then [Job.robotLost ⟨i.1, h.1⟩] else []
    (failed → (w.entry i).command = none) ∧ (¬failed → (w.entry i).command = e.command)
    ∧ w.agenda = v.agenda ++ told ++ lost
    ∧ w.entry i = { e with
        command := (w.entry i).command, errorCount := (w.entry i).errorCount
        recovery := if count = 256 then 0 else e.recovery }
    ∧ w = { v with
        agenda := w.agenda, board := { v.board with notice := w.board.notice }
        link := { v.link with entries := w.link.entries } }
    ∧ (e.errorCount < 256 → (w.entry i).errorCount = count
        ∧ w.board.notice = v.board.notice ||| (if linkStateOf count = linkStateOf e.errorCount then 0#13 else 8#13))
    ∧ (256 ≤ e.errorCount → (w.entry i).errorCount = e.errorCount ∧ (w.entry i).recovery = 0
        ∧ w.board.notice = v.board.notice)
    ∧ ∀ j, j ≠ i → w.entry j = v.entry j)
  ∧ (∀ (v : State) (t : Turn) (i : LinkId) (payload : List Byte),
    let e := v.entry i
    let w := goodReply i t payload v
    (e.errorCount < 256 →
      (w.entry i).errorCount = e.errorCount - 1 ∧ (w.entry i).synchronised = true
      ∧ w.board.notice = v.board.notice
          ||| (if linkStateOf (e.errorCount - 1) = linkStateOf e.errorCount then 0#13 else 8#13)
      ∧ (∀ r : RobotId, i = robotLink r →
          (w.entry i).baseline = some (robotReport payload).meter
          ∧ .robotStatus r (robotReport payload) (energyDifference e.baseline (robotReport payload).meter) ∈ w.agenda)
      ∧ ∀ k : ShuttleIx, i = shuttleLink k →
          (w.entry i).baseline = some (shuttleReport payload).meter
          ∧ .shuttleStatus k (shuttleReport payload) (energyDifference e.baseline (shuttleReport payload).meter)
              ∈ w.agenda)
    ∧ (256 ≤ e.errorCount → e.recovery < 7 →
        w = { v with link := { v.link with entries := tset v.link.entries i { e with recovery := e.recovery + 1 } } })
    ∧ (256 ≤ e.errorCount → 7 ≤ e.recovery →
      w.entry i = { e with errorCount := 0, recovery := 0, doze := false, synchronised := false, baseline := none }
      ∧ w.board.notice = v.board.notice ||| 8#13
      ∧ ∀ r : RobotId, i = robotLink r →
          w.robot r = { v.robot r with placementMark := true, activity := .unknown })
    ∧ ∀ j, j ≠ i → w.entry j = v.entry j)
  ∧ (∀ n, linkStateOf n = if n ≤ 95 then .linked else if n ≤ 127 then .weak else if n ≤ 255 then .mute else .lost)
  ∧ ∀ b reading, b < 16777216 → reading < 16777216 →
      energyDifference none reading = 0
      ∧ energyDifference (some b) reading =
          (if (reading - b : Int) % 16777216 < 8388608 then ((reading - b : Int) % 16777216).toNat else 0)

/-- R51, R52, R54, R55, R57 to R59, R207: a STATUS of the length its station sends, laid out as R54 gives with the
sequence sent, and sent as clean characters, is a good reply with its payload; the layout of one character is a start
bit 0, eight data bits low first, the marker and a stop bit 1. -/
def Obligations.StatusReceived : Prop :=
  ∀ (i : LinkId) (q : Byte) (payload : List Byte),
    (i.1 < 48 ∧ (payload.length = 11 ∨ payload.length = 13) ∨ 48 ≤ i.1 ∧ payload.length = 9) →
    let clean := fun (b : Bool) => ((b, b, b) : Sample)
    let line := (frameOf i.1 0x40 q payload).map fun c => LineChar.mk (c.bits.map clean)
    goodPayload i q (received line) = some payload ∧ replyNoisy line = false
      ∧ ∀ c : TxChar, c.bits = [false, c.value.getLsbD 0, c.value.getLsbD 1, c.value.getLsbD 2, c.value.getLsbD 3,
          c.value.getLsbD 4, c.value.getLsbD 5, c.value.getLsbD 6, c.value.getLsbD 7, c.marker, true]

/-! ### Scanner, instruments and accounts (chapters 4, 5 and 9) -/

/-- R82, R85, R86: a measurement ends: its count, at most the full scale, is kept while its station is still in the
scan; the last one completes the scan. The periodic timer's expiry requests a scan of every used station and runs on
for one interval; the site second has reached the expiry (assumption 4). R83, R84: a request joins the scan-pending
mask where a scan is in flight, and else starts a scan that covers every order held. R86, R87, R90 to R93, R98 to
R100: a scan completes: each station measured is judged by its two counts, saturated, dark or valid, in that order;
the third saturation in a row puts a station in FAULT and sets STATION FAULT; SCAN DONE is set, and the covered orders
leave, answered with the mask of the valid stations and the sample ratios of the named ones. With no DAY CLOSE held
the scan is over, and the stations of the pending mask, if any, start the next; with one held it stays in flight
without a channel until the account unit has been told (the model's split of the completion, assumption 17). (Site
seconds wrap at 2^32 and are compared as they stand, the model's choice, assumption 39.) -/
def Obligations.ScanCompletes : Prop :=
  (∀ s : State, s.resetHeld = false → s.modes.mode = .run →
      (∀ (sc : Scan) (c : Nat) (rest : List Nat) (periods : Nat), s.scanner.scan = some sc → sc.telling = false →
        sc.channels = c :: rest →
        let count := min periods (2 ^ s.params.resolution - 1)
        let owned := ∃ n, maskHas sc.measured n = true ∧ ((s.stationConfig n).clean = c ∨ (s.stationConfig n).soiled = c)
        let raw := if owned then sc.raw ++ [(c, count)] else sc.raw
        let after := { s with agenda := [], scanner := { s.scanner with
          scan := some { sc with channels := rest, raw := raw } } }
        (rest ≠ [] → exec (.measurementEnd periods) s = .next (commit s after))
        ∧ (rest = [] → exec (.measurementEnd periods) s = .next (drain (commit s (completeScan after)))))
      ∧ ∀ due, s.scanner.periodicDue = some due →
        exec .periodicScanTimer s = .next (drain (commit s (requestScan (stationMask fun n => (s.stationConfig n).used)
          { s with
            agenda := [], siteSecond := max s.siteSecond due
            scanner := { s.scanner with
              periodicDue := some ((due + 60 * s.params.scanInterval) % 4294967296) } }))))
  ∧ (∀ (u : State) (mask : Word), let t := requestScan mask u; let m := measuredSet u mask
      (u.scanner.scan ≠ none →
        t = { u with scanner := { u.scanner with pendingMask := u.scanner.pendingMask ||| mask } })
      ∧ (u.scanner.scan = none → t = { u with
          agenda := u.agenda ++ if channelsOf u m = [] then [Job.scanComplete] else []
          scanner := { u.scanner with
            scan := some { requested := mask, measured := m, channels := channelsOf u m, raw := [], telling := false }
            orders := u.scanner.orders.map fun o => { o with covered := true } } }))
  ∧ (∀ (u : State) (sc : Scan), u.scanner.scan = some sc →
      let t := handle .scanComplete u
      let b := u.params.resolution
      (u.farm.closeSlot = none → u.scanner.pendingMask = 0 →
        t.scanner = { u.scanner with scan := none, orders := u.scanner.orders.filter fun o => !o.covered })
      ∧ (∀ n, u.farm.closeSlot = some n → t.scanner = { u.scanner with
          scan := some { sc with channels := [], telling := true }
          orders := u.scanner.orders.filter fun o => !o.covered })
      ∧ (u.farm.closeSlot = none → u.scanner.pendingMask ≠ 0 →
        let m := measuredSet t u.scanner.pendingMask
        t.scanner = { u.scanner with
          pendingMask := 0
          scan := some { requested := u.scanner.pendingMask, measured := m, channels := channelsOf t m, raw := []
                         telling := false }
          orders := (u.scanner.orders.filter fun o => !o.covered).map fun o => { o with covered := true } }
        ∧ t.agenda = u.agenda ++ if channelsOf t m = [] then [Job.scanComplete] else [])
      ∧ t.board.notice.getLsbD 10 = true
      ∧ (∀ o ∈ u.scanner.orders, o.covered = true → (t.slot o.slot).state = .answered)
      ∧ (let full := 2 ^ b - 1
        let clean := fun n => rawCount sc.raw (u.stationConfig n).clean
        let soiled := fun n => rawCount sc.raw (u.stationConfig n).soiled
        let kn := fun n => clean n * 2 ^ (16 - b)
        let cn := fun n => soiled n * 2 ^ (16 - b)
        let valid := fun n => maskHas sc.measured n && decide (clean n ≠ full ∧ soiled n ≠ full
          ∧ u.params.darkFloor ≤ kn n ∧ kn n ≠ 0)
        (t.board.notice.getLsbD 9 = true ↔ u.board.notice.getLsbD 9 = true ∨ ∃ n, maskHas sc.measured n = true
          ∧ (clean n = full ∨ soiled n = full) ∧ 3 ≤ min 255 ((u.station n).saturation + 1)
          ∧ (u.station n).state ≠ .fault)
        ∧ ∀ o ∈ u.scanner.orders, o.covered = true → Memory.wf u.memory = true →
          (∀ o' ∈ u.scanner.orders, o'.covered = true → o'.slot = o.slot → o' = o) →
          let named := (List.finRange 16).filter (maskHas o.mask)
          AnsweredWith t o.slot 1 0
          ∧ (∀ n, maskHas (t.mem (slotBase o.slot + 19)) n = (maskHas o.mask n && valid n))
          ∧ ∀ i, i < 12 → t.mem (slotBase o.slot + 20 + i) =
              match named[i]? with
              | some n =>
                if valid n then word (if kn n < cn n then 32768 else cn n * 32768 / kn n) else 0xFFFF
              | none => 0)
      ∧ ∀ n,
        let x := u.station n
        let k := rawCount sc.raw (u.stationConfig n).clean
        let c := rawCount sc.raw (u.stationConfig n).soiled
        let kn := k * 2 ^ (16 - b)
        let cn := c * 2 ^ (16 - b)
        (maskHas sc.measured n = false → t.station n = x)
        ∧ (maskHas sc.measured n = true → (k = 2 ^ b - 1 ∨ c = 2 ^ b - 1) →
            t.station n = { x with
              saturation := min 255 (x.saturation + 1)
              state := if 3 ≤ min 255 (x.saturation + 1) then .fault else x.state })
        ∧ (maskHas sc.measured n = true → k ≠ 2 ^ b - 1 → c ≠ 2 ^ b - 1 → (kn < u.params.darkFloor ∨ kn = 0) →
            t.station n = { x with saturation := 0, state := if x.state = .ok then .dark else x.state })
        ∧ (maskHas sc.measured n = true → k ≠ 2 ^ b - 1 → c ≠ 2 ^ b - 1 → u.params.darkFloor ≤ kn → kn ≠ 0 →
            let sr := if kn < cn then 32768 else cn * 32768 / kn
            let shift := u.params.filterShift
            t.station n = { x with
              state := .ok, saturation := 0, lastValid := u.siteSecond, fresh := true
              reseed := false
              srf :=
                if x.reseed = true ∨ shift = 0 then sr
                else if x.srf ≤ sr then x.srf + (sr - x.srf + 2 ^ (shift - 1)) / 2 ^ shift
                else x.srf - (x.srf - sr + 2 ^ (shift - 1)) / 2 ^ shift }))

/-- R94, R180, R181: a wiper pulse ends in any mode, and its station takes its remembered state; a falling edge counts
in the window under way; a window ends, the next one runs three seconds on, and one of at most 600 pulses gives the
gust and enters the speeds held. R182, R186: what a window does to its record: PARKING where the gust or the mean
reaches its threshold and the record is FREE, WATCH or RELEASING; RELEASING where a PARKING or PARKED record sees both
fall below theirs; a WATCH record is freed after 100 calm windows; a fault window sets the fault flag and ANEMOMETER
FAULT once, and puts a FREE record in WATCH. (At a pulse's end and a window's end the site second has reached it, the
model's choice, assumption 4.) (Site seconds wrap at 2^32 and are compared as they stand, the model's choice,
assumption 39.) -/
def Obligations.FieldInstruments : Prop :=
  ((∀ (s : State) (n : StationIx) (due : Nat), s.resetHeld = false → (s.station n).pulseEnd = some due →
      exec (.wiperPulseEnd n) s = .next (commit s
        { s with
          agenda := [], siteSecond := max s.siteSecond due
          stations := tset s.stations n { s.station n with state := (s.station n).remembered, pulseEnd := none } }))
    ∧ ∀ (s : State) (a : AnemIx), s.resetHeld = false → s.modes.mode = .run →
      let x := tget s.anemometers a
      (exec (.anemometerPulse a) s = .next (commit s
        { s with agenda := [], anemometers := tset s.anemometers a { x with pulses := x.pulses + 1 } }))
      ∧ ∀ due, x.windowDue = some due →
        let u := { s with
          agenda := [], siteSecond := max s.siteSecond due
          anemometers := tset s.anemometers a { x with pulses := 0, windowDue := some ((due + 3) % 4294967296) } }
        let p := tget s.params.anemometers a
        let speed := x.pulses * p.metres / 300
        let speeds := (speed :: x.speeds).take 200
        let n := anemAlert a
        (600 < x.pulses → exec (.anemometerWindowEnd a) s = .next (drain (commit s (faultWindow n u))))
        ∧ (x.pulses ≤ 600 → exec (.anemometerWindowEnd a) s = .next (drain (commit s
            (windowTransition n p speed (speeds.foldl (· + ·) 0 / speeds.length)
              { u with
                anemometers := tset u.anemometers a
                  { tget u.anemometers a with gust := speed, speeds := speeds }
                alerts := tset u.alerts n { u.alert n with fault := false } })))))
  ∧ (∀ (u : State) (n : AlertIx) (p : AnemometerParams) (gust mean : Nat),
      let parks := p.parkGust ≤ gust ∨ p.parkMean ≤ mean
      let a := u.alert n
      let t := windowTransition n p gust mean u
      let with_ := fun (f : Alert → Alert) => { u with alerts := tset u.alerts n (f a) }
      (a.state ≠ .parking → a.state ≠ .parked → parks → t = enterParking n (later u p.parkDeadline) u)
      ∧ (a.state = .free → ¬parks → t = if p.watchGust ≤ gust then watchAlert n u else u)
      ∧ (a.state = .watch → ¬parks → p.watchGust ≤ gust → t = with_ fun x => { x with calm := 0 })
      ∧ (a.state = .watch → ¬parks → gust < p.watchGust → a.calm + 1 < 100 →
          t = with_ fun x => { x with calm := x.calm + 1 })
      ∧ (a.state = .watch → ¬parks → gust < p.watchGust → 100 ≤ a.calm + 1 →
          t = freeAlert n (with_ fun x => { x with calm := x.calm + 1 }))
      ∧ (a.state = .releasing → ¬parks → t =
          if p.watchGust ≤ gust then with_ fun x => { x with holdOff := later u (60 * p.holdOff) } else u)
      ∧ (a.state = .parking ∨ a.state = .parked → t =
          if mean < p.releaseMean ∧ gust < p.watchGust then
            changeAlert n (fun x => { x with state := .releasing, holdOff := later u (60 * p.holdOff) }) u
          else u)
      ∧ (a.fault = true → faultWindow n u = u)
      ∧ (a.fault = false → (faultWindow n u).board.notice.getLsbD 11 = true ∧ ((faultWindow n u).alert n).fault = true
          ∧ ((faultWindow n u).alert n).state = if a.state = .free then .watch else a.state))

/-- R101, R102, R110 to R112: a pass effect on a row of length at least 1: the loss falls by the efficiency times the
fraction covered, the daily loss follows, and the drop of the daily loss is recovered; the fraction is 256 exactly
where the whole pass was covered, and the pass counts as complete then, as partial otherwise; the row state and the
farm record are marked. R103, R113: an energy difference goes to the pass energy of the farm, and of the pass row
where there is one, while the robot's recorded activity is CLEANING, and to the transit energy otherwise; a surface
reading on the OUT leg sets the pass row's Tr once in a pass. -/
def Obligations.AccountUnit : Prop :=
  (∀ (u : State) (r : RowId) (c : Nat), 1 ≤ (u.site r).length →
      let t := passEffect r c u
      let whole := 2 * (u.site r).length
      let f := min c whole * 256 / whole
      let x := u.row r
      let loss := 32768 - x.tr
      let after := loss - loss * u.params.efficiency * f / 65536
      let y := (u.site r).yield
      let recovered := loss * y / 32768 - after * y / 32768
      t = markRewrite .farm (markRewrite (.row r) { u with
        rows := tset u.rows r { x with
          tr := 32768 - after, daily := after * y / 32768, cumRecovered := min 0xFFFFFFFF (x.cumRecovered + recovered)
          passCount := min 65535 (x.passCount + 1), lastPassEnd := u.siteSecond }
        farm := { u.farm with
          totalRecovered := min 0xFFFFFFFF (u.farm.totalRecovered + recovered)
          completePasses := if whole ≤ c then min 0xFFFFFFFF (u.farm.completePasses + 1) else u.farm.completePasses
          partialPasses := if whole ≤ c then u.farm.partialPasses else min 0xFFFFFFFF (u.farm.partialPasses + 1) } })
      ∧ (f = 256 ↔ whole ≤ c) ∧ f ≤ 256 ∧ after ≤ loss
      ∧ (u.params.efficiency ≤ 255 → loss * u.params.efficiency * f / 65536 ≤ loss))
  ∧ ∀ (u : State) (r : RobotId) (rep : RobotReport) (diff : Nat),
    let t := handle (.accountReport r rep diff) u
    let b := u.robot r
    let add := fun x => min 0xFFFFFFFF (x + diff)
    (b.activity = .cleaning → t.farm = { u.farm with passEnergy := add u.farm.passEnergy })
    ∧ (b.activity ≠ .cleaning →
        t = { u with farm := { u.farm with transitEnergy := add u.farm.transitEnergy } })
    ∧ ∀ p, b.pass = some p → b.activity = .cleaning →
      (t.row p.row).passEnergy = add (u.row p.row).passEnergy
      ∧ (rep.surface = none ∨ rep.leg = .back ∨ b.surfaceTaken = true →
          (t.row p.row).tr = (u.row p.row).tr ∧ t.robots = u.robots)
      ∧ ∀ x, rep.surface = some x → rep.leg = .out → b.surfaceTaken = false →
          (t.row p.row).tr = min x 32768
          ∧ (t.row p.row).daily = (32768 - min x 32768) * (u.site p.row).yield / 32768
          ∧ (t.robot r).surfaceTaken = true

/-! ### Rounds and contexts (chapters 6 and 8) -/

/-- R120, R139, R140: the window end of an ACTIVE round winds it down, and with no grace recalls it in the same event
(assumption 18); the hard end of a WINDING round recalls it. The site second has reached the end (assumption 4). R139,
R140, R151: winding down cancels every queued ROUND request and lets passes run on; a recall ends every pass and marks
its robot for recall and homing, in ascending id; each is sent GOTO DOCK unless it holds a storm target (R196), and a
pass ON RAIL that has covered something, or a resumed one whose context has been released, saves one with cause HARD
END. The close condition is checked after each. R143: a WINDING or RECALLING round closes when no robot has a pass or
a homing mark: every held RECALL is answered with the round's counts, the candidate list, targets and recall marks are
cleared, ROUND END is set, and the round is IDLE; otherwise it stands. -/
def Obligations.RoundStops : Prop :=
  ((∀ s : State, s.resetHeld = false → s.modes.mode = .run →
        (s.round.state = .active →
          let wound := windDown { s with agenda := [], siteSecond := max s.siteSecond s.round.windowEnd }
          (s.round.graceMinutes ≠ 0 → exec .roundWindowEnd s = .next (drain (commit s wound)))
          ∧ (s.round.graceMinutes = 0 → exec .roundWindowEnd s = .next (drain (commit s
              (if (drain wound).round.state = .winding then recallFleet (drain wound) else drain wound)))))
        ∧ (s.round.state = .winding → exec .roundHardEnd s = .next (drain (commit s
            (recallFleet { s with agenda := [], siteSecond := max s.siteSecond s.round.hardEnd })))))
    ∧ (∀ u : State,
        (let t := windDown u;
          t.round = { u.round with state := .winding }
          ∧ (∀ k, (t.shuttle k).queue = (u.shuttle k).queue.filter fun q => decide (q.cls ≠ .round))
          ∧ (∀ r, t.robot r = u.robot r) ∧ ∃ told, t.agenda = told ++ [Job.closeCheck])
        ∧ (let t := recallFleet u;
          t.round.state = .recalling
          ∧ (u.round.state = .active →
              ∀ k, (t.shuttle k).queue = (u.shuttle k).queue.filter fun q => decide (q.cls ≠ .round))
          ∧ (∀ r, (u.robot r).pass ≠ none →
              (t.robot r).pass = none ∧ (t.robot r).recallMark = true ∧ (t.robot r).homingMark = true)
          ∧ (∀ r, (u.robot r).pass = none → t.robot r = u.robot r)
          ∧ let v := { u with round := { u.round with state := .recalling } }
            let x := (List.finRange 48).foldl (fun s r => recallRobot r s)
              (if u.round.state = .active then cancelRoundRequests v else v)
            t = { x with agenda := x.agenda ++ [Job.closeCheck] })
        ∧ ∀ r, let b := u.robot r; let t := recallRobot r u
          (b.pass = none → t = u)
          ∧ ∀ p, b.pass = some p →
            (b.storm.target = .none → Commanded t (robotLink r) .gotoDock .planner)
            ∧ (b.storm.target ≠ .none → t.link = u.link)
            ∧ ∀ c, b.context = none → u.pool.head = some c → u.pool.freeCount ≠ 0 →
              (p.phase = .onRail ∧ ¬(p.kind = .fresh ∧ p.covered = 0) ∨ p.phase = .issued ∧ p.kind ≠ .fresh) →
              (t.robot r).context = some c
              ∧ t.context c =
                { link := none, owner := some r, row := p.row.1, leg := p.furthestLeg, position := p.furthestPosition
                  covered := p.covered, energy := p.energy, roundNumber := u.round.number, cause := .hardEnd
                  saved := u.siteSecond }))
  ∧ ∀ u : State, Memory.wf u.memory = true →
    let ready := (u.round.state = .winding ∨ u.round.state = .recalling)
      ∧ ∀ r, (u.robot r).pass = none ∧ (u.robot r).homingMark = false
    let t := handle .closeCheck u
    (¬ready → t = u)
    ∧ (ready →
        t = { u with
          board := { u.board with
            slots := tabulate fun n =>
              if n ∈ u.round.recalls then { u.slot n with state := .answered, abortRequested := false } else u.slot n
            intake := u.board.intake.filter fun n => decide (n ∉ u.round.recalls)
            notice := u.board.notice ||| (if u.round.recalls = [] then 256#13 else 257#13) }
          memory := t.memory
          round := { u.round with state := .idle, candidates := [], recalls := [] }
          robots := tabulate fun r => { u.robot r with target := none, recallMark := false, homingMark := false } }
        ∧ ∀ n ∈ u.round.recalls,
            t.mem (slotBase n + 16) = (if (u.slot n).abortRequested then 2 else 1) ∧ t.mem (slotBase n + 17) = 0
            ∧ t.mem (slotBase n + 19) = word u.round.started ∧ t.mem (slotBase n + 20) = word u.round.complete
            ∧ t.mem (slotBase n + 21) = word u.round.partialCount ∧ t.mem (slotBase n + 22) = word u.round.assigned)

/-- R127 to R130, R132: an examination gives a free robot at a row that is neither sheltered nor watched its work: its
context's resumption first, else its target row (a disabled one is cleared first; one that CLEAN ROW has put back in
the list leaves it with no row counted as assigned, the model's reading, assumption 48), else its own row where it is
a candidate, else a transfer to the first row of the list that will have it, where the arbiter accepts it (R150); a
robot with none of these is sent DOZE. A robot that is free but for its doze flag is woken where there is work for it.
Outside an ACTIVE round, or while it is held, nothing. (The count of rows assigned has no cap, the model's choice,
assumption 46.) -/
def Obligations.Examinations : Prop :=
  ∀ (u : State) (r : RobotId),
    let t := handle (.examine r) u
    let b := u.robot r
    let block := (u.robotConfig r).block
    let i := robotLink r
    let fresh := fun (row : RowId) => some
      { row := row, kind := PassKind.fresh, phase := PassPhase.issued, covered := 0, furthestLeg := Leg.out,
        furthestPosition := 0, energy := 0 }
    let started := min 65535 (u.round.started + 1)
    let listedLess := fun (row : RowId) => u.round.candidates.filter fun p => decide (p.1 ≠ row)
    let ready := (u.robotConfig r).registered = true ∧ b.activity = .docked
      ∧ u.round.blocks.getLsbD block = true ∧ b.placementMark = false ∧ (∃ row, b.place = .row row)
      ∧ (u.robotLinkState r = .linked ∨ u.robotLinkState r = .weak) ∧ u.params.passReserve ≤ b.soc
      ∧ hasRequest u r = false ∧ b.pass = none ∧ b.noEchoBar = false
    let suits := fun (p : RowId × Bool) => (u.site p.1).block = block
      ∧ (u.row p.1).sheltered = false ∧ (u.row p.1).watch = false ∧ (u.row p.1).occupant = none
      ∧ (p.2 = true ∨ 0 < (u.row p.1).lastScore - (u.params.transferCost : Int))
    let chosen := fun (d : RowId) => ∃ before forced after, u.round.candidates = before ++ (d, forced) :: after
      ∧ suits (d, forced) ∧ ∀ p ∈ before, ¬suits p
    let accepts := fun (d : RowId) (k : ShuttleIx) => shuttleOf u block = some k
      ∧ (u.shuttle k).state ≠ .withdrawn ∧ (u.shuttle k).state ≠ .fault ∧ (u.shuttle k).queue.length < 8
      ∧ (u.site d).present = true ∧ (u.row d).occupant = none ∧ (u.row d).reserved = none ∧ (u.row d).contested = false
    (u.round.state ≠ .active ∨ u.round.held = true → t = u)
    ∧ (isFree u r = true ↔ ready ∧ (u.entry i).doze = false)
    ∧ (¬ready → t = u)
    ∧ ∀ row, u.round.state = .active → u.round.held = false → ready → b.place = .row row →
      ((u.row row).sheltered = true ∨ (u.row row).watch = true → t = u)
      ∧ ((u.row row).sheltered = false → (u.row row).watch = false → (u.entry i).doze = false →
        (∀ c, b.context = some c → let x := u.context c
          t.robot r = { b with
            pass := some
              { row := x.rowId, kind := .resume c, phase := .issued, covered := x.covered, furthestLeg := x.leg
                furthestPosition := x.position, energy := x.energy } }
          ∧ t.round = { u.round with started := started } ∧ Commanded t i (.clean x.rowId x.leg x.position) .planner)
        ∧ (b.context = none → b.target = some row → (u.row row).enabled = true →
          t.robot r = { b with pass := fresh row, target := none, surfaceTaken := false }
          ∧ t.round = { u.round with started := started, candidates := listedLess row }
          ∧ Commanded t i (.clean row .out 0) .planner)
        ∧ (b.context = none → b.target = some row → (u.row row).enabled = false →
          t = handle (.examine r) { u with robots := tset u.robots r { b with target := none } })
        ∧ (b.context = none → b.target ≠ some row → isCandidate u row = true →
          t.robot r = { b with pass := fresh row, surfaceTaken := false }
          ∧ t.round = { u.round with
              started := started, assigned := u.round.assigned + 1, candidates := listedLess row }
          ∧ Commanded t i (.clean row .out 0) .planner)
        ∧ (b.context = none → b.target ≠ some row → isCandidate u row = false →
          (∀ d k, chosen d → accepts d k →
            t = markRewrite (.shuttle k) { u with
              agenda := u.agenda ++ [.startRule k]
              robots := tset u.robots r { b with target := some d }
              rows := tset u.rows d { u.row d with reserved := some r }
              round := { u.round with assigned := u.round.assigned + 1, candidates := listedLess d }
              shuttles := tset u.shuttles k { u.shuttle k with
                queue := (u.shuttle k).queue ++
                  [{ robot := r, source := row, destination := d, cls := .round, origin := none }] } })
          ∧ ((∀ d, chosen d → ∀ k, ¬accepts d k) →
            t.robot r = b ∧ t.round = u.round ∧ t.rows = u.rows ∧ t.shuttles = u.shuttles
            ∧ Commanded t i .doze .planner)))
      ∧ ((u.row row).sheltered = false → (u.row row).watch = false → (u.entry i).doze = true →
        let work := b.context ≠ none ∨ b.target = some row ∧ (u.row row).enabled = true ∨ isCandidate u row = true
          ∨ ∃ d k, chosen d ∧ accepts d k
        (work → t.robots = u.robots ∧ t.round = u.round ∧ t.rows = u.rows ∧ t.shuttles = u.shuttles
          ∧ Commanded t i .wake .planner)
        ∧ (¬work → t = u))

/-- R133 to R137, R140, R171: a report from a robot with a pass: CLEANING puts it on the rail at its row and moves its
coverage forward (a report of CLEANING that names another row still adds its energy to a pass on the rail, the model's
reading, assumption 40; the energy so far stops at 2^32 - 1, the model's choice, assumption 54); DOCKED ends a pass on
the rail, complete from the BACK leg with the full effect on the row (a context that a resumed pass still owns then
stands, the model's choice, assumption 65), and from the OUT leg abandoned with the part covered (by `ContextPool` for
a context still owned); CLAMPED from a robot with no storm target at a row that is not sheltered, and any other
activity that takes the robot off its pass, end it interrupted, with a context taken from the head of the free list.
The NO ECHO bar goes at a report outside a held round, and the recall mark at DOCKED, CLAMPED, HALTED and FAULT. -/
def Obligations.PassReports : Prop :=
  ∀ (u : State) (r : RobotId) (rep : RobotReport) (diff : Nat) (p : Pass),
    let t := handle (.plannerReport r rep diff) u
    let b := u.robot r
    let length := (u.site p.row).length
    let clampEnds := b.storm.target = .none ∧ ∀ x, b.place = .row x → (u.row x).sheltered = false
    b.pass = some p →
    (t.robot r).noEchoBar = (u.round.held && b.noEchoBar)
    ∧ ((t.robot r).recallMark = true ↔ b.recallMark = true ∧ rep.activity ≠ .docked ∧ rep.activity ≠ .clamped
        ∧ rep.activity ≠ .halted ∧ rep.activity ≠ .fault)
    ∧ (rep.activity = .cleaning → b.activity = .cleaning →
        let phase := if rep.row = p.row then .onRail else p.phase
        let m := match b.leg with | .out => b.position | .back => 2 * length - b.position
        let ahead := rep.row = p.row ∧ p.covered < m
        (t.robot r).pass = some { p with
          phase := phase, energy := if phase = .onRail then min 0xFFFFFFFF (p.energy + diff) else p.energy
          covered := if ahead then m else p.covered
          furthestLeg := if ahead then b.leg else p.furthestLeg
          furthestPosition := if ahead then b.position else p.furthestPosition })
    ∧ (rep.activity = .docked → p.phase = .issued → (t.robot r).pass = some p)
    ∧ (rep.activity = .docked → p.phase = .onRail → (t.robot r).pass = none)
    ∧ (rep.activity = .docked → p.phase = .onRail → p.furthestLeg = .out →
        t = endAbandoned r { u with
          agenda := if b.homingMark then u.agenda ++ [.closeCheck] else u.agenda
          robots := tset u.robots r { b with
            noEchoBar := u.round.held && b.noEchoBar, recallMark := false, homingMark := false } })
    ∧ (rep.activity = .docked → p.phase = .onRail → p.furthestLeg = .back →
        (t.robot r).context = b.context ∧ t.pool = u.pool)
    ∧ (rep.activity = .docked → p.phase = .onRail → p.furthestLeg = .back → 1 ≤ length →
        let loss := 32768 - (u.row p.row).tr
        (t.row p.row).tr = 32768 - (loss - loss * u.params.efficiency * 256 / 65536)
        ∧ t.round = { u.round with complete := min 65535 (u.round.complete + 1) })
    ∧ (rep.activity = .docked → p.phase = .onRail → p.furthestLeg = .out → (p.kind = .fresh ∨ b.context = none) →
        1 ≤ length →
        let loss := 32768 - (u.row p.row).tr
        let f := min p.covered (2 * length) * 256 / (2 * length)
        (t.row p.row).tr = 32768 - (loss - loss * u.params.efficiency * f / 65536)
        ∧ t.round =
            if f = 256 then { u.round with complete := min 65535 (u.round.complete + 1) }
            else { u.round with partialCount := min 65535 (u.round.partialCount + 1) })
    ∧ (rep.activity = .clamped → ¬clampEnds → (t.robot r).pass = some p)
    ∧ (rep.activity = .returning ∨ rep.activity = .halted ∨ rep.activity = .fault ∨ rep.activity = .boarding
        ∨ rep.activity = .aboard ∨ rep.activity = .alighting ∨ rep.activity = .clamped ∧ clampEnds →
        (t.robot r).pass = none
        ∧ ∀ c, u.pool.head = some c → u.pool.freeCount ≠ 0 → b.context = none →
          ¬(p.kind = .fresh ∧ (p.phase = .issued ∨ p.covered = 0)) →
          (t.robot r).context = some c ∧ t.pool.head = (u.context c).link
          ∧ t.pool.freeCount = u.pool.freeCount - 1
          ∧ t.context c =
            { link := none, owner := some r, row := p.row.1, leg := p.furthestLeg, position := p.furthestPosition
              covered := p.covered, energy := p.energy, roundNumber := u.round.number, saved := u.siteSecond
              cause :=
                if rep.activity = .returning then
                  if rep.faultCode = 1 then .lowBattery else if rep.faultCode = 0 then .halted else .fault
                else if rep.activity = .halted ∨ rep.activity = .clamped then .halted else .fault })

/-- R133, R175: when a CLEAN is delivered the context of the resumed pass is released (in either phase of the pass,
the model's reading, assumption 49). R133: when a CLEAN fails with NO ECHO its pass ends without effect, a fresh row
being reinserted, and the NO ECHO bar is set (in either phase, assumption 32). R133, R136: when a CLEAN is superseded
its pass ends interrupted with cause STORM; a resumed pass that still owns its context keeps it as it stands (the
model's reading, assumption 57). R71, R136, R143: when a robot's link is lost its pass ends interrupted, a CLEAN still
pending is cleared, and its homing and recall marks go. R131: a transfer that ends has its robot examined; one that
fails or is cancelled clears the robot's target and reinserts the row. R138: rows that become sheltered or watch end
the ISSUED passes on them, and their robots are sent to their docks. R125: a row is reinserted at its score position
behind the forced rows where it qualifies, and the robots of its block are examined. -/
def Obligations.PlannerTold : Prop :=
  (∀ (u : State) (r : RobotId) (row : RowId) (leg : Leg) (position : Nat),
      let b := u.robot r
      let told := fun what => handle (.told (robotLink r) .planner (.clean row leg position) what) u
      let unpassed := { u with robots := tset u.robots r { b with pass := none } }
      ((∀ c p, b.context = some c → b.pass = some p → p.kind = .resume c → told .delivered = freeContext c u)
        ∧ (b.context = none ∨ b.pass = none ∨ (∃ p, b.pass = some p ∧ ∀ c, b.context = some c → p.kind ≠ .resume c) →
            told .delivered = u))
      ∧ (let barred := { u with robots := tset u.robots r { b with noEchoBar := true } }
        let ended := { u with
          agenda := u.agenda ++ [.closeCheck]
          robots := tset u.robots r { b with noEchoBar := true, pass := none } }
        (b.pass = none → told .noEcho = barred)
        ∧ ∀ p, b.pass = some p →
            (p.kind = .fresh → told .noEcho = reinsertRow p.row ended)
            ∧ (p.kind ≠ .fresh → told .noEcho = ended))
      ∧ ∀ by_, let t := told (.superseded by_)
        (b.pass = none → t = u)
        ∧ ∀ p, b.pass = some p → (t.robot r).pass = none
          ∧ (∀ c, b.context = some c → p.kind = .resume c → p.phase = .issued →
              t = { unpassed with agenda := u.agenda ++ [.closeCheck, .examine r] })
          ∧ (p.kind = .fresh → (p.phase = .issued ∨ p.covered = 0) →
              t = { reinsertRow p.row { unpassed with agenda := u.agenda ++ [.closeCheck] } with
                agenda := (reinsertRow p.row { unpassed with agenda := u.agenda ++ [.closeCheck] }).agenda
                  ++ [.examine r] })
          ∧ (∀ c, u.pool.head = some c → u.pool.freeCount ≠ 0 → b.context = none →
              ¬(p.kind = .fresh ∧ (p.phase = .issued ∨ p.covered = 0)) →
              (t.robot r).context = some c ∧ (t.context c).cause = .storm ∧ (t.context c).row = p.row.1
              ∧ (t.context c).covered = p.covered))
  ∧ (∀ (u : State) (r : RobotId), let b := u.robot r; let t := handle (.robotLost r) u
      (t.robot r).pass = none ∧ (t.robot r).homingMark = false ∧ (t.robot r).recallMark = false
      ∧ (b.pass ≠ none → (∃ c, (u.entry (robotLink r)).command = some c ∧ c.owner = .planner ∧ c.cmd.isClean = true) →
          (t.entry (robotLink r)).command = none)
      ∧ (b.pass = none → t = { u with
          agenda := u.agenda ++ [.closeCheck]
          robots := tset u.robots r { b with homingMark := false, recallMark := false } })
      ∧ ∀ p c, b.pass = some p → u.pool.head = some c → u.pool.freeCount ≠ 0 → b.context = none →
          ¬(p.kind = .fresh ∧ (p.phase = .issued ∨ p.covered = 0)) →
          (t.robot r).context = some c ∧ (t.context c).cause = .linkLost)
  ∧ (∀ (u : State) (r : RobotId) (row : RowId),
      let cleared := { u with robots := tset u.robots r { u.robot r with target := none } }
      let t := reinsertRow row cleared
      handle (.transferReport r row .ended) u = handle (.examine r) u
      ∧ ∀ what, what = .failed ∨ what = .cancelled →
          handle (.transferReport r row what) u = { t with agenda := t.agenda ++ [.examine r] })
  ∧ (∀ (u : State) (rows : List RowId), let t := handle (.rowsCovered rows) u
      ∀ r, let covered := ∃ p, (u.robot r).pass = some p ∧ p.phase = .issued ∧ p.row ∈ rows
        (covered → (t.robot r).pass = none ∧ (t.robot r).homingMark = true
          ∧ Commanded t (robotLink r) .gotoDock .planner)
        ∧ (¬covered → t.robot r = u.robot r))
  ∧ ∀ (u : State) (row : RowId),
      let x := u.row row
      let t := reinsertRow row u
      let qualifies := u.round.state = .active ∧ (u.site row).present = true ∧ x.enabled = true ∧ x.contested = false
        ∧ x.reserved = none ∧ (∀ q p, (u.robot q).pass = some p → p.row ≠ row)
        ∧ (∀ o, x.occupant = some o → (u.robot o).context = none) ∧ u.round.leastLoss ≤ 32768 - x.tr ∧ 0 < x.lastScore
        ∧ ∀ p ∈ u.round.candidates, p.1 ≠ row
      let stands := fun (p : RowId × Bool) => p.2 = true ∨ x.lastScore < (u.row p.1).lastScore
        ∨ (u.row p.1).lastScore = x.lastScore ∧ p.1 < row
      (¬qualifies → t = u)
      ∧ (qualifies → ∃ before after, u.round.candidates = before ++ after
          ∧ t = { u with
              agenda := u.agenda ++ [.examineBlock (u.site row).block]
              round := { u.round with candidates := before ++ (row, false) :: after } }
          ∧ (∀ p ∈ before, stands p) ∧ ∀ p rest, after = p :: rest → ¬stands p)

/-- R171, R172: a save for a robot that owns no context takes the record at the head of the free list: it is filled
from the pass, the robot owns it, its row leaves the candidate list, the low mark is checked, and the context record,
the robot record and the farm record are marked. R173: a save that finds the list empty counts as failed and sets POOL
EMPTY. R174: a save for a robot that owns a context updates it: the farther coverage, the greater energy, the latest
cause, round number and second. R175: a release returns the record to the head of the list, arms the low mark again
above it, and marks the same three. R176, R137: an abandonment applies the partial effect of the covered distance to
the row, counts it in the round unless the round is IDLE, releases the record, and ends an ISSUED pass that resumes
it. R137: what ending a pass abandoned does: a fresh pass that has not reached the rail ends unstarted, its row
reinserted (the model's reading, assumption 42); a resumed pass whose context is still owned has the pool abandon it;
any other takes its partial effect at once and is counted in the round; the pass is over and the close condition is
checked. -/
def Obligations.ContextPool : Prop :=
  (∀ (u : State) (q : SaveRequest) (c : CtxIx), (u.robot q.robot).context = none → u.pool.head = some c →
      u.pool.freeCount ≠ 0 →
      let low := u.pool.armed = true ∧ u.pool.freeCount - 1 ≤ u.params.poolLow
      let taken : Context :=
        { link := none, owner := some q.robot, row := q.row.1, leg := q.leg, position := q.position
          covered := q.covered, energy := q.energy, roundNumber := u.round.number, cause := q.cause
          saved := u.siteSecond }
      saveContext q u = (true, markRewrite .farm (markRewrite (.robot q.robot) (markRewrite (.context c)
        { u with
          pool :=
            { u.pool with
              head := (u.context c).link, freeCount := u.pool.freeCount - 1
              armed := if low then false else u.pool.armed
              records := tset u.pool.records c taken }
          robots := tset u.robots q.robot { u.robot q.robot with context := some c }
          round := { u.round with candidates := u.round.candidates.filter fun p => decide (p.1 ≠ q.row) }
          board := { u.board with notice := u.board.notice ||| (if low then 64#13 else 0#13) } }))))
  ∧ (∀ (u : State) (q : SaveRequest), (u.robot q.robot).context = none → u.pool.freeCount = 0 →
      saveContext q u = (false, markRewrite .farm
        { u with
          pool := { u.pool with failedSaves := min 65535 (u.pool.failedSaves + 1) }
          board := { u.board with notice := u.board.notice ||| 128#13 } }))
  ∧ (∀ (u : State) (q : SaveRequest) (c : CtxIx), (u.robot q.robot).context = some c →
      let x := u.context c
      let farther := x.covered < q.covered
      let updated := { x with
        covered := max x.covered q.covered, leg := if farther then q.leg else x.leg
        position := if farther then q.position else x.position, energy := max x.energy q.energy, cause := q.cause
        roundNumber := u.round.number, saved := u.siteSecond }
      saveContext q u = (true, markRewrite (.context c)
        { u with pool := { u.pool with records := tset u.pool.records c updated } }))
  ∧ (∀ (u : State) (c : CtxIx),
      let x := u.context c
      let n := u.pool.freeCount + 1
      let pool := { u.pool with
        head := some c, freeCount := n, armed := u.pool.armed || decide (u.params.poolLow < n)
        records := tset u.pool.records c { x with owner := none, link := u.pool.head } }
      (∀ r, x.owner = some r → freeContext c u = markRewrite (.robot r) (markRewrite .farm (markRewrite (.context c)
        { u with pool := pool, robots := tset u.robots r { u.robot r with context := none } })))
      ∧ (x.owner = none → freeContext c u = markRewrite .farm (markRewrite (.context c) { u with pool := pool })))
  ∧ (∀ (u : State) (c : CtxIx) (r : RobotId),
      let x := u.context c
      let b := u.robot r
      let row := x.rowId
      let length := (u.site row).length
      let t := abandonContext c u
      x.owner = some r → 1 ≤ length →
      let f := min x.covered (2 * length) * 256 / (2 * length)
      let loss := 32768 - (u.row row).tr
      row.1 = x.row % 256
      ∧ (t.row row).tr = 32768 - (loss - loss * u.params.efficiency * f / 65536)
      ∧ t.round = (if u.round.state = .idle then u.round
          else if f = 256 then { u.round with complete := min 65535 (u.round.complete + 1) }
          else { u.round with partialCount := min 65535 (u.round.partialCount + 1) })
      ∧ t.pool = (freeContext c u).pool
      ∧ t.robot r = { b with
          context := none
          pass := match b.pass with
            | some p => if p.kind = .resume c ∧ p.phase = .issued then none else some p
            | none => none })
  ∧ ∀ (u : State) (r : RobotId),
      let b := u.robot r
      let t := endAbandoned r u
      (b.context = none → abandonOwned r u = u)
      ∧ (∀ c, b.context = some c → abandonOwned r u = abandonContext c u)
      ∧ (b.pass = none → t = u)
      ∧ ∀ p, b.pass = some p →
        let ended := fun s : State => { s with
          agenda := s.agenda ++ [.closeCheck], robots := tset s.robots r { s.robot r with pass := none } }
        let whole := 2 * (u.site p.row).length
        let credited := passEffect p.row p.covered (ended u)
        (p.kind = .fresh → p.phase = .issued → t = reinsertRow p.row (ended u))
        ∧ (p.kind = .fresh ∧ p.phase = .onRail ∨ p.kind ≠ .fresh ∧ b.context = none →
          t = { credited with
            round :=
              if min p.covered whole * 256 / whole = 256 then
                { u.round with complete := min 65535 (u.round.complete + 1) }
              else { u.round with partialCount := min 65535 (u.round.partialCount + 1) } })
        ∧ ∀ c, p.kind ≠ .fresh → b.context = some c → t = ended (abandonContext c u)

/-! ### Places and transfers (chapters 2 and 7) -/

/-- R39: a robot's STATUS is recorded whole (the position at most the length of the row it names, a fault code that
differs from the last and is not 0 raising STATION FAULT), then placed or moved by R42 and R44, its activity recorded
(UNKNOWN while its placement mark is set), and the account unit, the planner, the arbiter, the supervisor and the
examination told in that order, a surface reading only from a robot with the sensor. R42: a report from a robot whose
mark is set places it at the row it names where that row is present, in its block and not contested: at its own row
the mark goes, at its own reservation it has arrived, else it leaves its place and is placed (a pass, which no run
leaves it with, ending first, assumption 64). R44: a report from a robot whose mark is clear moves it to the row it
names unless a transfer of it is in service, a pass under way ending first (a contested row moves nobody, the model's
choice, assumption 20). BOARDING, ABOARD and ALIGHTING place nobody. R42, R162: a robot placed at an unoccupied row
becomes its occupant, leaves the row it stood at, and releases another robot's reservation of the row, whose queued
request goes. R43: one placed at an occupied row conflicts with the occupant: both become UNKNOWN with their marks set
and no pass, the row contested, unoccupied and off the list, PLACEMENT CONFLICT set; their contexts are abandoned, the
occupant's first and the reporting robot's last, so that the latter's record heads the free list (the order is the
model's choice, assumption 51). -/
def Obligations.PlacesReported : Prop :=
  (∀ (u : State) (r : RobotId) (rep : RobotReport) (diff : Nat),
      let b := u.robot r
      let site := u.site rep.row
      let v := { u with
        board := { u.board with notice :=
          if rep.faultCode ≠ b.faultCode ∧ rep.faultCode ≠ 0 then u.board.notice ||| 512#13 else u.board.notice }
        robots := tset u.robots r { b with
          lastHeard := u.siteSecond, leg := rep.leg, soc := min 100 rep.soc, meter := rep.meter
          faultCode := rep.faultCode, position := min rep.position (if site.present then site.length else 1023) } }
      let w := if b.placementMark then placeByReport r rep v else moveByReport r rep v
      let told := if (u.robotConfig r).surfaceSensor then rep else { rep with surface := none }
      handle (.robotStatus r rep diff) u = { w with
        agenda := w.agenda ++ [.accountReport r told diff, .plannerReport r told diff, .arbiterReport r told,
          .stormReport r told, .examine r]
        robots := tset w.robots r { w.robot r with
          activity := if (w.robot r).placementMark then .unknown else rep.activity } })
  ∧ (∀ (v : State) (r : RobotId) (rep : RobotReport),
      let b := v.robot r
      let stays := rep.activity = .boarding ∨ rep.activity = .aboard ∨ rep.activity = .alighting
        ∨ (v.site rep.row).present = false ∨ (v.site rep.row).block ≠ (v.robotConfig r).block
        ∨ (v.row rep.row).contested = true
      let goes := fun (s : State) =>
        if (s.row rep.row).reserved = some r then arrive r rep.row s else placeAt r rep.row s
      (stays → placeByReport r rep v = v)
      ∧ (¬stays → placeByReport r rep v =
          if b.place = .row rep.row then { v with robots := tset v.robots r { b with placementMark := false } }
          else goes (endAbandoned r v))
      ∧ (stays ∨ serviceOf v r ≠ none ∨ b.place = .row rep.row → moveByReport r rep v = v)
      ∧ (¬stays → serviceOf v r = none → b.place ≠ .row rep.row → moveByReport r rep v = goes (endAbandoned r v)))
  ∧ ∀ (v : State) (r : RobotId) (row : RowId),
      let t := placeAt r row v
      ((v.row row).occupant = none →
        (t.robot r).place = .row row ∧ (t.robot r).placementMark = false ∧ (t.row row).occupant = some r
        ∧ (∀ x, (v.robot r).place = .row x → x ≠ row → (t.row x).occupant ≠ some r)
        ∧ (∀ k, (v.robot r).place = .shuttle k → (t.shuttle k).carried ≠ some r)
        ∧ ∀ q, (v.row row).reserved = some q → q ≠ r →
            (t.row row).reserved = none ∧ ∀ k, queueOf v q = some k → ∀ y ∈ (t.shuttle k).queue, y.robot ≠ q)
      ∧ ∀ o, (v.row row).occupant = some o → o ≠ r → (v.robot r).place ≠ .row row →
        (t.row row).contested = true ∧ (t.row row).occupant = none ∧ (∀ p ∈ t.round.candidates, p.1 ≠ row)
        ∧ t.board.notice.getLsbD 12 = true
        ∧ (∀ q, q = r ∨ q = o → (t.robot q).place = .unknown ∧ (t.robot q).placementMark = true
            ∧ (t.robot q).activity = .unknown ∧ (t.robot q).pass = none)
        ∧ (PoolLawful v → (t.robot r).context = none ∧ (t.robot o).context = none
            ∧ (∀ c, (v.robot r).context = some c → t.pool.head = some c)
            ∧ ∀ c, (v.robot r).context = none → (v.robot o).context = some c → t.pool.head = some c)

/-- R152, R153: the start rule starts the oldest eligible HOST request of an IDLE shuttle of a block with no sheltered
row, or else the oldest eligible ROUND request, and starts one wherever an eligible one waits: the shuttle drives to
the source row in FETCH, with its deadline by the distance and its speed, and its record is marked. R166, R152: where
a row of a block has stopped being sheltered or watch, its shuttle becomes IDLE, with no deadline, from TO SHELTER and
SHELTERED once no row of the block is sheltered, and its start rule is evaluated. R128: an examination of a block is
one of each of its registered robots in ascending id. (Site seconds wrap at 2^32 and are compared as they stand, the
model's choice, assumption 39.) -/
def Obligations.TransferStarts : Prop :=
  (∀ (u : State) (k : ShuttleIx),
    let t := handle (.startRule k) u
    let x := u.shuttle k
    let c := u.shuttleConfig k
    let ready := x.state = .idle ∧ c.registered = true ∧ blockSheltered u c.block = false
    (¬ready ∨ nextRequest u k = none → t = u)
    ∧ (∀ q, nextRequest u k = some q → ready →
        let road := (u.site q.source).road
        let distance := match x.road with | some p => absDiff p road | none => 4095
        t.shuttle k = { x with
          queue := x.queue.filter fun y => decide (y.robot ≠ q.robot)
          transfer := some
            { robot := q.robot, source := q.source, destination := q.destination, cls := q.cls, origin := q.origin
              stage := .fetch, stranded := false, aborting := none }
          state := .fetch, goAcknowledged := false
          deadline := some ((u.siteSecond + (60 + (120 * distance + c.speed - 1) / c.speed)) % 4294967296) }
        ∧ ((u.entry (shuttleLink k)).inPollList = true → ∃ p, (t.entry (shuttleLink k)).command = some p
            ∧ p.cmd = .shuttleGo road .fetch ∧ p.owner = .arbiter ∧ p.sends = 0)
        ∧ (mirrorOf t (.shuttle k)).pending = true)
    ∧ ((∃ y ∈ x.queue, eligibleRequest u y = true) → (nextRequest u k).isSome = true)
    ∧ (∀ q, nextRequest u k = some q → eligibleRequest u q = true
        ∧ (∃ before after, x.queue = before ++ q :: after
          ∧ ∀ y ∈ before, eligibleRequest u y = true → y.cls ≠ q.cls)
        ∧ (q.cls = .round → ∀ y ∈ x.queue, eligibleRequest u y = true → y.cls = .round))
    ∧ ∀ q, eligibleRequest u q = true ↔
        (u.row q.source).sheltered = false ∧ (u.row q.source).watch = false
        ∧ (u.row q.destination).sheltered = false ∧ (u.row q.destination).watch = false
        ∧ (u.robot q.robot).activity = .docked ∧ (u.robot q.robot).place = .row q.source
        ∧ (u.robot q.robot).placementMark = false ∧ u.robotLinkState q.robot ≠ .lost
        ∧ (q.cls = .host ∨ u.round.held = false))
  ∧ ∀ (u : State) (b : Nat),
      (shuttleOf u b = none → handle (.blockCalmer b) u = u)
      ∧ (∀ k, shuttleOf u b = some k ↔ (u.shuttleConfig k).registered = true ∧ (u.shuttleConfig k).block = b
          ∧ ∀ j, j < k → (u.shuttleConfig j).registered = true → (u.shuttleConfig j).block ≠ b)
      ∧ (blockSheltered u b = true ↔ ∃ r, (u.site r).present = true ∧ (u.site r).block = b ∧ (u.row r).sheltered = true)
      ∧ (∀ k, shuttleOf u b = some k →
        let x := u.shuttle k
        let leaves := (x.state = .toShelter ∨ x.state = .sheltered) ∧ blockSheltered u b = false
        (leaves → handle (.blockCalmer b) u = handle (.startRule k) { u with
            shuttles := tset u.shuttles k { x with state := .idle, deadline := none, goAcknowledged := false } })
        ∧ (¬leaves → handle (.blockCalmer b) u = handle (.startRule k) u))
      ∧ handle (.examineBlock b) u = { u with
          agenda := u.agenda ++ ((List.finRange 48).filter fun r =>
            (u.robotConfig r).registered && (u.robotConfig r).block == b).map Job.examine }

/-- R151, R158 to R161, R166: at the expiry of a shuttle's deadline its stage or shelter drive fails: the shuttle is
in FAULT with an empty queue and no deadline; a transfer in FETCH or BOARD is over and its reservation released, one
in CARRY or ALIGHT stays stranded while its robot is aboard (where a report has taken the robot off the shuttle it is
over as well, the model's reading, assumption 21); in every stage but FETCH the shuttle and the robot are sent HALT,
and a HOST order is answered FAILED with the stage's cause; a robot whose placement mark is set keeps its activity at
a CARRY or ALIGHT failure, the model's reading (assumption 22). The site second has reached the deadline (assumption
4). R154, R155: an end with cause PLACE empties the record, releases the reservation, sends the shuttle HALT and
leaves it IDLE, or on its way to its shelter, with its queue as it was; a HOST order is answered FAILED with cause 6.
R158: what FieldLink tells the arbiter: the acknowledgement of the SHUTTLE GO of the drive under way is noted, its NO
ECHO or supersession fails the stage, as does that of the BOARD, the ALIGHT or the abort's GOTO DOCK of the stage;
anything else does nothing. -/
def Obligations.StageFailures : Prop :=
  (∀ (s : State) (k : ShuttleIx) (due : Nat), s.resetHeld = false → s.modes.mode = .run →
    (s.shuttle k).deadline = some due →
    let u := { s with agenda := [], siteSecond := max s.siteSecond due }
    exec (.stageDeadlineExpiry k) s = .next (drain (commit s
      (if (s.shuttle k).state = .toShelter then enterFault k u else failStage k u))))
  ∧ (∀ (u : State) (k : ShuttleIx), let t := enterFault k u
      t.shuttle k = { u.shuttle k with state := .fault, queue := [], deadline := none, goAcknowledged := false })
  ∧ (∀ (u : State) (k : ShuttleIx) (x : Transfer), (u.shuttle k).inService = some x → Memory.wf u.memory = true →
      let t := failStage k u
      let halted := fun i => Commanded t i .halt .arbiter
      let keeps := (x.stage = .carry ∨ x.stage = .alight) ∧ (u.robot x.robot).place = .shuttle k
      t.shuttle k = { u.shuttle k with
        state := .fault, queue := [], deadline := none, goAcknowledged := false
        transfer := if keeps then some { x with stranded := true, aborting := none } else none }
      ∧ (¬keeps → (t.row x.destination).reserved ≠ some x.robot)
      ∧ (x.stage ≠ .fetch → halted (shuttleLink k) ∧ halted (robotLink x.robot))
      ∧ t.robot x.robot = { u.robot x.robot with
          activity := match x.stage with
            | .fetch => (u.robot x.robot).activity
            | .board => if (u.robot x.robot).activity = .boarding then .halted else (u.robot x.robot).activity
            | .carry | .alight =>
              if (u.robot x.robot).placementMark then (u.robot x.robot).activity else .halted }
      ∧ ∀ n, x.origin = some n → (t.slot n).state = .answered
          ∧ ((∀ q ∈ (u.shuttle k).queue, q.origin ≠ some n) →
              t.mem (slotBase n + 16) = 8 ∧ t.mem (slotBase n + 17) = word x.stage.code))
  ∧ (∀ (u : State) (k : ShuttleIx) (x : Transfer), (u.shuttle k).inService = some x → Memory.wf u.memory = true →
      let t := failPlace k u
      let sheltered := blockSheltered u (u.shuttleConfig k).block
      (t.shuttle k).transfer = none ∧ (t.row x.destination).reserved ≠ some x.robot
      ∧ (t.shuttle k).state = (if sheltered then .toShelter else .idle) ∧ (t.shuttle k).queue = (u.shuttle k).queue
      ∧ Commanded t (shuttleLink k)
          (if sheltered then .shuttleGo (u.shuttleConfig k).shelter .shelter else .halt) .arbiter
      ∧ (sheltered = false → (t.shuttle k).deadline = none ∧ ∃ told, t.agenda = told ++ [.startRule k])
      ∧ ∀ n, x.origin = some n → AnsweredWith t n 8 6)
  ∧ (∀ (u : State) (k : ShuttleIx) (road : Nat) (purpose : Purpose) (what : Told),
      let y := u.shuttle k
      let t := handle (.told (shuttleLink k) .arbiter (.shuttleGo road purpose) what) u
      let driving := purpose = .fetch ∧ y.state = .fetch ∨ purpose = .carry ∧ y.state = .carry
        ∨ purpose = .shelter ∧ y.state = .toShelter
      (¬driving → t = u)
      ∧ (driving → what = .delivered → t = { u with shuttles := tset u.shuttles k { y with goAcknowledged := true } })
      ∧ (driving → what ≠ .delivered → t = if purpose = .shelter then enterFault k u else failStage k u)
      ∧ handle (.told (shuttleLink k) .arbiter .halt what) u = u)
  ∧ ∀ (u : State) (r : RobotId) (k : ShuttleIx) (x : Transfer) (cmd : Cmd) (what : Told),
      serviceOf u r = some k → (u.shuttle k).inService = some x →
      let t := handle (.told (robotLink r) .arbiter cmd what) u
      let staged := x.stage = .board ∧ (cmd = .board k ∨ cmd = .gotoDock ∧ x.aborting ≠ none)
        ∨ x.stage = .alight ∧ cmd = .alight x.destination
      (what = .delivered ∨ ¬staged → t = u) ∧ (what ≠ .delivered → staged → t = failStage k u)

/-- R40: a shuttle's STATUS is recorded (road position at most 4095, a new fault code not 0 raising STATION FAULT) and
its energy booked. R146, R154, R156, R166: a shuttle at rest that reports FAULT or a carried robot enters FAULT; a
drive fails at FAULT or HALTED, one with an empty shuttle also at a carried robot, and completes at the first report
of STOPPED within 1 m of its target after its SHUTTLE GO has been acknowledged: FETCH gives way to BOARD, CARRY to
ALIGHT, a shelter drive to SHELTERED; BOARD and ALIGHT fail at FAULT. R154 to R157, R164: what a robot's report does
to its transfer in service: in FETCH anything but DOCKED at the source ends it with cause PLACE; in BOARD, ABOARD
completes it, DOCKED at the source completes an abort, an arrival at the destination ends it with cause PLACE, and
anything else but BOARDING (or RETURNING under an abort) fails it (HALTED or FAULT at the destination fails it too,
and RETURNING there under an abort changes nothing, the model's choices, assumption 53); in CARRY only DOCKED at the
destination ends it, and in ALIGHT anything but that, ALIGHTING and ABOARD fails it. R155, R157: what a completed
BOARD and an ended transfer leave. (Site seconds wrap at 2^32 and are compared as they stand, the model's choice,
assumption 39.) -/
def Obligations.StageReports : Prop :=
  (∀ (u : State) (k : ShuttleIx) (rep : ShuttleReport) (diff : Nat),
      let x := u.shuttle k
      handle (.shuttleStatus k rep diff) u = actOnShuttle k rep
        { u with
          board := { u.board with notice :=
            if rep.faultCode ≠ x.faultCode ∧ rep.faultCode ≠ 0 then u.board.notice ||| 512#13 else u.board.notice }
          shuttles := tset u.shuttles k { x with road := some (min 4095 rep.road), faultCode := rep.faultCode }
          farm := { u.farm with shuttleEnergy := min 0xFFFFFFFF (u.farm.shuttleEnergy + diff) } })
  ∧ (∀ (v : State) (k : ShuttleIx) (rep : ShuttleReport),
      let x := v.shuttle k
      let t := actOnShuttle k rep v
      let carries := rep.carried ≠ none
      let arrived := fun (target : Nat) => rep.state = .stopped ∧ x.goAcknowledged = true
        ∧ ∃ p, x.road = some p ∧ p ≤ target + 1 ∧ target ≤ p + 1
      let atDock := fun (y : Transfer) (state : ShuttleState) (stage : Stage) =>
        t.shuttle k = { x with
          state := state, goAcknowledged := false, transfer := some { y with stage := stage }
          deadline := some ((v.siteSecond + v.params.boardTimeout) % 4294967296) }
      (x.state = .idle ∨ x.state = .sheltered →
        t = if rep.state = .fault ∨ carries then enterFault k v else v)
      ∧ (x.state = .toShelter →
        (rep.state = .fault ∨ rep.state = .halted ∨ carries → t = enterFault k v)
        ∧ (¬carries → arrived (v.shuttleConfig k).shelter →
            t = { v with shuttles := tset v.shuttles k { x with state := .sheltered, deadline := none } })
        ∧ (rep.state ≠ .fault → rep.state ≠ .halted → ¬carries → ¬arrived (v.shuttleConfig k).shelter → t = v))
      ∧ (x.state = .fault ∨ x.state = .withdrawn → t = v)
      ∧ (∀ y, x.state = .fetch → x.inService = some y →
        (rep.state = .fault ∨ rep.state = .halted ∨ carries → t = failStage k v)
        ∧ (¬carries → arrived (v.site y.source).road →
            atDock y .board .board ∧ Commanded t (robotLink y.robot) (.board k) .arbiter)
        ∧ (rep.state ≠ .fault → rep.state ≠ .halted → ¬carries → ¬arrived (v.site y.source).road → t = v))
      ∧ (∀ y, x.state = .carry → x.inService = some y →
        (rep.state = .fault ∨ rep.state = .halted → t = failStage k v)
        ∧ (arrived (v.site y.destination).road →
            atDock y .alight .alight ∧ Commanded t (robotLink y.robot) (.alight y.destination) .arbiter)
        ∧ (rep.state ≠ .fault → rep.state ≠ .halted → ¬arrived (v.site y.destination).road → t = v))
      ∧ (x.state = .board ∨ x.state = .alight → t = if rep.state = .fault then failStage k v else v))
  ∧ (∀ (u : State) (r : RobotId) (rep : RobotReport) (k : ShuttleIx) (x : Transfer),
      serviceOf u r = some k → (u.shuttle k).inService = some x →
      let t := handle (.arbiterReport r rep) u
      let docked := fun (row : RowId) => rep.activity = .docked ∧ rep.row = row
      let moving := rep.activity = .boarding ∨ rep.activity = .aboard ∨ rep.activity = .alighting
      let arrival := (u.robot r).placementMark = false ∧ rep.row = x.destination ∧ ¬moving
      let stopped := rep.activity = .halted ∨ rep.activity = .fault
      (x.stage = .fetch →
        (docked x.source → t = u)
        ∧ (¬docked x.source → t = if arrival then moveByReport r rep (failPlace k u) else failPlace k u))
      ∧ (x.stage = .board →
        (rep.activity = .aboard → t = leaveSets r (completeBoard k x u))
        ∧ (docked x.source → x.aborting = none → t = u)
        ∧ (∀ d, docked x.source → x.aborting = some d → t = completeAbort k x d u)
        ∧ (rep.activity = .boarding ∨ rep.activity = .returning ∧ x.aborting ≠ none → t = u)
        ∧ (rep.activity ≠ .aboard → ¬docked x.source → rep.activity ≠ .boarding →
            ¬(rep.activity = .returning ∧ x.aborting ≠ none) →
            t = if arrival ∧ ¬stopped then moveByReport r rep (failPlace k u) else failStage k u))
      ∧ (x.stage = .carry → t = if docked x.destination then leaveSets r (endTransfer k x u) else u)
      ∧ (x.stage = .alight → t =
          if docked x.destination then leaveSets r (endTransfer k x u)
          else if rep.activity = .alighting ∨ rep.activity = .aboard then u else failStage k u))
  ∧ (∀ (u : State) (r : RobotId) (rep : RobotReport), serviceOf u r = none →
      handle (.arbiterReport r rep) u =
        match queueOf u r with
        | some k => if rep.activity = .docked then handle (.startRule k) u else u
        | none => u)
  ∧ ∀ (u : State) (k : ShuttleIx) (x : Transfer), (u.shuttle k).inService = some x →
      (let t := completeBoard k x u
        let road := (u.site x.destination).road
        (t.robot x.robot).place = .shuttle k ∧ (t.shuttle k).carried = some x.robot
        ∧ (∀ row, (u.robot x.robot).place = .row row → (t.row row).occupant ≠ some x.robot)
        ∧ (t.shuttle k).state = .carry ∧ (t.shuttle k).transfer = some { x with stage := .carry, aborting := none }
        ∧ (t.shuttle k).deadline = some (later u
            (driveTimeout (driveDistance (u.shuttle k).road road) (u.shuttleConfig k).speed))
        ∧ Commanded t (shuttleLink k) (.shuttleGo road .carry) .arbiter)
      ∧ (Memory.wf u.memory = true →
        let t := endTransfer k x u
        let sheltered := blockSheltered u (u.shuttleConfig k).block
        (t.robot x.robot).place = .row x.destination
        ∧ t.row x.destination = { u.row x.destination with occupant := some x.robot, reserved := none }
        ∧ (t.shuttle k).transfer = none ∧ (t.shuttle k).state = (if sheltered then .toShelter else .idle)
        ∧ ((u.robot x.robot).place = .shuttle k → (t.shuttle k).carried ≠ some x.robot)
        ∧ ∀ n, x.origin = some n →
            AnsweredWith t n (if (u.slot n).abortRequested then 2 else 1) 0
            ∧ t.mem (slotBase n + 19) = word x.destination.1 ∧ t.mem (slotBase n + 20) = word (48 + k.1)
            ∧ t.mem (slotBase n + 21) = lowWord u.siteSecond ∧ t.mem (slotBase n + 22) = highWord u.siteSecond)

/-- R162: where another robot takes the destination of a transfer in service, it ends with cause CONFLICT: in FETCH
the shuttle is sent HALT and becomes IDLE, or TO SHELTER where a row of its block is sheltered; in BOARD it fails as
R160 gives, and in CARRY and ALIGHT as R161 gives. R165: where rows of a block become sheltered, the requests of its
shuttle whose source or destination is sheltered are cancelled and their reservations released; an IDLE shuttle goes
to its shelter, one in FETCH gives its transfer up and goes too, and one in BOARD has its transfer aborted. (That a
further sheltered row cancels also a request whose own row was sheltered before it joined is the model's choice,
assumption 60; that CARRY and ALIGHT leave the record empty, and not stranded, where a report has taken the robot off
the shuttle is the model's choice, assumption 21.) R161: a stranded record ends where its robot arrives at its
reservation, its place then the destination, and where the robot leaves its place otherwise, its reservation released;
the shuttle's state stands. R164, R165: an abort of BOARD completed leaves no transfer and no reservation, and answers
the order ABORTED with the detail kept. -/
def Obligations.TransfersWithdrawn : Prop :=
  (∀ (u : State) (k : ShuttleIx) (x : Transfer), (u.shuttle k).inService = some x → Memory.wf u.memory = true →
      let t := failConflict k u
      let sheltered := blockSheltered u (u.shuttleConfig k).block
      let keeps := (x.stage = .carry ∨ x.stage = .alight) ∧ (u.robot x.robot).place = .shuttle k
      (t.shuttle k).transfer = (if keeps then some { x with stranded := true, aborting := none } else none)
      ∧ (t.shuttle k).state = (if x.stage = .fetch then (if sheltered then .toShelter else .idle) else .fault)
      ∧ (t.shuttle k).queue = (if x.stage = .fetch then (u.shuttle k).queue else [])
      ∧ (x.stage = .fetch → sheltered = false → Commanded t (shuttleLink k) .halt .arbiter)
      ∧ (x.stage ≠ .fetch → Commanded t (shuttleLink k) .halt .arbiter ∧ Commanded t (robotLink x.robot) .halt .arbiter)
      ∧ ∀ n, x.origin = some n → (t.slot n).state = .answered
          ∧ ((∀ q ∈ (u.shuttle k).queue, q.origin ≠ some n) → AnsweredWith t n 8 5))
  ∧ (∀ (u : State) (b : Nat), let t := handle (.rowsSheltered b) u
      (shuttleOf u b = none → t = u)
      ∧ ∀ k, shuttleOf u b = some k →
        let x := u.shuttle k
        let covered := fun (q : Request) => (u.row q.source).sheltered || (u.row q.destination).sheltered
        (t.shuttle k).queue = x.queue.filter (fun q => !covered q)
        ∧ (∀ q ∈ x.queue, covered q = true → (t.row q.destination).reserved ≠ some q.robot)
        ∧ (x.state = .idle → (t.shuttle k).state = .toShelter ∧ (t.shuttle k).transfer = x.transfer
          ∧ Commanded t (shuttleLink k) (.shuttleGo (u.shuttleConfig k).shelter .shelter) .arbiter)
        ∧ (∀ y, x.state = .fetch → x.inService = some y →
          (t.shuttle k).state = .toShelter ∧ (t.shuttle k).transfer = none
          ∧ (t.row y.destination).reserved ≠ some y.robot
          ∧ Commanded t (shuttleLink k) (.shuttleGo (u.shuttleConfig k).shelter .shelter) .arbiter
          ∧ (Memory.wf u.memory = true → ∀ n, y.origin = some n → AnsweredWith t n 3 1))
        ∧ (∀ y, x.state = .board → x.inService = some y →
          (t.shuttle k).state = .board
          ∧ (t.shuttle k).transfer = some { y with aborting := some (y.aborting.getD 1) }
          ∧ (y.aborting = none → Commanded t (robotLink y.robot) .gotoDock .arbiter))
        ∧ (x.state ≠ .idle → x.state ≠ .fetch → x.state ≠ .board →
          (t.shuttle k).state = x.state ∧ (t.shuttle k).transfer = x.transfer))
  ∧ (∀ (u : State) (r : RobotId) (k : ShuttleIx) (x : Transfer), strandedOf u r = some k →
      (u.shuttle k).transfer = some x →
      (serviceOf u r = none →
        let t := arrive r x.destination u
        (t.robot r).place = .row x.destination ∧ (t.robot r).placementMark = false
        ∧ (t.row x.destination).occupant = some r ∧ (t.row x.destination).reserved = none
        ∧ (t.shuttle k).transfer = none ∧ (t.shuttle k).state = (u.shuttle k).state
        ∧ ((u.robot r).place = .shuttle k → (t.shuttle k).carried ≠ some r))
      ∧ let t := leavePlace r u
        (t.robot r).place = .unknown ∧ (t.shuttle k).transfer = none ∧ (t.shuttle k).state = (u.shuttle k).state
        ∧ (t.row x.destination).reserved ≠ some r)
  ∧ ∀ (u : State) (k : ShuttleIx) (x : Transfer) (d : Nat), (u.shuttle k).inService = some x →
      Memory.wf u.memory = true →
      let t := completeAbort k x d u
      (t.shuttle k).transfer = none ∧ (t.row x.destination).reserved ≠ some x.robot
      ∧ (t.shuttle k).state = (if blockSheltered u (u.shuttleConfig k).block then .toShelter else .idle)
      ∧ ∀ n, x.origin = some n → AnsweredWith t n 3 d

/-! ### Storms (chapter 9) -/

/-- R184, R185: whenever an alert record changes, each present row is sheltered exactly while a record in PARKING,
PARKED or RELEASING matches it, and watched exactly while one in WATCH does; STORM is set exactly when the summary
changes. The blocks told: the planner of the rows newly sheltered or watch (R138), the shuttle of each block with a row
newly sheltered (R165), the supervisor of the rows that have stopped being sheltered (R198), and the shuttle and the
robots of each block with a row that has stopped being sheltered or watch (R166, R128), in this order, which is the
model's choice (assumption 13). R198: a release mark goes where the robot's row becomes sheltered again. -/
def Obligations.AlertFlags : Prop :=
  ∀ (u : State) (n : AlertIx) (f : Alert → Alert),
    let t := changeAlert n f u
    (∀ m, t.alert m = if m = n then f (u.alert n) else u.alert m)
    ∧ (∀ r, t.row r = { u.row r with sheltered := (t.row r).sheltered, watch := (t.row r).watch })
    ∧ (∀ r, (t.row r).sheltered = true ↔ (u.site r).present = true ∧ ∃ m,
        ((t.alert m).state = .parking ∨ (t.alert m).state = .parked ∨ (t.alert m).state = .releasing)
        ∧ (BitVec.ofNat 8 r.1 ^^^ (t.alert m).code) &&& (t.alert m).mask = 0)
    ∧ (∀ r, (t.row r).watch = true ↔ (u.site r).present = true ∧ ∃ m, (t.alert m).state = .watch
        ∧ (BitVec.ofNat 8 r.1 ^^^ (t.alert m).code) &&& (t.alert m).mask = 0)
    ∧ t.board.notice = u.board.notice ||| (if stormSummary t = stormSummary u then 0#13 else 16#13)
    ∧ (let sheltered := fun r => (t.row r).sheltered && !(u.row r).sheltered
      let watched := fun r => (t.row r).watch && !(u.row r).watch
      let released := fun r => !(t.row r).sheltered && (u.row r).sheltered
      let unwatched := fun r => !(t.row r).watch && (u.row r).watch
      let covered := (List.finRange 256).filter fun r => sheltered r || watched r
      let free := (List.finRange 256).filter released
      let blocks := fun f : RowId → Bool => (List.range 8).filter fun b =>
        decide (∃ r, f r = true ∧ (u.site r).present = true ∧ (u.site r).block = b)
      t.agenda = u.agenda ++ ((if covered = [] then [] else [.rowsCovered covered])
        ++ (blocks sheltered).map Job.rowsSheltered ++ (if free = [] then [] else [.rowsReleased free])
        ++ (blocks fun r => released r || unwatched r).flatMap fun b => [.blockCalmer b, .examineBlock b])
      ∧ (∀ r, t.robot r =
        if ∃ row, (u.robot r).place = .row row ∧ sheltered row = true then
          { u.robot r with storm := { (u.robot r).storm with release := false } }
        else u.robot r)
      ∧ t = { u with
          agenda := t.agenda, rows := t.rows, robots := t.robots, alerts := t.alerts
          board := { u.board with notice := t.board.notice } })
    ∧ ∀ v : State, ∀ x : StormSummary,
        stormSummary v = x ↔ (∃ m, (v.alert m).state.summary = x) ∧ ∀ m, (v.alert m).state.summary.code ≤ x.code

/-- R191, R192: what entering PARKING does: the record's deadline is set and its set is the robots that stand at its
rows CLEANING, RETURNING or CLAMPED, of whom those clamped under an earlier shelter count as secured at once (in this
record alone, the model's choice, assumption 58); it is PARKED at once where all are; three PARK broadcasts are queued
where there is room; passes on the rail at its rows end. R192: a member keeps a target of CLAMP that another record
gave it; else its target is DOCK where its travel to the dock, at its speed and with the margin, ends by the deadline,
and CLAMP where not. Steps 4 and 5: a member whose target is new is sent its command and pushed into the urgent queue;
one whose target stands is sent nothing (the model's reading, assumption 27). (Site seconds wrap at 2^32 and are
compared as they stand, the model's choice, assumption 39.) -/
def Obligations.ParkingEntered : Prop :=
  ∀ (u : State) (n : AlertIx) (deadline : Nat),
    let t := enterParking n deadline u
    let member := fun r => standsIn u n r && ((u.robot r).activity == .cleaning || (u.robot r).activity == .returning
      || (u.robot r).activity == .clamped)
    let secured := fun r => (u.robot r).activity == .clamped
      && match (u.robot r).row? with | some x => (u.row x).sheltered | none => false
    (t.alert n).deadline = deadline ∧ (t.alert n).late = 0
    ∧ (t.alert n).code = (u.alert n).code ∧ (t.alert n).mask = (u.alert n).mask
    ∧ (∀ r, (t.alert n).member r = if member r then (if secured r then .secured else .unsecured) else .out)
    ∧ (t.alert n).toSecure = ((List.finRange 48).filter member).length
    ∧ (t.alert n).secured = ((List.finRange 48).filter fun r => member r && secured r).length
    ∧ (t.alert n).state = (if (t.alert n).secured = (t.alert n).toSecure then .parked else .parking)
    ∧ (u.link.urgent.length ≤ 13 → (t.link.urgent.drop u.link.urgent.length).take 3
        = List.replicate 3 (.park n (u.alert n).code (u.alert n).mask))
    ∧ (∀ r, standsIn u n r = true → (u.robot r).activity = .cleaning → (u.robot r).passOnRail = true →
        (t.robot r).pass = none)
    ∧ ∀ r, member r = true →
        let b := u.robot r
        let others := ∃ m, m ≠ n ∧ (u.alert m).member r ≠ .out
        let before := if others then b.storm.target else .none
        let speed := (u.robotConfig r).speed
        let target : StormTarget :=
          if before = .clamp then .clamp
          else if u.siteSecond < deadline
              ∧ (b.position * 60 + speed - 1) / speed + u.params.parkMargin ≤ deadline - u.siteSecond then .dock
          else .clamp
        (secured r = true ∨ before = target → (t.entry (robotLink r)).command = (u.entry (robotLink r)).command)
        ∧ (secured r = false → (t.robot r).storm.target = target)
        ∧ (secured r = false → before ≠ target →
            Commanded t (robotLink r) (if target = .clamp then .clamp else .gotoDock) .supervisor
            ∧ Urged t (robotLink r))

/-- R182, R189, R194, R197: the deadline of a PARKING record leaves it PARKED with its unsecured members late, PARK
LATE set, its held order FAILED with their number and the record's index and counts as results, and each of them with
target CLAMP, the command set and an urgent entry pushed; the hold-off of a RELEASING record leaves it FREE, or WATCH
where its anemometer is in fault (with no set and a calm count of 0, the model's reading, assumption 28). The site
second has reached the deadline (assumption 4). -/
def Obligations.StormExpiries : Prop :=
  (∀ (s : State) (n : AlertIx), s.resetHeld = false → s.modes.mode = .run →
    let at_ := fun (t : Nat) => { s with agenda := [], siteSecond := max s.siteSecond t }
    ((s.alert n).state = .parking →
      exec (.parkDeadlineExpiry n) s = .next (drain (commit s (expireParking n (at_ (s.alert n).deadline)))))
    ∧ ((s.alert n).state = .releasing → exec (.holdOffExpiry n) s = .next (drain (commit s
        (if (s.alert n).fault then watchAlert n (at_ (s.alert n).holdOff) else freeAlert n (at_ (s.alert n).holdOff))))))
  ∧ (∀ (u : State) (n : AlertIx),
      let late := (List.finRange 48).filter fun r => decide ((u.alert n).member r = .unsecured)
      let t := expireParking n u
      late ≠ [] →
        (t.alert n).state = .parked ∧ (t.alert n).late = late.length ∧ (t.alert n).heldSlot = none
        ∧ t.board.notice.getLsbD 5 = true
        ∧ (∀ slot, (u.alert n).heldSlot = some slot → (t.slot slot).state = .answered
            ∧ (Memory.wf u.memory = true → AnsweredWith t slot 8 late.length
              ∧ t.mem (slotBase slot + 19) = word n.1 ∧ t.mem (slotBase slot + 20) = word (u.alert n).toSecure
              ∧ t.mem (slotBase slot + 21) = word (u.alert n).secured))
        ∧ ∀ r ∈ late, (t.robot r).storm.target = .clamp ∧ Commanded t (robotLink r) .clamp .supervisor
            ∧ Urged t (robotLink r))
  ∧ ∀ (u : State) (n : AlertIx),
      (let t := watchAlert n u;
        (t.alert n).state = .watch ∧ (t.alert n).calm = 0 ∧ ∀ r, (t.alert n).member r = .out)
      ∧ let t := freeAlert n u
        (t.alert n).state = .free ∧ (t.alert n).heldSlot = none ∧ tget t.link.heldBroadcast n = 0
        ∧ ∀ r, (t.alert n).member r = .out

/-- R196: what FieldLink tells the supervisor: a GOTO DOCK delivered is noted, a command failed or superseded is set
again at the robot's next report. R193: a report of DOCKED, or of CLAMPED where the robot was to clamp or had turned
home, meets its target: it is counted secured in every record where it is not yet, and a PARKING record whose members
are all secured becomes PARKED. R198: DOCKED, HALTED and FAULT end a release. R193: RETURNING after the
acknowledgement has the robot on its way home. R196: a command to be set again is set (also where this report itself
has had the arbiter supersede it, the model's choice, assumption 62). R195: a robot that reports CLEANING or RETURNING
at a row of a sheltering record of whose set it is no member joins the set, a pass on the rail there ending; its
target is the record's (CLAMP where the record is past PARKING), its command is set and an urgent entry pushed at
every join. (A robot whose placement mark is set joins none, the model's reading, assumption 41; where another record
has given it that target already its marks stand, the model's reading, assumption 59; several records are joined in
ascending record, the model's choice, assumption 63. The robots to secure and the robots secured go up by 1, and stop at
48, the top of their range in R183, the model's choice, assumption 69.) R198: rows released send each CLAMPED robot placed there to its
dock. (Site seconds wrap at 2^32 and are compared as they stand, the model's choice, assumption 39.) -/
def Obligations.StormReports : Prop :=
  (∀ (u : State) (r : RobotId) (cmd : Cmd),
      let b := u.robot r
      let marked := fun (m : StormMarks) => { u with robots := tset u.robots r { b with storm := m } }
      let told := fun what => handle (.told (robotLink r) .supervisor cmd what) u
      told .delivered = (if cmd = .gotoDock then marked { b.storm with acknowledged := true } else u)
      ∧ told .noEcho = marked { b.storm with retry := true }
      ∧ ∀ by_, told (.superseded by_) = marked { b.storm with retry := true })
  ∧ (∀ (u : State) (r : RobotId) (rep : RobotReport),
      let t := handle (.stormReport r rep) u
      let b := u.robot r
      let i := robotLink r
      let a := rep.activity
      let unsecured := fun n => (u.alert n).member r = .unsecured
      let meets := b.storm.target ≠ .none ∧ (a = .docked ∨ a = .clamped ∧ (b.storm.target = .clamp ∨ b.storm.enRoute = true))
      let joins := fun (n : AlertIx) => (a = .cleaning ∨ a = .returning) ∧ b.placementMark = false
        ∧ ((u.alert n).state = .parking ∨ (u.alert n).state = .parked ∨ (u.alert n).state = .releasing)
        ∧ (∃ x, b.place = .row x ∧ (BitVec.ofNat 8 x.1 ^^^ (u.alert n).code) &&& (u.alert n).mask = 0)
        ∧ (u.alert n).member r = .out
      (∀ n, unsecured n → meets →
        (t.alert n).member r = .secured ∧ (t.alert n).secured = min 48 ((u.alert n).secured + 1)
        ∧ (t.alert n).toSecure = (u.alert n).toSecure
        ∧ ((u.alert n).state = .parking → min 48 ((u.alert n).secured + 1) = (u.alert n).toSecure →
            (t.alert n).state = .parked ∧ (t.alert n).heldSlot = none))
      ∧ ((∃ n, unsecured n) → meets → a = .clamped → (t.robot r).storm.target = .clamp)
      ∧ (∀ n, unsecured n → ¬meets → t.alert n = u.alert n)
      ∧ (a = .docked ∨ a = .halted ∨ a = .fault → (t.robot r).storm.release = false)
      ∧ ((∀ n, ¬joins n) → a = .returning → b.storm.target = .dock → b.storm.acknowledged = true →
          (t.robot r).storm.enRoute = true)
      ∧ ((∀ n, ¬joins n) → b.storm.retry = true → (∃ n, unsecured n) → ¬meets →
          Commanded t i (if b.storm.target = .clamp then .clamp else .gotoDock) .supervisor
          ∧ (t.robot r).storm.retry = false)
      ∧ (b.storm.retry = true → (∀ n, ¬unsecured n) → b.storm.release = true → a = .clamped →
          Commanded t i .gotoDock .supervisor ∧ (t.robot r).storm.retry = false)
      ∧ (∀ n, joins n →
          (t.alert n).member r = .unsecured ∧ (t.alert n).toSecure = min 48 ((u.alert n).toSecure + 1)
          ∧ (t.alert n).secured = (u.alert n).secured ∧ Urged t i
          ∧ Commanded t i (if (t.robot r).storm.target = .clamp then .clamp else .gotoDock) .supervisor
          ∧ (t.robot r).storm.target ≠ .none ∧ ((u.alert n).state ≠ .parking → (t.robot r).storm.target = .clamp)
          ∧ (b.activity = .cleaning → ∀ p, b.pass = some p → p.phase = .onRail → b.place = .row p.row →
              (t.robot r).pass = none))
      ∧ ∀ n, joins n → (∀ m, joins m → m = n) → (u.alert n).state = .parking →
          let speed := (u.robotConfig r).speed
          let deadline := (u.alert n).deadline
          (t.robot r).storm.target =
            if b.storm.target = .clamp then .clamp
            else if u.siteSecond < deadline
                ∧ (b.position * 60 + speed - 1) / speed + u.params.parkMargin ≤ deadline - u.siteSecond then .dock
            else .clamp)
  ∧ ∀ (u : State) (rows : List RowId), let t := handle (.rowsReleased rows) u
      ∀ r, let b := u.robot r
        let released := b.activity = .clamped ∧ ∃ x, b.place = .row x ∧ x ∈ rows
        (released → t.robot r = { b with storm := { b.storm with release := true, retry := false } }
          ∧ Commanded t (robotLink r) .gotoDock .supervisor)
        ∧ (¬released → t.robot r = b ∧ t.entry (robotLink r) = u.entry (robotLink r))

/-! ### What every command keeps -/

/-- R1, R2, R4: every command keeps the memory in its canonical form and leaves the queue of waiting commands alone,
and leaves no notice between blocks undelivered (the model's own fields, assumptions 5, 12 and 31). No command of the
part writes a host-written word: only a host write of that word, or power, changes one; the words that a rewrite in
progress holds are never host-written. -/
def Obligations.MemoryKept : Prop :=
  (∀ (c : Instr) (s t : State), exec c s = .next t →
      (Memory.wf s.memory = true → Memory.wf t.memory = true) ∧ t.pending = s.pending
      ∧ (s.agenda = [] → t.agenda = []))
  ∧ ∀ (c : Instr) (s t : State), exec c s = .next t → RewritesLawful s →
    RewritesLawful t
    ∧ ∀ a, Memory.wf s.memory = true → hostWritten a = true → c ≠ .powerOnReset → (∀ v, c ≠ .hostMemoryWrite a v) →
        t.mem a = s.mem a

/-- R6, R8, R14: every command keeps the order board lawful: the intake queue holds HELD slots, each once, and an
abort request is recorded only for a slot that is HELD and taken. R97, R101: every command keeps each Tr, SRf and Ts
at most 1.0. R63, R70, R72, R74: and the counters of the FieldLink tables and the urgent queue in their ranges.
R123, R147: every command keeps the candidate list free of repeats, with forced rows first, and every request queue at
8 requests or fewer. (Which rows the list may hold is in `PoolKept`.) R183: every command keeps the robots to secure,
the robots secured and the late count of every alert record at 48 or fewer (that the first two stop at 48 is the model's
choice, assumption 69). -/
def Obligations.BoundsKept : Prop :=
  (∀ (c : Instr) (s t : State), exec c s = .next t → BoardLawful s.board → BoardLawful t.board)
  ∧ (∀ (c : Instr) (s t : State), exec c s = .next t →
      (RatiosBounded s → RatiosBounded t) ∧ (LinkLawful s.link → LinkLawful t.link))
  ∧ (∀ (c : Instr) (s t : State), exec c s = .next t →
      (ListLawful s.round.candidates → ListLawful t.round.candidates) ∧ (QueuesLawful s → QueuesLawful t))
  ∧ ∀ (c : Instr) (s t : State), exec c s = .next t → AlertsLawful s → AlertsLawful t

/-- R168, R169: every command keeps the context pool lawful: the free list holds exactly the records without an owner,
each once, with the free count its length, and a robot's context index names the record that it owns. R123, R168,
R171: where places and the pool are lawful, every command keeps the planner's work lawful: the row of a pass and the row
of an owned context are their robot's place row; a robot with a transfer request, or WITHDRAWN, has neither; in IDLE
there is no pass and the list is empty; the candidate list never holds a row that is disabled, contested or reserved, a
pass row, or one whose occupant owns a context. -/
def Obligations.PoolKept : Prop :=
  (∀ (c : Instr) (s t : State), exec c s = .next t → PoolLawful s → PoolLawful t)
  ∧ ∀ (c : Instr) (s t : State), exec c s = .next t → PlacesLawful s → PoolLawful s → WorkLawful s → WorkLawful t

/-- R115: only power takes a cumulative account back: every other command leaves each row's and the farm's accounts as
they were or adds to them, and never past the largest value of the field; a pin or soft reset, a RUN entry and a SETUP
request, apart from the clearing of the silent flag that a write brings with it, leave them as they stood. -/
def Obligations.AccountsKept : Prop :=
  ∀ (c : Instr) (s t : State), exec c s = .next t →
    (c ≠ .powerOnReset → AccountsGrow s t)
    ∧ (c = .powerOnReset → AccountsZero t)
    ∧ (c = .pinResetAssert ∨ c = .pinResetRelease ∨ c.softResets ∨ c = .runEntryChecks ∨ c = .setupAtFrameEnd
        ∨ (s.board.silent = false ∧ ∃ page, c = .setupRequest page) → AccountsStand s t)

/-- R20, R31 to R35, R77: the mode changes only from SETUP to CHECKING by a CONTROL write, from CHECKING by the end of
the checks, from RUN to SETUP by a CONTROL write or the end of the frame that a taken request waits for, and to SETUP
by a reset. R16: a notice bit, once set, is cleared only by a write to NOTICE or a reset. -/
def Obligations.ModesAndNoticesKept : Prop :=
  ∀ (c : Instr) (s t : State), exec c s = .next t →
    (t.modes.mode = s.modes.mode ∨ c.mayReset ∧ t.modes.mode = .setup ∨ c.ModeMove s.modes.mode t.modes.mode)
    ∧ (¬c.mayReset → ¬c.writes .notice → ∀ i, s.board.notice.getLsbD i = true → t.board.notice.getLsbD i = true)

/-- R4: whatever a command does, a mirror whose master it has changed is marked when it is done, and a mark goes only
at the start of a rewrite of that mirror. R3: a change count moves only where a rewrite of its mirror begins or ends,
or at a reset. (What counts as a change is assumption 11.) -/
def Obligations.MarksKept : Prop :=
  ∀ (c : Instr) (s t : State) (m : MirrorId), exec c s = .next t →
    ((mirrorImage s m ≠ mirrorImage t m ∨ (∃ n, m = .station n ∧ (s.station n).lastValid ≠ (t.station n).lastValid)
        ∨ m = .farm ∧ s.round.assigned ≠ t.round.assigned) → (mirrorOf t m).pending = true)
    ∧ ((mirrorOf s m).pending = true → (mirrorOf t m).pending = true ∨ c = .mirrorRewriteStart m)
    ∧ (¬c.mayReset → c ≠ .mirrorRewriteStart m → c ≠ .mirrorRewriteEnd m →
        (mirrorOf t m).count = (mirrorOf s m).count)

/-- R41, R46, R145, R147, R161: every command keeps places, reservations and transfers lawful: a row's occupant and a
shuttle's carried robot are placed there, a robot in one place only; a row never carries a reservation while it is
some robot's place; a reservation stands exactly for a request or a transfer of its robot to that row; a robot has one
request at most; a shuttle's state names the stage of its transfer, and it carries nobody but the robot of the
transfer it carries out, or in FAULT the one that a failure left aboard; a WITHDRAWN robot is unplaced and has no
request. -/
def Obligations.PlacesKept : Prop :=
  ∀ (c : Instr) (s t : State), exec c s = .next t → PlacesLawful s → PlacesLawful t

/-- The state after power-on has the properties that every command keeps. -/
def Obligations.ResetIsLawful : Prop :=
  Memory.wf State.reset.memory = true ∧ BoardLawful State.reset.board ∧ RatiosBounded State.reset
  ∧ LinkLawful State.reset.link ∧ ListLawful State.reset.round.candidates ∧ QueuesLawful State.reset
  ∧ PoolLawful State.reset ∧ RewritesLawful State.reset ∧ State.reset.agenda = []
  ∧ PlacesLawful State.reset ∧ WorkLawful State.reset ∧ AlertsLawful State.reset
end

