-- ==== Sys2Proof/Laws/State.lean ====
section
/-!
SUPPORT. One lemma per field for the updates of State that the machine is built from, the laws of tables, and the laws
of the exchange memory.
-/

namespace Sys2Proof

/-! ### Tables -/

variable {α : Type} {n : Nat}

@[simp] theorem tget_tset_self (v : Table n α) (i : Fin n) (x : α) : tget (tset v i x) i = x := by
  simp [tget, tset]

theorem tget_tset (v : Table n α) (i j : Fin n) (x : α) : tget (tset v i x) j = if j = i then x else tget v j := by
  unfold tget tset
  by_cases h : j = i
  · subst h; simp
  · have hne : i.1 ≠ j.1 := fun hh => h (Fin.ext hh.symm)
    simp [h, hne]

@[simp] theorem tget_tset_ne (v : Table n α) {i j : Fin n} (h : j ≠ i) (x : α) : tget (tset v i x) j = tget v j := by
  rw [tget_tset, if_neg h]

@[simp] theorem tget_tabulate (f : Fin n → α) (i : Fin n) : tget (tabulate f) i = f i := by
  simp [tget, tabulate]

@[simp] theorem tget_tfill (x : α) (i : Fin n) : tget (tfill n x) i = x := by
  simp [tget, tfill]

theorem table_ext {v w : Table n α} (h : ∀ i, tget v i = tget w i) : v = w := by
  apply Vector.ext
  intro i hi
  exact h ⟨i, hi⟩

end Sys2Proof

namespace Sys2Proof.Machine

variable (s : State)

/-! ### modRow -/
@[simp] theorem modRow_pending (i : RowId) (f : Row → Row) : (modRow i f s).pending = s.pending := rfl
@[simp] theorem modRow_freeCount (i : RowId) (f : Row → Row) : (modRow i f s).freeCount = s.freeCount := rfl
@[simp] theorem modRow_agenda (i : RowId) (f : Row → Row) : (modRow i f s).agenda = s.agenda := rfl
@[simp] theorem modRow_resetHeld (i : RowId) (f : Row → Row) : (modRow i f s).resetHeld = s.resetHeld := rfl
@[simp] theorem modRow_siteSecond (i : RowId) (f : Row → Row) : (modRow i f s).siteSecond = s.siteSecond := rfl
@[simp] theorem modRow_board (i : RowId) (f : Row → Row) : (modRow i f s).board = s.board := rfl
@[simp] theorem modRow_memory (i : RowId) (f : Row → Row) : (modRow i f s).memory = s.memory := rfl
@[simp] theorem modRow_mirrors (i : RowId) (f : Row → Row) : (modRow i f s).mirrors = s.mirrors := rfl
@[simp] theorem modRow_modes (i : RowId) (f : Row → Row) : (modRow i f s).modes = s.modes := rfl
@[simp] theorem modRow_plant (i : RowId) (f : Row → Row) : (modRow i f s).plant = s.plant := rfl
@[simp] theorem modRow_robots (i : RowId) (f : Row → Row) : (modRow i f s).robots = s.robots := rfl
@[simp] theorem modRow_shuttles (i : RowId) (f : Row → Row) : (modRow i f s).shuttles = s.shuttles := rfl
@[simp] theorem modRow_stations (i : RowId) (f : Row → Row) : (modRow i f s).stations = s.stations := rfl
@[simp] theorem modRow_link (i : RowId) (f : Row → Row) : (modRow i f s).link = s.link := rfl
@[simp] theorem modRow_scanner (i : RowId) (f : Row → Row) : (modRow i f s).scanner = s.scanner := rfl
@[simp] theorem modRow_farm (i : RowId) (f : Row → Row) : (modRow i f s).farm = s.farm := rfl
@[simp] theorem modRow_round (i : RowId) (f : Row → Row) : (modRow i f s).round = s.round := rfl
@[simp] theorem modRow_pool (i : RowId) (f : Row → Row) : (modRow i f s).pool = s.pool := rfl
@[simp] theorem modRow_alerts (i : RowId) (f : Row → Row) : (modRow i f s).alerts = s.alerts := rfl
@[simp] theorem modRow_anemometers (i : RowId) (f : Row → Row) : (modRow i f s).anemometers = s.anemometers := rfl
/-! ### modRobot -/
@[simp] theorem modRobot_pending (i : RobotId) (f : Robot → Robot) : (modRobot i f s).pending = s.pending := rfl
@[simp] theorem modRobot_freeCount (i : RobotId) (f : Robot → Robot) : (modRobot i f s).freeCount = s.freeCount := rfl
@[simp] theorem modRobot_agenda (i : RobotId) (f : Robot → Robot) : (modRobot i f s).agenda = s.agenda := rfl
@[simp] theorem modRobot_resetHeld (i : RobotId) (f : Robot → Robot) : (modRobot i f s).resetHeld = s.resetHeld := rfl
@[simp] theorem modRobot_siteSecond (i : RobotId) (f : Robot → Robot) : (modRobot i f s).siteSecond = s.siteSecond := rfl
@[simp] theorem modRobot_board (i : RobotId) (f : Robot → Robot) : (modRobot i f s).board = s.board := rfl
@[simp] theorem modRobot_memory (i : RobotId) (f : Robot → Robot) : (modRobot i f s).memory = s.memory := rfl
@[simp] theorem modRobot_mirrors (i : RobotId) (f : Robot → Robot) : (modRobot i f s).mirrors = s.mirrors := rfl
@[simp] theorem modRobot_modes (i : RobotId) (f : Robot → Robot) : (modRobot i f s).modes = s.modes := rfl
@[simp] theorem modRobot_plant (i : RobotId) (f : Robot → Robot) : (modRobot i f s).plant = s.plant := rfl
@[simp] theorem modRobot_rows (i : RobotId) (f : Robot → Robot) : (modRobot i f s).rows = s.rows := rfl
@[simp] theorem modRobot_shuttles (i : RobotId) (f : Robot → Robot) : (modRobot i f s).shuttles = s.shuttles := rfl
@[simp] theorem modRobot_stations (i : RobotId) (f : Robot → Robot) : (modRobot i f s).stations = s.stations := rfl
@[simp] theorem modRobot_link (i : RobotId) (f : Robot → Robot) : (modRobot i f s).link = s.link := rfl
@[simp] theorem modRobot_scanner (i : RobotId) (f : Robot → Robot) : (modRobot i f s).scanner = s.scanner := rfl
@[simp] theorem modRobot_farm (i : RobotId) (f : Robot → Robot) : (modRobot i f s).farm = s.farm := rfl
@[simp] theorem modRobot_round (i : RobotId) (f : Robot → Robot) : (modRobot i f s).round = s.round := rfl
@[simp] theorem modRobot_pool (i : RobotId) (f : Robot → Robot) : (modRobot i f s).pool = s.pool := rfl
@[simp] theorem modRobot_alerts (i : RobotId) (f : Robot → Robot) : (modRobot i f s).alerts = s.alerts := rfl
@[simp] theorem modRobot_anemometers (i : RobotId) (f : Robot → Robot) : (modRobot i f s).anemometers = s.anemometers := rfl
/-! ### modShuttle -/
@[simp] theorem modShuttle_pending (i : ShuttleIx) (f : Shuttle → Shuttle) : (modShuttle i f s).pending = s.pending := rfl
@[simp] theorem modShuttle_freeCount (i : ShuttleIx) (f : Shuttle → Shuttle) : (modShuttle i f s).freeCount = s.freeCount := rfl
@[simp] theorem modShuttle_agenda (i : ShuttleIx) (f : Shuttle → Shuttle) : (modShuttle i f s).agenda = s.agenda := rfl
@[simp] theorem modShuttle_resetHeld (i : ShuttleIx) (f : Shuttle → Shuttle) : (modShuttle i f s).resetHeld = s.resetHeld := rfl
@[simp] theorem modShuttle_siteSecond (i : ShuttleIx) (f : Shuttle → Shuttle) : (modShuttle i f s).siteSecond = s.siteSecond := rfl
@[simp] theorem modShuttle_board (i : ShuttleIx) (f : Shuttle → Shuttle) : (modShuttle i f s).board = s.board := rfl
@[simp] theorem modShuttle_memory (i : ShuttleIx) (f : Shuttle → Shuttle) : (modShuttle i f s).memory = s.memory := rfl
@[simp] theorem modShuttle_mirrors (i : ShuttleIx) (f : Shuttle → Shuttle) : (modShuttle i f s).mirrors = s.mirrors := rfl
@[simp] theorem modShuttle_modes (i : ShuttleIx) (f : Shuttle → Shuttle) : (modShuttle i f s).modes = s.modes := rfl
@[simp] theorem modShuttle_plant (i : ShuttleIx) (f : Shuttle → Shuttle) : (modShuttle i f s).plant = s.plant := rfl
@[simp] theorem modShuttle_rows (i : ShuttleIx) (f : Shuttle → Shuttle) : (modShuttle i f s).rows = s.rows := rfl
@[simp] theorem modShuttle_robots (i : ShuttleIx) (f : Shuttle → Shuttle) : (modShuttle i f s).robots = s.robots := rfl
@[simp] theorem modShuttle_stations (i : ShuttleIx) (f : Shuttle → Shuttle) : (modShuttle i f s).stations = s.stations := rfl
@[simp] theorem modShuttle_link (i : ShuttleIx) (f : Shuttle → Shuttle) : (modShuttle i f s).link = s.link := rfl
@[simp] theorem modShuttle_scanner (i : ShuttleIx) (f : Shuttle → Shuttle) : (modShuttle i f s).scanner = s.scanner := rfl
@[simp] theorem modShuttle_farm (i : ShuttleIx) (f : Shuttle → Shuttle) : (modShuttle i f s).farm = s.farm := rfl
@[simp] theorem modShuttle_round (i : ShuttleIx) (f : Shuttle → Shuttle) : (modShuttle i f s).round = s.round := rfl
@[simp] theorem modShuttle_pool (i : ShuttleIx) (f : Shuttle → Shuttle) : (modShuttle i f s).pool = s.pool := rfl
@[simp] theorem modShuttle_alerts (i : ShuttleIx) (f : Shuttle → Shuttle) : (modShuttle i f s).alerts = s.alerts := rfl
@[simp] theorem modShuttle_anemometers (i : ShuttleIx) (f : Shuttle → Shuttle) : (modShuttle i f s).anemometers = s.anemometers := rfl
/-! ### modStation -/
@[simp] theorem modStation_pending (i : StationIx) (f : Station → Station) : (modStation i f s).pending = s.pending := rfl
@[simp] theorem modStation_freeCount (i : StationIx) (f : Station → Station) : (modStation i f s).freeCount = s.freeCount := rfl
@[simp] theorem modStation_agenda (i : StationIx) (f : Station → Station) : (modStation i f s).agenda = s.agenda := rfl
@[simp] theorem modStation_resetHeld (i : StationIx) (f : Station → Station) : (modStation i f s).resetHeld = s.resetHeld := rfl
@[simp] theorem modStation_siteSecond (i : StationIx) (f : Station → Station) : (modStation i f s).siteSecond = s.siteSecond := rfl
@[simp] theorem modStation_board (i : StationIx) (f : Station → Station) : (modStation i f s).board = s.board := rfl
@[simp] theorem modStation_memory (i : StationIx) (f : Station → Station) : (modStation i f s).memory = s.memory := rfl
@[simp] theorem modStation_mirrors (i : StationIx) (f : Station → Station) : (modStation i f s).mirrors = s.mirrors := rfl
@[simp] theorem modStation_modes (i : StationIx) (f : Station → Station) : (modStation i f s).modes = s.modes := rfl
@[simp] theorem modStation_plant (i : StationIx) (f : Station → Station) : (modStation i f s).plant = s.plant := rfl
@[simp] theorem modStation_rows (i : StationIx) (f : Station → Station) : (modStation i f s).rows = s.rows := rfl
@[simp] theorem modStation_robots (i : StationIx) (f : Station → Station) : (modStation i f s).robots = s.robots := rfl
@[simp] theorem modStation_shuttles (i : StationIx) (f : Station → Station) : (modStation i f s).shuttles = s.shuttles := rfl
@[simp] theorem modStation_link (i : StationIx) (f : Station → Station) : (modStation i f s).link = s.link := rfl
@[simp] theorem modStation_scanner (i : StationIx) (f : Station → Station) : (modStation i f s).scanner = s.scanner := rfl
@[simp] theorem modStation_farm (i : StationIx) (f : Station → Station) : (modStation i f s).farm = s.farm := rfl
@[simp] theorem modStation_round (i : StationIx) (f : Station → Station) : (modStation i f s).round = s.round := rfl
@[simp] theorem modStation_pool (i : StationIx) (f : Station → Station) : (modStation i f s).pool = s.pool := rfl
@[simp] theorem modStation_alerts (i : StationIx) (f : Station → Station) : (modStation i f s).alerts = s.alerts := rfl
@[simp] theorem modStation_anemometers (i : StationIx) (f : Station → Station) : (modStation i f s).anemometers = s.anemometers := rfl
/-! ### modAlert -/
@[simp] theorem modAlert_pending (i : AlertIx) (f : Alert → Alert) : (modAlert i f s).pending = s.pending := rfl
@[simp] theorem modAlert_freeCount (i : AlertIx) (f : Alert → Alert) : (modAlert i f s).freeCount = s.freeCount := rfl
@[simp] theorem modAlert_agenda (i : AlertIx) (f : Alert → Alert) : (modAlert i f s).agenda = s.agenda := rfl
@[simp] theorem modAlert_resetHeld (i : AlertIx) (f : Alert → Alert) : (modAlert i f s).resetHeld = s.resetHeld := rfl
@[simp] theorem modAlert_siteSecond (i : AlertIx) (f : Alert → Alert) : (modAlert i f s).siteSecond = s.siteSecond := rfl
@[simp] theorem modAlert_board (i : AlertIx) (f : Alert → Alert) : (modAlert i f s).board = s.board := rfl
@[simp] theorem modAlert_memory (i : AlertIx) (f : Alert → Alert) : (modAlert i f s).memory = s.memory := rfl
@[simp] theorem modAlert_mirrors (i : AlertIx) (f : Alert → Alert) : (modAlert i f s).mirrors = s.mirrors := rfl
@[simp] theorem modAlert_modes (i : AlertIx) (f : Alert → Alert) : (modAlert i f s).modes = s.modes := rfl
@[simp] theorem modAlert_plant (i : AlertIx) (f : Alert → Alert) : (modAlert i f s).plant = s.plant := rfl
@[simp] theorem modAlert_rows (i : AlertIx) (f : Alert → Alert) : (modAlert i f s).rows = s.rows := rfl
@[simp] theorem modAlert_robots (i : AlertIx) (f : Alert → Alert) : (modAlert i f s).robots = s.robots := rfl
@[simp] theorem modAlert_shuttles (i : AlertIx) (f : Alert → Alert) : (modAlert i f s).shuttles = s.shuttles := rfl
@[simp] theorem modAlert_stations (i : AlertIx) (f : Alert → Alert) : (modAlert i f s).stations = s.stations := rfl
@[simp] theorem modAlert_link (i : AlertIx) (f : Alert → Alert) : (modAlert i f s).link = s.link := rfl
@[simp] theorem modAlert_scanner (i : AlertIx) (f : Alert → Alert) : (modAlert i f s).scanner = s.scanner := rfl
@[simp] theorem modAlert_farm (i : AlertIx) (f : Alert → Alert) : (modAlert i f s).farm = s.farm := rfl
@[simp] theorem modAlert_round (i : AlertIx) (f : Alert → Alert) : (modAlert i f s).round = s.round := rfl
@[simp] theorem modAlert_pool (i : AlertIx) (f : Alert → Alert) : (modAlert i f s).pool = s.pool := rfl
@[simp] theorem modAlert_anemometers (i : AlertIx) (f : Alert → Alert) : (modAlert i f s).anemometers = s.anemometers := rfl
/-! ### modAnemometer -/
@[simp] theorem modAnemometer_pending (i : AnemIx) (f : Anemometer → Anemometer) : (modAnemometer i f s).pending = s.pending := rfl
@[simp] theorem modAnemometer_freeCount (i : AnemIx) (f : Anemometer → Anemometer) : (modAnemometer i f s).freeCount = s.freeCount := rfl
@[simp] theorem modAnemometer_agenda (i : AnemIx) (f : Anemometer → Anemometer) : (modAnemometer i f s).agenda = s.agenda := rfl
@[simp] theorem modAnemometer_resetHeld (i : AnemIx) (f : Anemometer → Anemometer) : (modAnemometer i f s).resetHeld = s.resetHeld := rfl
@[simp] theorem modAnemometer_siteSecond (i : AnemIx) (f : Anemometer → Anemometer) : (modAnemometer i f s).siteSecond = s.siteSecond := rfl
@[simp] theorem modAnemometer_board (i : AnemIx) (f : Anemometer → Anemometer) : (modAnemometer i f s).board = s.board := rfl
@[simp] theorem modAnemometer_memory (i : AnemIx) (f : Anemometer → Anemometer) : (modAnemometer i f s).memory = s.memory := rfl
@[simp] theorem modAnemometer_mirrors (i : AnemIx) (f : Anemometer → Anemometer) : (modAnemometer i f s).mirrors = s.mirrors := rfl
@[simp] theorem modAnemometer_modes (i : AnemIx) (f : Anemometer → Anemometer) : (modAnemometer i f s).modes = s.modes := rfl
@[simp] theorem modAnemometer_plant (i : AnemIx) (f : Anemometer → Anemometer) : (modAnemometer i f s).plant = s.plant := rfl
@[simp] theorem modAnemometer_rows (i : AnemIx) (f : Anemometer → Anemometer) : (modAnemometer i f s).rows = s.rows := rfl
@[simp] theorem modAnemometer_robots (i : AnemIx) (f : Anemometer → Anemometer) : (modAnemometer i f s).robots = s.robots := rfl
@[simp] theorem modAnemometer_shuttles (i : AnemIx) (f : Anemometer → Anemometer) : (modAnemometer i f s).shuttles = s.shuttles := rfl
@[simp] theorem modAnemometer_stations (i : AnemIx) (f : Anemometer → Anemometer) : (modAnemometer i f s).stations = s.stations := rfl
@[simp] theorem modAnemometer_link (i : AnemIx) (f : Anemometer → Anemometer) : (modAnemometer i f s).link = s.link := rfl
@[simp] theorem modAnemometer_scanner (i : AnemIx) (f : Anemometer → Anemometer) : (modAnemometer i f s).scanner = s.scanner := rfl
@[simp] theorem modAnemometer_farm (i : AnemIx) (f : Anemometer → Anemometer) : (modAnemometer i f s).farm = s.farm := rfl
@[simp] theorem modAnemometer_round (i : AnemIx) (f : Anemometer → Anemometer) : (modAnemometer i f s).round = s.round := rfl
@[simp] theorem modAnemometer_pool (i : AnemIx) (f : Anemometer → Anemometer) : (modAnemometer i f s).pool = s.pool := rfl
@[simp] theorem modAnemometer_alerts (i : AnemIx) (f : Anemometer → Anemometer) : (modAnemometer i f s).alerts = s.alerts := rfl
/-! ### modContext -/
@[simp] theorem modContext_pending (i : CtxIx) (f : Context → Context) : (modContext i f s).pending = s.pending := rfl
@[simp] theorem modContext_freeCount (i : CtxIx) (f : Context → Context) : (modContext i f s).freeCount = s.freeCount := rfl
@[simp] theorem modContext_agenda (i : CtxIx) (f : Context → Context) : (modContext i f s).agenda = s.agenda := rfl
@[simp] theorem modContext_resetHeld (i : CtxIx) (f : Context → Context) : (modContext i f s).resetHeld = s.resetHeld := rfl
@[simp] theorem modContext_siteSecond (i : CtxIx) (f : Context → Context) : (modContext i f s).siteSecond = s.siteSecond := rfl
@[simp] theorem modContext_board (i : CtxIx) (f : Context → Context) : (modContext i f s).board = s.board := rfl
@[simp] theorem modContext_memory (i : CtxIx) (f : Context → Context) : (modContext i f s).memory = s.memory := rfl
@[simp] theorem modContext_mirrors (i : CtxIx) (f : Context → Context) : (modContext i f s).mirrors = s.mirrors := rfl
@[simp] theorem modContext_modes (i : CtxIx) (f : Context → Context) : (modContext i f s).modes = s.modes := rfl
@[simp] theorem modContext_plant (i : CtxIx) (f : Context → Context) : (modContext i f s).plant = s.plant := rfl
@[simp] theorem modContext_rows (i : CtxIx) (f : Context → Context) : (modContext i f s).rows = s.rows := rfl
@[simp] theorem modContext_robots (i : CtxIx) (f : Context → Context) : (modContext i f s).robots = s.robots := rfl
@[simp] theorem modContext_shuttles (i : CtxIx) (f : Context → Context) : (modContext i f s).shuttles = s.shuttles := rfl
@[simp] theorem modContext_stations (i : CtxIx) (f : Context → Context) : (modContext i f s).stations = s.stations := rfl
@[simp] theorem modContext_link (i : CtxIx) (f : Context → Context) : (modContext i f s).link = s.link := rfl
@[simp] theorem modContext_scanner (i : CtxIx) (f : Context → Context) : (modContext i f s).scanner = s.scanner := rfl
@[simp] theorem modContext_farm (i : CtxIx) (f : Context → Context) : (modContext i f s).farm = s.farm := rfl
@[simp] theorem modContext_round (i : CtxIx) (f : Context → Context) : (modContext i f s).round = s.round := rfl
@[simp] theorem modContext_alerts (i : CtxIx) (f : Context → Context) : (modContext i f s).alerts = s.alerts := rfl
@[simp] theorem modContext_anemometers (i : CtxIx) (f : Context → Context) : (modContext i f s).anemometers = s.anemometers := rfl
/-! ### modEntry -/
@[simp] theorem modEntry_pending (i : LinkId) (f : LinkEntry → LinkEntry) : (modEntry i f s).pending = s.pending := rfl
@[simp] theorem modEntry_freeCount (i : LinkId) (f : LinkEntry → LinkEntry) : (modEntry i f s).freeCount = s.freeCount := rfl
@[simp] theorem modEntry_agenda (i : LinkId) (f : LinkEntry → LinkEntry) : (modEntry i f s).agenda = s.agenda := rfl
@[simp] theorem modEntry_resetHeld (i : LinkId) (f : LinkEntry → LinkEntry) : (modEntry i f s).resetHeld = s.resetHeld := rfl
@[simp] theorem modEntry_siteSecond (i : LinkId) (f : LinkEntry → LinkEntry) : (modEntry i f s).siteSecond = s.siteSecond := rfl
@[simp] theorem modEntry_board (i : LinkId) (f : LinkEntry → LinkEntry) : (modEntry i f s).board = s.board := rfl
@[simp] theorem modEntry_memory (i : LinkId) (f : LinkEntry → LinkEntry) : (modEntry i f s).memory = s.memory := rfl
@[simp] theorem modEntry_mirrors (i : LinkId) (f : LinkEntry → LinkEntry) : (modEntry i f s).mirrors = s.mirrors := rfl
@[simp] theorem modEntry_modes (i : LinkId) (f : LinkEntry → LinkEntry) : (modEntry i f s).modes = s.modes := rfl
@[simp] theorem modEntry_plant (i : LinkId) (f : LinkEntry → LinkEntry) : (modEntry i f s).plant = s.plant := rfl
@[simp] theorem modEntry_rows (i : LinkId) (f : LinkEntry → LinkEntry) : (modEntry i f s).rows = s.rows := rfl
@[simp] theorem modEntry_robots (i : LinkId) (f : LinkEntry → LinkEntry) : (modEntry i f s).robots = s.robots := rfl
@[simp] theorem modEntry_shuttles (i : LinkId) (f : LinkEntry → LinkEntry) : (modEntry i f s).shuttles = s.shuttles := rfl
@[simp] theorem modEntry_stations (i : LinkId) (f : LinkEntry → LinkEntry) : (modEntry i f s).stations = s.stations := rfl
@[simp] theorem modEntry_scanner (i : LinkId) (f : LinkEntry → LinkEntry) : (modEntry i f s).scanner = s.scanner := rfl
@[simp] theorem modEntry_farm (i : LinkId) (f : LinkEntry → LinkEntry) : (modEntry i f s).farm = s.farm := rfl
@[simp] theorem modEntry_round (i : LinkId) (f : LinkEntry → LinkEntry) : (modEntry i f s).round = s.round := rfl
@[simp] theorem modEntry_pool (i : LinkId) (f : LinkEntry → LinkEntry) : (modEntry i f s).pool = s.pool := rfl
@[simp] theorem modEntry_alerts (i : LinkId) (f : LinkEntry → LinkEntry) : (modEntry i f s).alerts = s.alerts := rfl
@[simp] theorem modEntry_anemometers (i : LinkId) (f : LinkEntry → LinkEntry) : (modEntry i f s).anemometers = s.anemometers := rfl
/-! ### modSlot -/
@[simp] theorem modSlot_pending (i : SlotIx) (f : Slot → Slot) : (modSlot i f s).pending = s.pending := rfl
@[simp] theorem modSlot_freeCount (i : SlotIx) (f : Slot → Slot) : (modSlot i f s).freeCount = s.freeCount := rfl
@[simp] theorem modSlot_agenda (i : SlotIx) (f : Slot → Slot) : (modSlot i f s).agenda = s.agenda := rfl
@[simp] theorem modSlot_resetHeld (i : SlotIx) (f : Slot → Slot) : (modSlot i f s).resetHeld = s.resetHeld := rfl
@[simp] theorem modSlot_siteSecond (i : SlotIx) (f : Slot → Slot) : (modSlot i f s).siteSecond = s.siteSecond := rfl
@[simp] theorem modSlot_memory (i : SlotIx) (f : Slot → Slot) : (modSlot i f s).memory = s.memory := rfl
@[simp] theorem modSlot_mirrors (i : SlotIx) (f : Slot → Slot) : (modSlot i f s).mirrors = s.mirrors := rfl
@[simp] theorem modSlot_modes (i : SlotIx) (f : Slot → Slot) : (modSlot i f s).modes = s.modes := rfl
@[simp] theorem modSlot_plant (i : SlotIx) (f : Slot → Slot) : (modSlot i f s).plant = s.plant := rfl
@[simp] theorem modSlot_rows (i : SlotIx) (f : Slot → Slot) : (modSlot i f s).rows = s.rows := rfl
@[simp] theorem modSlot_robots (i : SlotIx) (f : Slot → Slot) : (modSlot i f s).robots = s.robots := rfl
@[simp] theorem modSlot_shuttles (i : SlotIx) (f : Slot → Slot) : (modSlot i f s).shuttles = s.shuttles := rfl
@[simp] theorem modSlot_stations (i : SlotIx) (f : Slot → Slot) : (modSlot i f s).stations = s.stations := rfl
@[simp] theorem modSlot_link (i : SlotIx) (f : Slot → Slot) : (modSlot i f s).link = s.link := rfl
@[simp] theorem modSlot_scanner (i : SlotIx) (f : Slot → Slot) : (modSlot i f s).scanner = s.scanner := rfl
@[simp] theorem modSlot_farm (i : SlotIx) (f : Slot → Slot) : (modSlot i f s).farm = s.farm := rfl
@[simp] theorem modSlot_round (i : SlotIx) (f : Slot → Slot) : (modSlot i f s).round = s.round := rfl
@[simp] theorem modSlot_pool (i : SlotIx) (f : Slot → Slot) : (modSlot i f s).pool = s.pool := rfl
@[simp] theorem modSlot_alerts (i : SlotIx) (f : Slot → Slot) : (modSlot i f s).alerts = s.alerts := rfl
@[simp] theorem modSlot_anemometers (i : SlotIx) (f : Slot → Slot) : (modSlot i f s).anemometers = s.anemometers := rfl
/-! ### modBoard -/
@[simp] theorem modBoard_pending (f : Board → Board) : (modBoard f s).pending = s.pending := rfl
@[simp] theorem modBoard_freeCount (f : Board → Board) : (modBoard f s).freeCount = s.freeCount := rfl
@[simp] theorem modBoard_agenda (f : Board → Board) : (modBoard f s).agenda = s.agenda := rfl
@[simp] theorem modBoard_resetHeld (f : Board → Board) : (modBoard f s).resetHeld = s.resetHeld := rfl
@[simp] theorem modBoard_siteSecond (f : Board → Board) : (modBoard f s).siteSecond = s.siteSecond := rfl
@[simp] theorem modBoard_memory (f : Board → Board) : (modBoard f s).memory = s.memory := rfl
@[simp] theorem modBoard_mirrors (f : Board → Board) : (modBoard f s).mirrors = s.mirrors := rfl
@[simp] theorem modBoard_modes (f : Board → Board) : (modBoard f s).modes = s.modes := rfl
@[simp] theorem modBoard_plant (f : Board → Board) : (modBoard f s).plant = s.plant := rfl
@[simp] theorem modBoard_rows (f : Board → Board) : (modBoard f s).rows = s.rows := rfl
@[simp] theorem modBoard_robots (f : Board → Board) : (modBoard f s).robots = s.robots := rfl
@[simp] theorem modBoard_shuttles (f : Board → Board) : (modBoard f s).shuttles = s.shuttles := rfl
@[simp] theorem modBoard_stations (f : Board → Board) : (modBoard f s).stations = s.stations := rfl
@[simp] theorem modBoard_link (f : Board → Board) : (modBoard f s).link = s.link := rfl
@[simp] theorem modBoard_scanner (f : Board → Board) : (modBoard f s).scanner = s.scanner := rfl
@[simp] theorem modBoard_farm (f : Board → Board) : (modBoard f s).farm = s.farm := rfl
@[simp] theorem modBoard_round (f : Board → Board) : (modBoard f s).round = s.round := rfl
@[simp] theorem modBoard_pool (f : Board → Board) : (modBoard f s).pool = s.pool := rfl
@[simp] theorem modBoard_alerts (f : Board → Board) : (modBoard f s).alerts = s.alerts := rfl
@[simp] theorem modBoard_anemometers (f : Board → Board) : (modBoard f s).anemometers = s.anemometers := rfl
/-! ### modModes -/
@[simp] theorem modModes_pending (f : ModeUnit → ModeUnit) : (modModes f s).pending = s.pending := rfl
@[simp] theorem modModes_freeCount (f : ModeUnit → ModeUnit) : (modModes f s).freeCount = s.freeCount := rfl
@[simp] theorem modModes_agenda (f : ModeUnit → ModeUnit) : (modModes f s).agenda = s.agenda := rfl
@[simp] theorem modModes_resetHeld (f : ModeUnit → ModeUnit) : (modModes f s).resetHeld = s.resetHeld := rfl
@[simp] theorem modModes_siteSecond (f : ModeUnit → ModeUnit) : (modModes f s).siteSecond = s.siteSecond := rfl
@[simp] theorem modModes_board (f : ModeUnit → ModeUnit) : (modModes f s).board = s.board := rfl
@[simp] theorem modModes_memory (f : ModeUnit → ModeUnit) : (modModes f s).memory = s.memory := rfl
@[simp] theorem modModes_mirrors (f : ModeUnit → ModeUnit) : (modModes f s).mirrors = s.mirrors := rfl
@[simp] theorem modModes_plant (f : ModeUnit → ModeUnit) : (modModes f s).plant = s.plant := rfl
@[simp] theorem modModes_rows (f : ModeUnit → ModeUnit) : (modModes f s).rows = s.rows := rfl
@[simp] theorem modModes_robots (f : ModeUnit → ModeUnit) : (modModes f s).robots = s.robots := rfl
@[simp] theorem modModes_shuttles (f : ModeUnit → ModeUnit) : (modModes f s).shuttles = s.shuttles := rfl
@[simp] theorem modModes_stations (f : ModeUnit → ModeUnit) : (modModes f s).stations = s.stations := rfl
@[simp] theorem modModes_link (f : ModeUnit → ModeUnit) : (modModes f s).link = s.link := rfl
@[simp] theorem modModes_scanner (f : ModeUnit → ModeUnit) : (modModes f s).scanner = s.scanner := rfl
@[simp] theorem modModes_farm (f : ModeUnit → ModeUnit) : (modModes f s).farm = s.farm := rfl
@[simp] theorem modModes_round (f : ModeUnit → ModeUnit) : (modModes f s).round = s.round := rfl
@[simp] theorem modModes_pool (f : ModeUnit → ModeUnit) : (modModes f s).pool = s.pool := rfl
@[simp] theorem modModes_alerts (f : ModeUnit → ModeUnit) : (modModes f s).alerts = s.alerts := rfl
@[simp] theorem modModes_anemometers (f : ModeUnit → ModeUnit) : (modModes f s).anemometers = s.anemometers := rfl
/-! ### modLink -/
@[simp] theorem modLink_pending (f : LinkUnit → LinkUnit) : (modLink f s).pending = s.pending := rfl
@[simp] theorem modLink_freeCount (f : LinkUnit → LinkUnit) : (modLink f s).freeCount = s.freeCount := rfl
@[simp] theorem modLink_agenda (f : LinkUnit → LinkUnit) : (modLink f s).agenda = s.agenda := rfl
@[simp] theorem modLink_resetHeld (f : LinkUnit → LinkUnit) : (modLink f s).resetHeld = s.resetHeld := rfl
@[simp] theorem modLink_siteSecond (f : LinkUnit → LinkUnit) : (modLink f s).siteSecond = s.siteSecond := rfl
@[simp] theorem modLink_board (f : LinkUnit → LinkUnit) : (modLink f s).board = s.board := rfl
@[simp] theorem modLink_memory (f : LinkUnit → LinkUnit) : (modLink f s).memory = s.memory := rfl
@[simp] theorem modLink_mirrors (f : LinkUnit → LinkUnit) : (modLink f s).mirrors = s.mirrors := rfl
@[simp] theorem modLink_modes (f : LinkUnit → LinkUnit) : (modLink f s).modes = s.modes := rfl
@[simp] theorem modLink_plant (f : LinkUnit → LinkUnit) : (modLink f s).plant = s.plant := rfl
@[simp] theorem modLink_rows (f : LinkUnit → LinkUnit) : (modLink f s).rows = s.rows := rfl
@[simp] theorem modLink_robots (f : LinkUnit → LinkUnit) : (modLink f s).robots = s.robots := rfl
@[simp] theorem modLink_shuttles (f : LinkUnit → LinkUnit) : (modLink f s).shuttles = s.shuttles := rfl
@[simp] theorem modLink_stations (f : LinkUnit → LinkUnit) : (modLink f s).stations = s.stations := rfl
@[simp] theorem modLink_scanner (f : LinkUnit → LinkUnit) : (modLink f s).scanner = s.scanner := rfl
@[simp] theorem modLink_farm (f : LinkUnit → LinkUnit) : (modLink f s).farm = s.farm := rfl
@[simp] theorem modLink_round (f : LinkUnit → LinkUnit) : (modLink f s).round = s.round := rfl
@[simp] theorem modLink_pool (f : LinkUnit → LinkUnit) : (modLink f s).pool = s.pool := rfl
@[simp] theorem modLink_alerts (f : LinkUnit → LinkUnit) : (modLink f s).alerts = s.alerts := rfl
@[simp] theorem modLink_anemometers (f : LinkUnit → LinkUnit) : (modLink f s).anemometers = s.anemometers := rfl
/-! ### modScanner -/
@[simp] theorem modScanner_pending (f : Scanner → Scanner) : (modScanner f s).pending = s.pending := rfl
@[simp] theorem modScanner_freeCount (f : Scanner → Scanner) : (modScanner f s).freeCount = s.freeCount := rfl
@[simp] theorem modScanner_agenda (f : Scanner → Scanner) : (modScanner f s).agenda = s.agenda := rfl
@[simp] theorem modScanner_resetHeld (f : Scanner → Scanner) : (modScanner f s).resetHeld = s.resetHeld := rfl
@[simp] theorem modScanner_siteSecond (f : Scanner → Scanner) : (modScanner f s).siteSecond = s.siteSecond := rfl
@[simp] theorem modScanner_board (f : Scanner → Scanner) : (modScanner f s).board = s.board := rfl
@[simp] theorem modScanner_memory (f : Scanner → Scanner) : (modScanner f s).memory = s.memory := rfl
@[simp] theorem modScanner_mirrors (f : Scanner → Scanner) : (modScanner f s).mirrors = s.mirrors := rfl
@[simp] theorem modScanner_modes (f : Scanner → Scanner) : (modScanner f s).modes = s.modes := rfl
@[simp] theorem modScanner_plant (f : Scanner → Scanner) : (modScanner f s).plant = s.plant := rfl
@[simp] theorem modScanner_rows (f : Scanner → Scanner) : (modScanner f s).rows = s.rows := rfl
@[simp] theorem modScanner_robots (f : Scanner → Scanner) : (modScanner f s).robots = s.robots := rfl
@[simp] theorem modScanner_shuttles (f : Scanner → Scanner) : (modScanner f s).shuttles = s.shuttles := rfl
@[simp] theorem modScanner_stations (f : Scanner → Scanner) : (modScanner f s).stations = s.stations := rfl
@[simp] theorem modScanner_link (f : Scanner → Scanner) : (modScanner f s).link = s.link := rfl
@[simp] theorem modScanner_farm (f : Scanner → Scanner) : (modScanner f s).farm = s.farm := rfl
@[simp] theorem modScanner_round (f : Scanner → Scanner) : (modScanner f s).round = s.round := rfl
@[simp] theorem modScanner_pool (f : Scanner → Scanner) : (modScanner f s).pool = s.pool := rfl
@[simp] theorem modScanner_alerts (f : Scanner → Scanner) : (modScanner f s).alerts = s.alerts := rfl
@[simp] theorem modScanner_anemometers (f : Scanner → Scanner) : (modScanner f s).anemometers = s.anemometers := rfl
/-! ### modFarm -/
@[simp] theorem modFarm_pending (f : Farm → Farm) : (modFarm f s).pending = s.pending := rfl
@[simp] theorem modFarm_freeCount (f : Farm → Farm) : (modFarm f s).freeCount = s.freeCount := rfl
@[simp] theorem modFarm_agenda (f : Farm → Farm) : (modFarm f s).agenda = s.agenda := rfl
@[simp] theorem modFarm_resetHeld (f : Farm → Farm) : (modFarm f s).resetHeld = s.resetHeld := rfl
@[simp] theorem modFarm_siteSecond (f : Farm → Farm) : (modFarm f s).siteSecond = s.siteSecond := rfl
@[simp] theorem modFarm_board (f : Farm → Farm) : (modFarm f s).board = s.board := rfl
@[simp] theorem modFarm_memory (f : Farm → Farm) : (modFarm f s).memory = s.memory := rfl
@[simp] theorem modFarm_mirrors (f : Farm → Farm) : (modFarm f s).mirrors = s.mirrors := rfl
@[simp] theorem modFarm_modes (f : Farm → Farm) : (modFarm f s).modes = s.modes := rfl
@[simp] theorem modFarm_plant (f : Farm → Farm) : (modFarm f s).plant = s.plant := rfl
@[simp] theorem modFarm_rows (f : Farm → Farm) : (modFarm f s).rows = s.rows := rfl
@[simp] theorem modFarm_robots (f : Farm → Farm) : (modFarm f s).robots = s.robots := rfl
@[simp] theorem modFarm_shuttles (f : Farm → Farm) : (modFarm f s).shuttles = s.shuttles := rfl
@[simp] theorem modFarm_stations (f : Farm → Farm) : (modFarm f s).stations = s.stations := rfl
@[simp] theorem modFarm_link (f : Farm → Farm) : (modFarm f s).link = s.link := rfl
@[simp] theorem modFarm_scanner (f : Farm → Farm) : (modFarm f s).scanner = s.scanner := rfl
@[simp] theorem modFarm_round (f : Farm → Farm) : (modFarm f s).round = s.round := rfl
@[simp] theorem modFarm_pool (f : Farm → Farm) : (modFarm f s).pool = s.pool := rfl
@[simp] theorem modFarm_alerts (f : Farm → Farm) : (modFarm f s).alerts = s.alerts := rfl
@[simp] theorem modFarm_anemometers (f : Farm → Farm) : (modFarm f s).anemometers = s.anemometers := rfl
/-! ### modRound -/
@[simp] theorem modRound_pending (f : Round → Round) : (modRound f s).pending = s.pending := rfl
@[simp] theorem modRound_freeCount (f : Round → Round) : (modRound f s).freeCount = s.freeCount := rfl
@[simp] theorem modRound_agenda (f : Round → Round) : (modRound f s).agenda = s.agenda := rfl
@[simp] theorem modRound_resetHeld (f : Round → Round) : (modRound f s).resetHeld = s.resetHeld := rfl
@[simp] theorem modRound_siteSecond (f : Round → Round) : (modRound f s).siteSecond = s.siteSecond := rfl
@[simp] theorem modRound_board (f : Round → Round) : (modRound f s).board = s.board := rfl
@[simp] theorem modRound_memory (f : Round → Round) : (modRound f s).memory = s.memory := rfl
@[simp] theorem modRound_mirrors (f : Round → Round) : (modRound f s).mirrors = s.mirrors := rfl
@[simp] theorem modRound_modes (f : Round → Round) : (modRound f s).modes = s.modes := rfl
@[simp] theorem modRound_plant (f : Round → Round) : (modRound f s).plant = s.plant := rfl
@[simp] theorem modRound_rows (f : Round → Round) : (modRound f s).rows = s.rows := rfl
@[simp] theorem modRound_robots (f : Round → Round) : (modRound f s).robots = s.robots := rfl
@[simp] theorem modRound_shuttles (f : Round → Round) : (modRound f s).shuttles = s.shuttles := rfl
@[simp] theorem modRound_stations (f : Round → Round) : (modRound f s).stations = s.stations := rfl
@[simp] theorem modRound_link (f : Round → Round) : (modRound f s).link = s.link := rfl
@[simp] theorem modRound_scanner (f : Round → Round) : (modRound f s).scanner = s.scanner := rfl
@[simp] theorem modRound_farm (f : Round → Round) : (modRound f s).farm = s.farm := rfl
@[simp] theorem modRound_pool (f : Round → Round) : (modRound f s).pool = s.pool := rfl
@[simp] theorem modRound_alerts (f : Round → Round) : (modRound f s).alerts = s.alerts := rfl
@[simp] theorem modRound_anemometers (f : Round → Round) : (modRound f s).anemometers = s.anemometers := rfl
/-! ### modPool -/
@[simp] theorem modPool_pending (f : Pool → Pool) : (modPool f s).pending = s.pending := rfl
@[simp] theorem modPool_freeCount (f : Pool → Pool) : (modPool f s).freeCount = s.freeCount := rfl
@[simp] theorem modPool_agenda (f : Pool → Pool) : (modPool f s).agenda = s.agenda := rfl
@[simp] theorem modPool_resetHeld (f : Pool → Pool) : (modPool f s).resetHeld = s.resetHeld := rfl
@[simp] theorem modPool_siteSecond (f : Pool → Pool) : (modPool f s).siteSecond = s.siteSecond := rfl
@[simp] theorem modPool_board (f : Pool → Pool) : (modPool f s).board = s.board := rfl
@[simp] theorem modPool_memory (f : Pool → Pool) : (modPool f s).memory = s.memory := rfl
@[simp] theorem modPool_mirrors (f : Pool → Pool) : (modPool f s).mirrors = s.mirrors := rfl
@[simp] theorem modPool_modes (f : Pool → Pool) : (modPool f s).modes = s.modes := rfl
@[simp] theorem modPool_plant (f : Pool → Pool) : (modPool f s).plant = s.plant := rfl
@[simp] theorem modPool_rows (f : Pool → Pool) : (modPool f s).rows = s.rows := rfl
@[simp] theorem modPool_robots (f : Pool → Pool) : (modPool f s).robots = s.robots := rfl
@[simp] theorem modPool_shuttles (f : Pool → Pool) : (modPool f s).shuttles = s.shuttles := rfl
@[simp] theorem modPool_stations (f : Pool → Pool) : (modPool f s).stations = s.stations := rfl
@[simp] theorem modPool_link (f : Pool → Pool) : (modPool f s).link = s.link := rfl
@[simp] theorem modPool_scanner (f : Pool → Pool) : (modPool f s).scanner = s.scanner := rfl
@[simp] theorem modPool_farm (f : Pool → Pool) : (modPool f s).farm = s.farm := rfl
@[simp] theorem modPool_round (f : Pool → Pool) : (modPool f s).round = s.round := rfl
@[simp] theorem modPool_alerts (f : Pool → Pool) : (modPool f s).alerts = s.alerts := rfl
@[simp] theorem modPool_anemometers (f : Pool → Pool) : (modPool f s).anemometers = s.anemometers := rfl
/-! ### modMirror -/
@[simp] theorem modMirror_pending (m : MirrorId) (f : Mirror → Mirror) : (modMirror m f s).pending = s.pending := rfl
@[simp] theorem modMirror_freeCount (m : MirrorId) (f : Mirror → Mirror) : (modMirror m f s).freeCount = s.freeCount := rfl
@[simp] theorem modMirror_agenda (m : MirrorId) (f : Mirror → Mirror) : (modMirror m f s).agenda = s.agenda := rfl
@[simp] theorem modMirror_resetHeld (m : MirrorId) (f : Mirror → Mirror) : (modMirror m f s).resetHeld = s.resetHeld := rfl
@[simp] theorem modMirror_siteSecond (m : MirrorId) (f : Mirror → Mirror) : (modMirror m f s).siteSecond = s.siteSecond := rfl
@[simp] theorem modMirror_board (m : MirrorId) (f : Mirror → Mirror) : (modMirror m f s).board = s.board := rfl
@[simp] theorem modMirror_memory (m : MirrorId) (f : Mirror → Mirror) : (modMirror m f s).memory = s.memory := rfl
@[simp] theorem modMirror_modes (m : MirrorId) (f : Mirror → Mirror) : (modMirror m f s).modes = s.modes := rfl
@[simp] theorem modMirror_plant (m : MirrorId) (f : Mirror → Mirror) : (modMirror m f s).plant = s.plant := rfl
@[simp] theorem modMirror_rows (m : MirrorId) (f : Mirror → Mirror) : (modMirror m f s).rows = s.rows := rfl
@[simp] theorem modMirror_robots (m : MirrorId) (f : Mirror → Mirror) : (modMirror m f s).robots = s.robots := rfl
@[simp] theorem modMirror_shuttles (m : MirrorId) (f : Mirror → Mirror) : (modMirror m f s).shuttles = s.shuttles := rfl
@[simp] theorem modMirror_stations (m : MirrorId) (f : Mirror → Mirror) : (modMirror m f s).stations = s.stations := rfl
@[simp] theorem modMirror_link (m : MirrorId) (f : Mirror → Mirror) : (modMirror m f s).link = s.link := rfl
@[simp] theorem modMirror_scanner (m : MirrorId) (f : Mirror → Mirror) : (modMirror m f s).scanner = s.scanner := rfl
@[simp] theorem modMirror_farm (m : MirrorId) (f : Mirror → Mirror) : (modMirror m f s).farm = s.farm := rfl
@[simp] theorem modMirror_round (m : MirrorId) (f : Mirror → Mirror) : (modMirror m f s).round = s.round := rfl
@[simp] theorem modMirror_pool (m : MirrorId) (f : Mirror → Mirror) : (modMirror m f s).pool = s.pool := rfl
@[simp] theorem modMirror_alerts (m : MirrorId) (f : Mirror → Mirror) : (modMirror m f s).alerts = s.alerts := rfl
@[simp] theorem modMirror_anemometers (m : MirrorId) (f : Mirror → Mirror) : (modMirror m f s).anemometers = s.anemometers := rfl
/-! ### markRewrite -/
@[simp] theorem markRewrite_pending (m : MirrorId) : (markRewrite m s).pending = s.pending := rfl
@[simp] theorem markRewrite_freeCount (m : MirrorId) : (markRewrite m s).freeCount = s.freeCount := rfl
@[simp] theorem markRewrite_agenda (m : MirrorId) : (markRewrite m s).agenda = s.agenda := rfl
@[simp] theorem markRewrite_resetHeld (m : MirrorId) : (markRewrite m s).resetHeld = s.resetHeld := rfl
@[simp] theorem markRewrite_siteSecond (m : MirrorId) : (markRewrite m s).siteSecond = s.siteSecond := rfl
@[simp] theorem markRewrite_board (m : MirrorId) : (markRewrite m s).board = s.board := rfl
@[simp] theorem markRewrite_memory (m : MirrorId) : (markRewrite m s).memory = s.memory := rfl
@[simp] theorem markRewrite_modes (m : MirrorId) : (markRewrite m s).modes = s.modes := rfl
@[simp] theorem markRewrite_plant (m : MirrorId) : (markRewrite m s).plant = s.plant := rfl
@[simp] theorem markRewrite_rows (m : MirrorId) : (markRewrite m s).rows = s.rows := rfl
@[simp] theorem markRewrite_robots (m : MirrorId) : (markRewrite m s).robots = s.robots := rfl
@[simp] theorem markRewrite_shuttles (m : MirrorId) : (markRewrite m s).shuttles = s.shuttles := rfl
@[simp] theorem markRewrite_stations (m : MirrorId) : (markRewrite m s).stations = s.stations := rfl
@[simp] theorem markRewrite_link (m : MirrorId) : (markRewrite m s).link = s.link := rfl
@[simp] theorem markRewrite_scanner (m : MirrorId) : (markRewrite m s).scanner = s.scanner := rfl
@[simp] theorem markRewrite_farm (m : MirrorId) : (markRewrite m s).farm = s.farm := rfl
@[simp] theorem markRewrite_round (m : MirrorId) : (markRewrite m s).round = s.round := rfl
@[simp] theorem markRewrite_pool (m : MirrorId) : (markRewrite m s).pool = s.pool := rfl
@[simp] theorem markRewrite_alerts (m : MirrorId) : (markRewrite m s).alerts = s.alerts := rfl
@[simp] theorem markRewrite_anemometers (m : MirrorId) : (markRewrite m s).anemometers = s.anemometers := rfl
@[simp] theorem markRewrite_mirrors (m : MirrorId) : (markRewrite m s).mirrors = s.mirrors.replace m { mirrorOf s m with pending := true } := rfl
/-! ### The transmitter (R53) -/
@[simp] theorem Transmitter.empty_shift : Transmitter.empty.shift = none := rfl
@[simp] theorem Transmitter.empty_holding : Transmitter.empty.holding = none := rfl
@[simp] theorem Transmitter.empty_rest : Transmitter.empty.rest = [] := rfl
@[simp] theorem Transmitter.load_shift (frame : List TxChar) : (Transmitter.load frame).shift = frame[0]? := rfl
@[simp] theorem Transmitter.load_holding (frame : List TxChar) : (Transmitter.load frame).holding = frame[1]? := rfl
@[simp] theorem Transmitter.load_rest (frame : List TxChar) : (Transmitter.load frame).rest = frame.drop 2 := rfl
@[simp] theorem Transmitter.advance_shift (x : Transmitter) : x.advance.shift = x.holding := rfl
@[simp] theorem Transmitter.advance_holding (x : Transmitter) : x.advance.holding = x.rest.head? := rfl
@[simp] theorem Transmitter.advance_rest (x : Transmitter) : x.advance.rest = x.rest.tail := rfl
/-! ### setNotice -/
@[simp] theorem setNotice_pending (n : Notice) : (setNotice n s).pending = s.pending := rfl
@[simp] theorem setNotice_freeCount (n : Notice) : (setNotice n s).freeCount = s.freeCount := rfl
@[simp] theorem setNotice_agenda (n : Notice) : (setNotice n s).agenda = s.agenda := rfl
@[simp] theorem setNotice_resetHeld (n : Notice) : (setNotice n s).resetHeld = s.resetHeld := rfl
@[simp] theorem setNotice_siteSecond (n : Notice) : (setNotice n s).siteSecond = s.siteSecond := rfl
@[simp] theorem setNotice_memory (n : Notice) : (setNotice n s).memory = s.memory := rfl
@[simp] theorem setNotice_mirrors (n : Notice) : (setNotice n s).mirrors = s.mirrors := rfl
@[simp] theorem setNotice_modes (n : Notice) : (setNotice n s).modes = s.modes := rfl
@[simp] theorem setNotice_plant (n : Notice) : (setNotice n s).plant = s.plant := rfl
@[simp] theorem setNotice_rows (n : Notice) : (setNotice n s).rows = s.rows := rfl
@[simp] theorem setNotice_robots (n : Notice) : (setNotice n s).robots = s.robots := rfl
@[simp] theorem setNotice_shuttles (n : Notice) : (setNotice n s).shuttles = s.shuttles := rfl
@[simp] theorem setNotice_stations (n : Notice) : (setNotice n s).stations = s.stations := rfl
@[simp] theorem setNotice_link (n : Notice) : (setNotice n s).link = s.link := rfl
@[simp] theorem setNotice_scanner (n : Notice) : (setNotice n s).scanner = s.scanner := rfl
@[simp] theorem setNotice_farm (n : Notice) : (setNotice n s).farm = s.farm := rfl
@[simp] theorem setNotice_round (n : Notice) : (setNotice n s).round = s.round := rfl
@[simp] theorem setNotice_pool (n : Notice) : (setNotice n s).pool = s.pool := rfl
@[simp] theorem setNotice_alerts (n : Notice) : (setNotice n s).alerts = s.alerts := rfl
@[simp] theorem setNotice_anemometers (n : Notice) : (setNotice n s).anemometers = s.anemometers := rfl
/-! ### push -/
@[simp] theorem push_pending (j : Job) : (push j s).pending = s.pending := rfl
@[simp] theorem push_freeCount (j : Job) : (push j s).freeCount = s.freeCount := rfl
@[simp] theorem push_resetHeld (j : Job) : (push j s).resetHeld = s.resetHeld := rfl
@[simp] theorem push_siteSecond (j : Job) : (push j s).siteSecond = s.siteSecond := rfl
@[simp] theorem push_board (j : Job) : (push j s).board = s.board := rfl
@[simp] theorem push_memory (j : Job) : (push j s).memory = s.memory := rfl
@[simp] theorem push_mirrors (j : Job) : (push j s).mirrors = s.mirrors := rfl
@[simp] theorem push_modes (j : Job) : (push j s).modes = s.modes := rfl
@[simp] theorem push_plant (j : Job) : (push j s).plant = s.plant := rfl
@[simp] theorem push_rows (j : Job) : (push j s).rows = s.rows := rfl
@[simp] theorem push_robots (j : Job) : (push j s).robots = s.robots := rfl
@[simp] theorem push_shuttles (j : Job) : (push j s).shuttles = s.shuttles := rfl
@[simp] theorem push_stations (j : Job) : (push j s).stations = s.stations := rfl
@[simp] theorem push_link (j : Job) : (push j s).link = s.link := rfl
@[simp] theorem push_scanner (j : Job) : (push j s).scanner = s.scanner := rfl
@[simp] theorem push_farm (j : Job) : (push j s).farm = s.farm := rfl
@[simp] theorem push_round (j : Job) : (push j s).round = s.round := rfl
@[simp] theorem push_pool (j : Job) : (push j s).pool = s.pool := rfl
@[simp] theorem push_alerts (j : Job) : (push j s).alerts = s.alerts := rfl
@[simp] theorem push_anemometers (j : Job) : (push j s).anemometers = s.anemometers := rfl
/-! ### pushAll -/
@[simp] theorem pushAll_pending (js : List Job) : (pushAll js s).pending = s.pending := rfl
@[simp] theorem pushAll_freeCount (js : List Job) : (pushAll js s).freeCount = s.freeCount := rfl
@[simp] theorem pushAll_resetHeld (js : List Job) : (pushAll js s).resetHeld = s.resetHeld := rfl
@[simp] theorem pushAll_siteSecond (js : List Job) : (pushAll js s).siteSecond = s.siteSecond := rfl
@[simp] theorem pushAll_board (js : List Job) : (pushAll js s).board = s.board := rfl
@[simp] theorem pushAll_memory (js : List Job) : (pushAll js s).memory = s.memory := rfl
@[simp] theorem pushAll_mirrors (js : List Job) : (pushAll js s).mirrors = s.mirrors := rfl
@[simp] theorem pushAll_modes (js : List Job) : (pushAll js s).modes = s.modes := rfl
@[simp] theorem pushAll_plant (js : List Job) : (pushAll js s).plant = s.plant := rfl
@[simp] theorem pushAll_rows (js : List Job) : (pushAll js s).rows = s.rows := rfl
@[simp] theorem pushAll_robots (js : List Job) : (pushAll js s).robots = s.robots := rfl
@[simp] theorem pushAll_shuttles (js : List Job) : (pushAll js s).shuttles = s.shuttles := rfl
@[simp] theorem pushAll_stations (js : List Job) : (pushAll js s).stations = s.stations := rfl
@[simp] theorem pushAll_link (js : List Job) : (pushAll js s).link = s.link := rfl
@[simp] theorem pushAll_scanner (js : List Job) : (pushAll js s).scanner = s.scanner := rfl
@[simp] theorem pushAll_farm (js : List Job) : (pushAll js s).farm = s.farm := rfl
@[simp] theorem pushAll_round (js : List Job) : (pushAll js s).round = s.round := rfl
@[simp] theorem pushAll_pool (js : List Job) : (pushAll js s).pool = s.pool := rfl
@[simp] theorem pushAll_alerts (js : List Job) : (pushAll js s).alerts = s.alerts := rfl
@[simp] theorem pushAll_anemometers (js : List Job) : (pushAll js s).anemometers = s.anemometers := rfl
/-! ### answer -/
@[simp] theorem answer_pending (n : SlotIx) (c : AnswerClass) (d : Nat) (rs : List Word) : (answer n c d rs s).pending = s.pending := rfl
@[simp] theorem answer_freeCount (n : SlotIx) (c : AnswerClass) (d : Nat) (rs : List Word) : (answer n c d rs s).freeCount = s.freeCount := rfl
@[simp] theorem answer_agenda (n : SlotIx) (c : AnswerClass) (d : Nat) (rs : List Word) : (answer n c d rs s).agenda = s.agenda := rfl
@[simp] theorem answer_resetHeld (n : SlotIx) (c : AnswerClass) (d : Nat) (rs : List Word) : (answer n c d rs s).resetHeld = s.resetHeld := rfl
@[simp] theorem answer_siteSecond (n : SlotIx) (c : AnswerClass) (d : Nat) (rs : List Word) : (answer n c d rs s).siteSecond = s.siteSecond := rfl
@[simp] theorem answer_mirrors (n : SlotIx) (c : AnswerClass) (d : Nat) (rs : List Word) : (answer n c d rs s).mirrors = s.mirrors := rfl
@[simp] theorem answer_modes (n : SlotIx) (c : AnswerClass) (d : Nat) (rs : List Word) : (answer n c d rs s).modes = s.modes := rfl
@[simp] theorem answer_plant (n : SlotIx) (c : AnswerClass) (d : Nat) (rs : List Word) : (answer n c d rs s).plant = s.plant := rfl
@[simp] theorem answer_rows (n : SlotIx) (c : AnswerClass) (d : Nat) (rs : List Word) : (answer n c d rs s).rows = s.rows := rfl
@[simp] theorem answer_robots (n : SlotIx) (c : AnswerClass) (d : Nat) (rs : List Word) : (answer n c d rs s).robots = s.robots := rfl
@[simp] theorem answer_shuttles (n : SlotIx) (c : AnswerClass) (d : Nat) (rs : List Word) : (answer n c d rs s).shuttles = s.shuttles := rfl
@[simp] theorem answer_stations (n : SlotIx) (c : AnswerClass) (d : Nat) (rs : List Word) : (answer n c d rs s).stations = s.stations := rfl
@[simp] theorem answer_link (n : SlotIx) (c : AnswerClass) (d : Nat) (rs : List Word) : (answer n c d rs s).link = s.link := rfl
@[simp] theorem answer_scanner (n : SlotIx) (c : AnswerClass) (d : Nat) (rs : List Word) : (answer n c d rs s).scanner = s.scanner := rfl
@[simp] theorem answer_farm (n : SlotIx) (c : AnswerClass) (d : Nat) (rs : List Word) : (answer n c d rs s).farm = s.farm := rfl
@[simp] theorem answer_round (n : SlotIx) (c : AnswerClass) (d : Nat) (rs : List Word) : (answer n c d rs s).round = s.round := rfl
@[simp] theorem answer_pool (n : SlotIx) (c : AnswerClass) (d : Nat) (rs : List Word) : (answer n c d rs s).pool = s.pool := rfl
@[simp] theorem answer_alerts (n : SlotIx) (c : AnswerClass) (d : Nat) (rs : List Word) : (answer n c d rs s).alerts = s.alerts := rfl
@[simp] theorem answer_anemometers (n : SlotIx) (c : AnswerClass) (d : Nat) (rs : List Word) : (answer n c d rs s).anemometers = s.anemometers := rfl
/-! ### commit -/
@[simp] theorem commit_pending (t : State) : (commit s t).pending = t.pending := rfl
@[simp] theorem commit_freeCount (t : State) : (commit s t).freeCount = t.freeCount := rfl
@[simp] theorem commit_agenda (t : State) : (commit s t).agenda = t.agenda := rfl
@[simp] theorem commit_resetHeld (t : State) : (commit s t).resetHeld = t.resetHeld := rfl
@[simp] theorem commit_siteSecond (t : State) : (commit s t).siteSecond = t.siteSecond := rfl
@[simp] theorem commit_board (t : State) : (commit s t).board = t.board := rfl
@[simp] theorem commit_memory (t : State) : (commit s t).memory = t.memory := rfl
@[simp] theorem commit_mirrors (t : State) : (commit s t).mirrors = markedMirrors s t := rfl
@[simp] theorem commit_modes (t : State) : (commit s t).modes = t.modes := rfl
@[simp] theorem commit_plant (t : State) : (commit s t).plant = t.plant := rfl
@[simp] theorem commit_rows (t : State) : (commit s t).rows = t.rows := rfl
@[simp] theorem commit_robots (t : State) : (commit s t).robots = t.robots := rfl
@[simp] theorem commit_shuttles (t : State) : (commit s t).shuttles = t.shuttles := rfl
@[simp] theorem commit_stations (t : State) : (commit s t).stations = t.stations := rfl
@[simp] theorem commit_link (t : State) : (commit s t).link = t.link := rfl
@[simp] theorem commit_scanner (t : State) : (commit s t).scanner = t.scanner := rfl
@[simp] theorem commit_farm (t : State) : (commit s t).farm = t.farm := rfl
@[simp] theorem commit_round (t : State) : (commit s t).round = t.round := rfl
@[simp] theorem commit_pool (t : State) : (commit s t).pool = t.pool := rfl
@[simp] theorem commit_alerts (t : State) : (commit s t).alerts = t.alerts := rfl
@[simp] theorem commit_anemometers (t : State) : (commit s t).anemometers = t.anemometers := rfl
/-! ### The changed fields -/
@[simp] theorem modRow_rows (i : RowId) (f : Row → Row) : (modRow i f s).rows = tset s.rows i (f (tget s.rows i)) := rfl
@[simp] theorem modRobot_robots (i : RobotId) (f : Robot → Robot) : (modRobot i f s).robots = tset s.robots i (f (tget s.robots i)) := rfl
@[simp] theorem modShuttle_shuttles (i : ShuttleIx) (f : Shuttle → Shuttle) : (modShuttle i f s).shuttles = tset s.shuttles i (f (tget s.shuttles i)) := rfl
@[simp] theorem modStation_stations (i : StationIx) (f : Station → Station) : (modStation i f s).stations = tset s.stations i (f (tget s.stations i)) := rfl
@[simp] theorem modAlert_alerts (i : AlertIx) (f : Alert → Alert) : (modAlert i f s).alerts = tset s.alerts i (f (tget s.alerts i)) := rfl
@[simp] theorem modAnemometer_anemometers (i : AnemIx) (f : Anemometer → Anemometer) : (modAnemometer i f s).anemometers = tset s.anemometers i (f (tget s.anemometers i)) := rfl
@[simp] theorem modContext_pool (i : CtxIx) (f : Context → Context) : (modContext i f s).pool = { s.pool with records := tset s.pool.records i (f (tget s.pool.records i)) } := rfl
@[simp] theorem modEntry_link (i : LinkId) (f : LinkEntry → LinkEntry) : (modEntry i f s).link = { s.link with entries := tset s.link.entries i (f (tget s.link.entries i)) } := rfl
@[simp] theorem modSlot_board (i : SlotIx) (f : Slot → Slot) : (modSlot i f s).board = { s.board with slots := tset s.board.slots i (f (tget s.board.slots i)) } := rfl
@[simp] theorem modBoard_board (f : Board → Board) : (modBoard f s).board = f s.board := rfl
@[simp] theorem modModes_modes (f : ModeUnit → ModeUnit) : (modModes f s).modes = f s.modes := rfl
@[simp] theorem modLink_link (f : LinkUnit → LinkUnit) : (modLink f s).link = f s.link := rfl
@[simp] theorem modScanner_scanner (f : Scanner → Scanner) : (modScanner f s).scanner = f s.scanner := rfl
@[simp] theorem modFarm_farm (f : Farm → Farm) : (modFarm f s).farm = f s.farm := rfl
@[simp] theorem modRound_round (f : Round → Round) : (modRound f s).round = f s.round := rfl
@[simp] theorem modPool_pool (f : Pool → Pool) : (modPool f s).pool = f s.pool := rfl
@[simp] theorem modMirror_mirrors (m : MirrorId) (f : Mirror → Mirror) : (modMirror m f s).mirrors = s.mirrors.replace m (f (mirrorOf s m)) := rfl
@[simp] theorem setNotice_board (n : Notice) : (setNotice n s).board = { s.board with notice := s.board.notice ||| (1#13 <<< n.bit) } := rfl
@[simp] theorem push_agenda (j : Job) : (push j s).agenda = s.agenda ++ [j] := rfl
@[simp] theorem pushAll_agenda (js : List Job) : (pushAll js s).agenda = s.agenda ++ js := rfl

end Sys2Proof.Machine
end

