-- ==== Sys2Proof/Laws/Memory.lean ====
section
/-!
SUPPORT. The laws of the exchange memory: every operation keeps the canonical form, a read after a write gives the
word written, a write leaves every other word alone, and equal contents are equal data.
-/

namespace Sys2Proof.Machine

/-- Every listed address of a memory is above a bound. -/
def Memory.above (b : Nat) (m : List (Nat × Word)) : Prop := ∀ p ∈ m, b < p.1

theorem Memory.wf_cons {a : Nat} {w : Word} {m : List (Nat × Word)} :
    Memory.wf ((a, w) :: m) = true ↔ w ≠ 0 ∧ Memory.above a m ∧ Memory.wf m = true := by
  induction m generalizing a w with
  | nil => simp [Memory.wf, Memory.above]
  | cons p rest ih =>
    obtain ⟨b, w'⟩ := p
    simp only [Memory.wf, Bool.and_eq_true, decide_eq_true_eq, bne_iff_ne, ne_eq, Memory.above, List.mem_cons]
    constructor
    · rintro ⟨⟨hw, hab⟩, hr⟩
      refine ⟨hw, ?_, hr⟩
      rintro p (rfl | hp)
      · exact hab
      · exact Nat.lt_trans hab ((ih.1 hr).2.1 p hp)
    · rintro ⟨hw, h, hr⟩
      exact ⟨⟨hw, h (b, w') (Or.inl rfl)⟩, hr⟩

theorem Memory.above_write {b a : Nat} {v : Word} {m : List (Nat × Word)} (h : Memory.above b m) (hb : b < a) :
    Memory.above b (Memory.write m a v) := by
  induction m with
  | nil => unfold Memory.write; split <;> simp [Memory.above, hb]
  | cons p rest ih =>
    obtain ⟨c, w⟩ := p
    have hc : b < c := h (c, w) (by simp)
    have hr : Memory.above b rest := fun q hq => h q (by simp [hq])
    unfold Memory.write
    split
    · split
      · exact h
      · rintro q hq; simp at hq; rcases hq with rfl | rfl | hq
        · exact hb
        · exact hc
        · exact hr q hq
    · split
      · split
        · exact hr
        · rintro q hq; simp at hq; rcases hq with rfl | hq
          · exact hb
          · exact hr q hq
      · rintro q hq; simp at hq; rcases hq with rfl | hq
        · exact hc
        · exact ih hr q hq

/-- A write keeps the canonical form. -/
theorem Memory.wf_write {m : List (Nat × Word)} (h : Memory.wf m = true) (a : Nat) (v : Word) :
    Memory.wf (Memory.write m a v) = true := by
  induction m with
  | nil => unfold Memory.write; split <;> simp_all [Memory.wf]
  | cons p rest ih =>
    obtain ⟨c, w⟩ := p
    obtain ⟨hw, hab, hr⟩ := Memory.wf_cons.1 h
    unfold Memory.write
    split
    · split
      · exact h
      · rename_i hlt hv
        refine Memory.wf_cons.2 ⟨hv, ?_, h⟩
        rintro q hq; simp at hq; rcases hq with rfl | hq
        · exact hlt
        · exact Nat.lt_trans hlt (hab q hq)
    · split
      · rename_i hlt heq
        subst heq
        split
        · exact hr
        · rename_i hv; exact Memory.wf_cons.2 ⟨hv, hab, hr⟩
      · rename_i hlt hne
        exact Memory.wf_cons.2 ⟨hw, Memory.above_write hab (by omega), ih hr⟩

theorem Memory.read_above {b a : Nat} {m : List (Nat × Word)} (h : Memory.above b m) (ha : a ≤ b) :
    Memory.read m a = 0 := by
  induction m with
  | nil => rfl
  | cons p rest ih =>
    obtain ⟨c, w⟩ := p
    have hc : b < c := h (c, w) (by simp)
    unfold Memory.read
    rw [if_neg (by omega)]
    exact ih fun q hq => h q (by simp [hq])

/-- What a memory reads after a write: the word written, and every other word as before. -/
theorem Memory.read_write {m : List (Nat × Word)} (h : Memory.wf m = true) (a : Nat) (v : Word) (x : Nat) :
    Memory.read (Memory.write m a v) x = if x = a then v else Memory.read m x := by
  induction m with
  | nil =>
    unfold Memory.write
    by_cases hv : v = 0 <;> by_cases hx : x = a <;> simp_all [Memory.read]
  | cons p rest ih =>
    obtain ⟨c, w⟩ := p
    obtain ⟨hw, hab, hr⟩ := Memory.wf_cons.1 h
    unfold Memory.write
    split
    · rename_i hlt
      split
      · rename_i hv
        split
        · rename_i hx
          subst hx
          rw [hv]
          simp only [Memory.read]
          rw [if_neg (by omega)]
          exact Memory.read_above hab (by omega)
        · rfl
      · simp only [Memory.read]
    · rename_i hlt
      split
      · rename_i heq
        subst heq
        split
        · rename_i hv
          by_cases hx : x = a
          · subst hx; rw [if_pos rfl, hv]; exact Memory.read_above hab (Nat.le_refl _)
          · rw [if_neg hx]; simp [Memory.read, hx]
        · by_cases hx : x = a <;> simp [Memory.read, hx]
      · rename_i hne
        simp only [Memory.read]
        by_cases hx : x = c
        · subst hx
          rw [if_pos rfl, if_neg (by omega), if_pos rfl]
        · rw [if_neg hx, if_neg hx]
          exact ih hr

/-- Several writes keep the canonical form. -/
theorem Memory.wf_writeAll {m : List (Nat × Word)} (h : Memory.wf m = true) (ws : List (Nat × Word)) :
    Memory.wf (Memory.writeAll m ws) = true := by
  unfold Memory.writeAll
  induction ws generalizing m with
  | nil => exact h
  | cons p rest ih => exact ih (Memory.wf_write h p.1 p.2)

/-- Several writes leave every word alone that none of them names. -/
theorem Memory.read_writeAll_ne {m : List (Nat × Word)} (h : Memory.wf m = true) (ws : List (Nat × Word)) {x : Nat}
    (hx : ∀ p ∈ ws, p.1 ≠ x) : Memory.read (Memory.writeAll m ws) x = Memory.read m x := by
  unfold Memory.writeAll
  induction ws generalizing m with
  | nil => rfl
  | cons p rest ih =>
    have hp : p.1 ≠ x := hx p (by simp)
    simp only [List.foldl_cons]
    rw [ih (Memory.wf_write h p.1 p.2) fun q hq => hx q (by simp [hq]), Memory.read_write h,
      if_neg (fun e => hp e.symm)]

theorem addressed_mem {a : Nat} {ws : List Word} {p : Nat × Word} (h : p ∈ addressed a ws) :
    a ≤ p.1 ∧ p.1 < a + ws.length := by
  induction ws generalizing a with
  | nil => simp [addressed] at h
  | cons w rest ih =>
    simp only [addressed, List.mem_cons] at h
    rcases h with rfl | h
    · simp
    · have := ih h
      simp only [List.length_cons]
      omega

/-- A block of consecutive words written reads back word by word, and every other word reads as before. -/
theorem Memory.read_writeBlock {m : List (Nat × Word)} (h : Memory.wf m = true) (a : Nat) (ws : List Word) (x : Nat) :
    Memory.read (Memory.writeAll m (addressed a ws)) x
      = if a ≤ x ∧ x < a + ws.length then ws.getD (x - a) 0 else Memory.read m x := by
  induction ws generalizing m a with
  | nil => rw [if_neg (by simp only [List.length_nil]; omega)]; rfl
  | cons w rest ih =>
    show Memory.read (Memory.writeAll (Memory.write m a w) (addressed (a + 1) rest)) x = _
    rw [ih (Memory.wf_write h a w), Memory.read_write h]
    simp only [List.length_cons]
    by_cases hx : x = a
    · subst hx
      rw [if_neg (by omega), if_pos rfl, if_pos (by omega)]
      simp
    · by_cases hin : a + 1 ≤ x ∧ x < a + 1 + rest.length
      · rw [if_pos hin, if_pos (by omega)]
        obtain ⟨k, hk⟩ : ∃ k, x - a = k + 1 := ⟨x - a - 1, by omega⟩
        have hk' : x - (a + 1) = k := by omega
        rw [hk, hk']
        simp
      · rw [if_neg hin, if_neg hx, if_neg (by omega)]

/-- Two memories in canonical form that read alike everywhere are the same data. -/
theorem Memory.ext_read {m m' : List (Nat × Word)} (h : Memory.wf m = true) (h' : Memory.wf m' = true)
    (hr : ∀ x, Memory.read m x = Memory.read m' x) : m = m' := by
  induction m generalizing m' with
  | nil =>
    cases m' with
    | nil => rfl
    | cons p rest =>
      obtain ⟨a, w⟩ := p
      have := hr a
      simp [Memory.read] at this
      exact absurd this.symm (Memory.wf_cons.1 h').1
  | cons p rest ih =>
    obtain ⟨a, w⟩ := p
    obtain ⟨hw, hab, hwf⟩ := Memory.wf_cons.1 h
    cases m' with
    | nil =>
      have := hr a
      simp [Memory.read] at this
      exact absurd this hw
    | cons p' rest' =>
      obtain ⟨b, w'⟩ := p'
      obtain ⟨hw', hab', hwf'⟩ := Memory.wf_cons.1 h'
      have hb : a = b := by
        rcases Nat.lt_trichotomy a b with hlt | heq | hlt
        · have := hr a
          simp only [Memory.read, if_true, if_neg (Nat.ne_of_lt hlt)] at this
          rw [Memory.read_above hab' (Nat.le_of_lt hlt)] at this
          exact absurd this hw
        · exact heq
        · have := hr b
          simp only [Memory.read, if_true, if_neg (Nat.ne_of_lt hlt)] at this
          rw [Memory.read_above hab (Nat.le_of_lt hlt)] at this
          exact absurd this.symm hw'
      subst hb
      have hww : w = w' := by
        have := hr a
        simpa [Memory.read] using this
      subst hww
      congr 1
      apply ih hwf hwf'
      intro x
      by_cases hx : x = a
      · subst hx; rw [Memory.read_above hab (Nat.le_refl _), Memory.read_above hab' (Nat.le_refl _)]
      · have := hr x
        simpa [Memory.read, hx] using this

end Sys2Proof.Machine
end

