-- ==== Sys2Proof/Laws/Frame.lean ====
section
/-!
SUPPORT. What the frame of a command does, said once: the delivery of notices, the marks, the conditions under which a
command acts, and the taking of an order.
-/

namespace Sys2Proof.Machine

variable {s t : State}

/-! ### Notices -/

@[simp] theorem drainLoop_nil (n : Nat) (h : s.agenda = []) : drainLoop n s = s := by
  cases n with
  | zero => rfl
  | succ n => unfold drainLoop; rw [h]

/-- The first notice is acted on, what it changed is marked, and those it gives rise to are placed before the others. -/
theorem drainLoop_cons (n : Nat) {j : Job} {rest : List Job} (h : s.agenda = j :: rest) :
    drainLoop (n + 1) s
      = drainLoop n
          { commit s (handle j { s with agenda := [] }) with
            agenda := (handle j { s with agenda := [] }).agenda ++ rest } := by
  have h1 : drainLoop (n + 1) s = drainLoop n (drainOne s) := by
    rw [drainLoop]; simp only [h]
  rw [h1]
  unfold drainOne
  simp only [h, commit]

/-- A state without notices is left as it is. -/
@[simp] theorem drain_nil (h : s.agenda = []) : drain s = s := by
  unfold drain
  rw [drainLoop_nil _ h]
  cases s
  simp only at h
  subst h
  rfl

@[simp] theorem drain_agenda (s : State) : (drain s).agenda = [] := rfl

/-! ### Commands -/

/-- A command outside reset: its effect on the state without notices, the marks, the notices delivered. -/
theorem act_eq (f : State → State) (h : s.resetHeld = false) :
    act f s = .next (drain (commit s (f { s with agenda := [] }))) := by
  simp [act, h, perform]

/-- A command outside reset whose effect gives rise to no notice. -/
theorem act_quiet (f : State → State) (h : s.resetHeld = false) (hq : (f { s with agenda := [] }).agenda = []) :
    act f s = .next (commit s (f { s with agenda := [] })) := by
  rw [act_eq f h, drain_nil (by rw [commit_agenda]; exact hq)]

theorem act_held (f : State → State) (h : s.resetHeld = true) : act f s = .next s := by
  simp [act, h]

/-- A command that is due. -/
theorem actWhen_eq {due : State → Bool} (f : State → State) (h : s.resetHeld = false) (hd : due s = true) :
    actWhen due f s = .next (drain (commit s (f { s with agenda := [] }))) := by
  simp [actWhen, h, hd, perform]

theorem actWhen_quiet {due : State → Bool} (f : State → State) (h : s.resetHeld = false) (hd : due s = true)
    (hq : (f { s with agenda := [] }).agenda = []) :
    actWhen due f s = .next (commit s (f { s with agenda := [] })) := by
  rw [actWhen_eq f h hd, drain_nil (by rw [commit_agenda]; exact hq)]

/-- A command that is not due changes nothing. -/
theorem actWhen_notDue {due : State → Bool} (f : State → State) (hd : due s = false) : actWhen due f s = .next s := by
  simp [actWhen, hd]

/-- A host register write acts on the state that the silence monitor leaves. -/
theorem registerWrite_eq (f : State → State) : registerWrite f { s with agenda := [] } = f (afterWrite s) := rfl

@[simp] theorem afterWrite_agenda (s : State) : (afterWrite s).agenda = [] := rfl

/-! ### Orders -/

theorem takeHead_eq {n : SlotIx} {rest : List SlotIx} (effect : SlotIx → List Word → State → State)
    (h : s.board.intake = n :: rest) :
    takeHead effect { s with agenda := [] } = effect n (slotWords s n) (takenAt s n rest) := by
  unfold takeHead
  simp only [h]
  rfl

theorem slotWords_get (s : State) (n : SlotIx) {i : Nat} (h : i < 16) :
    (slotWords s n).getD i 0 = s.mem (slotBase n + i) := by
  simp [slotWords, h]

theorem field_slotWords (s : State) (n : SlotIx) {i : Nat} (h : i < 16) :
    field (slotWords s n) i = orderWord s n i := by
  unfold field orderWord
  rw [slotWords_get s n h]

/-- An order at the head of the queue in RUN whose fields are in range is handed to its job. -/
theorem takeOrder_eq {n : SlotIx} {rest : List SlotIx} {kind : Nat} (h : AtHead s n rest kind) (k : OrderKind)
    {accepts : List Word → Bool} (ha : accepts (slotWords s n) = true) (hr : rangeFailure k (slotWords s n) = none)
    (job : SlotIx → List Word → State → State) :
    takeOrder k accepts job s = .next (drain (commit s (job n (slotWords s n) (takenAt s n rest)))) := by
  unfold takeOrder
  rw [actWhen_eq _ h.released (by simp [orderDue, h.head, ha]), takeHead_eq _ h.head]
  have hm : (takenAt s n rest).modes.mode = .run := h.running
  simp [checkOrder, hm, hr]

theorem orderKind_of {w : Word} {k : Nat} (h : w.toNat = k) :
    orderKind w = orderKind (BitVec.ofNat 16 k) := by
  subst h
  simp

/-! ### Answers -/

theorem answer_board (n : SlotIx) (cls : AnswerClass) (d : Nat) (ws : List Word) (s : State) :
    (answer n cls d ws s).board
      = { s.board with
          slots := tset s.board.slots n { tget s.board.slots n with state := .answered, abortRequested := false }
          intake := s.board.intake.filter fun m => decide (m ≠ n)
          notice := s.board.notice ||| (1#13 <<< Notice.answer.bit) } := by
  unfold answer
  simp only [setNotice_board, modSlot_board, modBoard_board]

theorem answer_memory (n : SlotIx) (cls : AnswerClass) (d : Nat) (ws : List Word) (s : State) :
    (answer n cls d ws s).memory
      = Memory.writeAll s.memory
          (addressed (slotBase n + 16) (word cls.code :: word d :: (s.slot n).tag :: padResults ws)) := by
  unfold answer
  simp only [setNotice_memory, modSlot_memory, modBoard_memory]

theorem boardMemory_frame (s : State) (m : List (Nat × Word)) (b : Board) :
    ({ s with memory := m, board := b } : State) = { s with board := b, memory := m } := rfl

/-- An answer changes the board and the memory, and nothing else. -/
theorem answer_frame (n : SlotIx) (cls : AnswerClass) (d : Nat) (ws : List Word) (s : State) :
    answer n cls d ws s
      = { s with board := (answer n cls d ws s).board, memory := (answer n cls d ws s).memory } := by
  rw [answer_board, answer_memory]
  unfold answer
  dsimp only
  generalize Memory.writeAll s.memory _ = m
  rfl

end Sys2Proof.Machine
end

