-- ==== Sys2Proof/Laws/Moves.lean ====
section
/-!
SUPPORT. What a command can do, said once: every command is a chain of the small moves listed here. An invariant of the
machine is proved by looking at each small move.
-/

namespace Sys2Proof.Machine

/-! ### Growth and bounds -/

theorem Grows.refl {cap x : Nat} : Grows cap x x := fun h => ⟨Nat.le_refl _, h⟩

theorem Grows.satAdd {cap x d : Nat} : Grows cap x (satAdd cap x d) := fun h => by
  unfold Machine.satAdd; omega

theorem RowGrows.refl {x : Row} : RowGrows x x := ⟨.refl, .refl, .refl, .refl⟩
theorem FarmGrows.refl {x : Farm} : FarmGrows x x := ⟨.refl, .refl, .refl, .refl, .refl, .refl, .refl, .refl⟩

/-! ### The small moves -/

/-- One small move of command c. -/
inductive Small (c : Instr) : State → State → Prop
  | agenda (s : State) (js : List Job) : Small c s { s with agenda := js }
  | clock (s : State) (t : Nat) : Small c s { s with siteSecond := t }
  | free (s : State) (n : Nat) : Small c s { s with freeCount := n }
  | silence (s : State) (start : Option Nat) (flag : Bool) :
      Small c s { s with board := { s.board with silenceStart := start, silent := flag } }
  | control (s : State) (request page : Bool) (h : c.writes .control) :
      Small c s { s with board := { s.board with modeRequest := request, statusPage := page } }
  | enable (s : State) (v : BitVec 13) (h : c.writes .noticeEnable) :
      Small c s { s with board := { s.board with enable := v } }
  | notice (s : State) (n : Notice) : Small c s (setNotice n s)
  | clearNotices (s : State) (bits : Word) (h : c.writes .notice) : Small c s (clearNotices bits s)
  | take (s : State) (n : SlotIx) (rest : List SlotIx) (ws : List Word) (h : s.board.intake = n :: rest) :
      Small c s { s with board := { s.board with intake := rest, orderRegister := ws } }
  | tag (s : State) (n : SlotIx) (w : Word) : Small c s (modSlot n (fun x => { x with tag := w }) s)
  | abortRequest (s : State) (n : SlotIx) (h : (s.slot n).state = .held) (hq : n ∉ s.board.intake) :
      Small c s (modSlot n (fun x => { x with abortRequested := true }) s)
  | post (s : State) (n : SlotIx) (h : (s.slot n).state = .free) (hc : c.writes .post) :
      Small c s (modBoard (fun b => { b with intake := b.intake ++ [n] }) (modSlot n (fun x => { x with state := .held }) s))
  | collect (s : State) (n : SlotIx) (h : (s.slot n).state = .answered) (hc : c.writes .answered) :
      Small c s (modSlot n (fun x => { x with state := .free }) s)
  | answer (s : State) (n : SlotIx) (cls : AnswerClass) (d : Nat) (ws : List Word) : Small c s (answer n cls d ws s)
  | modes (s : State) (f : ModeUnit → ModeUnit) (h : ∀ x, (f x).mode = x.mode) : Small c s (modModes f s)
  | mode (s : State) (f : ModeUnit → ModeUnit) (h : c.ModeMove s.modes.mode (f s.modes).mode) : Small c s (modModes f s)
  | row (s : State) (r : RowId) (f : Row → Row) (h : ∀ x, (f x).tr = x.tr ∧ RowGrows x (f x)) : Small c s (modRow r f s)
  | flags (s : State) : Small c s (setFlags s)
  | transmission (s : State) (r : RowId) (tr : Nat) (h : RatiosBounded s → tr ≤ 32768) :
      Small c s (setTransmission r tr s)
  | farm (s : State) (f : Farm → Farm) (h : ∀ x, FarmGrows x (f x)) : Small c s (modFarm f s)
  | robot (s : State) (r : RobotId) (f : Robot → Robot) (h : ∀ x, (f x).context = x.context) : Small c s (modRobot r f s)
  | shuttle (s : State) (k : ShuttleIx) (f : Shuttle → Shuttle)
      (h : (tget s.shuttles k).queue.length ≤ 8 → (f (tget s.shuttles k)).queue.length ≤ 8) : Small c s (modShuttle k f s)
  | station (s : State) (n : StationIx) (f : Station → Station) (h : ∀ x, (f x).srf = x.srf ∧ (f x).ts = x.ts) :
      Small c s (modStation n f s)
  | sample (s : State) (n : StationIx) (sr : Nat) (h : sr ≤ 32768) : Small c s (takeSample n sr s)
  | closeStation (s : State) (n : StationIx) : Small c s (closeStation n s)
  | link (s : State) (f : LinkUnit → LinkUnit) (h : LinkLawful s.link → LinkLawful (f s.link)) : Small c s (modLink f s)
  | scanner (s : State) (f : Scanner → Scanner) : Small c s (modScanner f s)
  | round (s : State) (f : Round → Round) (h : ListLawful s.round.candidates → ListLawful (f s.round).candidates) :
      Small c s (modRound f s)
  | alert (s : State) (n : AlertIx) (f : Alert → Alert) (h : ∀ x, AlertLawful x → AlertLawful (f x)) :
      Small c s (modAlert n f s)
  | anemometer (s : State) (a : AnemIx) (f : Anemometer → Anemometer) : Small c s (modAnemometer a f s)
  | pool (s : State) (f : Pool → Pool)
      (h : ∀ x, (f x).records = x.records ∧ (f x).head = x.head ∧ (f x).freeCount = x.freeCount) :
      Small c s (modPool f s)
  | update (s : State) (x : CtxIx) (f : Context → Context) (h : ∀ y, (f y).owner = y.owner ∧ (f y).link = y.link) :
      Small c s (modContext x f s)
  | save (s : State) (x : CtxIx) (q : SaveRequest) (h : (s.robot q.robot).context = none) (hf : s.pool.freeCount ≠ 0)
      (hh : s.pool.head = some x) :
      Small c s (modRobot q.robot (fun b => { b with context := some x })
        (modContext x (fun _ => Context.taken q s.round.number s.siteSecond)
          (modPool (fun p => { p with head := (s.context x).link, freeCount := p.freeCount - 1 }) s)))
  | release (s : State) (x : CtxIx) (r : RobotId) (h : (s.robot r).context = some x) : Small c s (freeRecord x s)
  | marks (s : State) (ms : Mirrors)
      (h : ∀ m, (mirrorOf { s with mirrors := ms } m).count = (mirrorOf s m).count
        ∧ ((mirrorOf s m).pending = true → (mirrorOf { s with mirrors := ms } m).pending = true)
        ∧ ∀ ws, (mirrorOf { s with mirrors := ms } m).rewrite = some ws →
          ∃ vs, (mirrorOf s m).rewrite = some vs ∧ ∀ p ∈ ws, p ∈ vs) :
      Small c s { s with mirrors := ms }
  | rewriteStart (s : State) (m : MirrorId) (h : c = .mirrorRewriteStart m) : Small c s (beginRewrite m s)
  | rewriteEnd (s : State) (m : MirrorId) (h : c = .mirrorRewriteEnd m) : Small c s (endRewrite m s)
  | hostWrite (s : State) (a : Nat) (v : Word) (h : c = .hostMemoryWrite a v) :
      Small c s { s with memory := Memory.write s.memory a v }
  | runEntry (s : State) (p : Plant) (h : c = .runEntryChecks) : Small c s (enterPlant p s)
  | anemometers (s : State) (t : Table 4 Anemometer) : Small c s { s with anemometers := t }
  | leave (s : State) (h : c.writes .control ∨ c = .frameSent ∨ c = .setupAtFrameEnd) :
      Small c s
        { s with
          robots := tabulate fun r => (tget s.robots r).atLeave
          shuttles := tabulate fun k => (tget s.shuttles k).atLeave
          alerts := tabulate fun n => (tget s.alerts n).atLeave
          anemometers := tabulate fun a => { tget s.anemometers a with windowDue := none } }
  | powerOn (s : State) (h : c = .powerOnReset) : Small c s (powerOn s)
  | pinAssert (s : State) (h : c = .pinResetAssert) : Small c s (assertPin s)
  | pinRelease (s : State) (h : c = .pinResetRelease) : Small c s (releasePin s)
  | soft (s : State) (h : c.softResets) : Small c s (warmReset .soft s)

/-- A chain of small moves. -/
inductive Moves (c : Instr) : State → State → Prop
  | refl (s : State) : Moves c s s
  | tail {s t u : State} : Moves c s t → Small c t u → Moves c s u

theorem Moves.trans {c : Instr} {s t u : State} (h : Moves c s t) (k : Moves c t u) : Moves c s u := by
  induction k with
  | refl => exact h
  | tail _ hs ih => exact ih.tail hs

/-- An invariant that every small move keeps is kept by every chain. -/
theorem Moves.keeps {c : Instr} {P : State → Prop} (hP : ∀ s t, Small c s t → P s → P t) {s t : State}
    (h : Moves c s t) (hs : P s) : P t := by
  induction h with
  | refl => exact hs
  | tail _ hk ih => exact hP _ _ hk ih

/-! ### The shared operations as moves -/

variable {i₀ : Instr} {s₀ s : State}

theorem Moves.agenda (h : Moves i₀ s₀ s) (js : List Job) : Moves i₀ s₀ { s with agenda := js } := h.tail (.agenda s js)
theorem push_moves (j : Job) (h : Moves i₀ s₀ s) : Moves i₀ s₀ (push j s) := h.tail (.agenda s _)
theorem pushAll_moves (js : List Job) (h : Moves i₀ s₀ s) : Moves i₀ s₀ (pushAll js s) := h.tail (.agenda s _)
theorem advanceTo_moves (t : Nat) (h : Moves i₀ s₀ s) : Moves i₀ s₀ (advanceTo t s) := h.tail (.clock s _)
theorem setNotice_moves (n : Notice) (h : Moves i₀ s₀ s) : Moves i₀ s₀ (setNotice n s) := h.tail (.notice s n)
theorem answer_moves (n : SlotIx) (cls : AnswerClass) (d : Nat) (ws : List Word) (h : Moves i₀ s₀ s) :
    Moves i₀ s₀ (answer n cls d ws s) := h.tail (.answer s n cls d ws)
theorem modRow_moves (r : RowId) (f : Row → Row) (hf : ∀ x, (f x).tr = x.tr ∧ RowGrows x (f x)) (h : Moves i₀ s₀ s) :
    Moves i₀ s₀ (modRow r f s) := h.tail (.row s r f hf)
theorem modFarm_moves (f : Farm → Farm) (hf : ∀ x, FarmGrows x (f x)) (h : Moves i₀ s₀ s) :
    Moves i₀ s₀ (modFarm f s) := h.tail (.farm s f hf)
theorem modRobot_moves (r : RobotId) (f : Robot → Robot) (hf : ∀ x, (f x).context = x.context) (h : Moves i₀ s₀ s) :
    Moves i₀ s₀ (modRobot r f s) := h.tail (.robot s r f hf)
theorem modShuttle_moves (k : ShuttleIx) (f : Shuttle → Shuttle)
    (hf : (tget s.shuttles k).queue.length ≤ 8 → (f (tget s.shuttles k)).queue.length ≤ 8) (h : Moves i₀ s₀ s) :
    Moves i₀ s₀ (modShuttle k f s) := h.tail (.shuttle s k f hf)
theorem modStation_moves (n : StationIx) (f : Station → Station) (hf : ∀ x, (f x).srf = x.srf ∧ (f x).ts = x.ts)
    (h : Moves i₀ s₀ s) : Moves i₀ s₀ (modStation n f s) := h.tail (.station s n f hf)
theorem modLink_moves (f : LinkUnit → LinkUnit) (hf : LinkLawful s.link → LinkLawful (f s.link))
    (h : Moves i₀ s₀ s) : Moves i₀ s₀ (modLink f s) := h.tail (.link s f hf)
theorem modEntry_moves (i : LinkId) (f : LinkEntry → LinkEntry)
    (hf : EntryLawful (tget s.link.entries i) → EntryLawful (f (tget s.link.entries i))) (h : Moves i₀ s₀ s) :
    Moves i₀ s₀ (modEntry i f s) := by
  refine h.tail (.link s (fun l => { l with entries := tset l.entries i (f (tget l.entries i)) }) fun hl => ?_)
  refine ⟨fun j => ?_, hl.urgent, hl.held⟩
  dsimp only
  rw [tget_tset]
  split
  · exact hf (hl.entries i)
  · exact hl.entries j
theorem modScanner_moves (f : Scanner → Scanner) (h : Moves i₀ s₀ s) : Moves i₀ s₀ (modScanner f s) :=
  h.tail (.scanner s f)
theorem modRound_moves (f : Round → Round) (hf : ListLawful s.round.candidates → ListLawful (f s.round).candidates)
    (h : Moves i₀ s₀ s) : Moves i₀ s₀ (modRound f s) := h.tail (.round s f hf)
theorem modAlert_moves (n : AlertIx) (f : Alert → Alert) (hf : ∀ x, AlertLawful x → AlertLawful (f x))
    (h : Moves i₀ s₀ s) : Moves i₀ s₀ (modAlert n f s) := h.tail (.alert s n f hf)
theorem modAnemometer_moves (a : AnemIx) (f : Anemometer → Anemometer) (h : Moves i₀ s₀ s) :
    Moves i₀ s₀ (modAnemometer a f s) := h.tail (.anemometer s a f)
theorem modPool_moves (f : Pool → Pool)
    (hf : ∀ x, (f x).records = x.records ∧ (f x).head = x.head ∧ (f x).freeCount = x.freeCount) (h : Moves i₀ s₀ s) :
    Moves i₀ s₀ (modPool f s) := h.tail (.pool s f hf)
theorem modSilence_moves (start : Option Nat) (flag : Bool) (h : Moves i₀ s₀ s) :
    Moves i₀ s₀ (modBoard (fun b => { b with silent := flag, silenceStart := start }) s) :=
  h.tail (.silence s start flag)
theorem setFlags_moves (h : Moves i₀ s₀ s) : Moves i₀ s₀ (setFlags s) := h.tail (.flags s)
theorem closeStation_moves (n : StationIx) (h : Moves i₀ s₀ s) : Moves i₀ s₀ (closeStation n s) :=
  h.tail (.closeStation s n)

theorem mirrorOf_replace (s : State) (m m' : MirrorId) (x : Mirror) :
    mirrorOf { s with mirrors := s.mirrors.replace m x } m' = if m' = m then x else mirrorOf s m' := by
  cases m <;> cases m' <;> simp [mirrorOf, Mirrors.replace, tget_tset]

theorem modMirror_moves (m : MirrorId) (f : Mirror → Mirror) (hc : ∀ x, (f x).count = x.count)
    (hp : ∀ x, x.pending = true → (f x).pending = true)
    (hf : ∀ x ws, (f x).rewrite = some ws → ∃ vs, x.rewrite = some vs ∧ ∀ p ∈ ws, p ∈ vs) (h : Moves i₀ s₀ s) :
    Moves i₀ s₀ (modMirror m f s) := by
  refine h.tail (.marks s _ fun m' => ?_)
  rw [mirrorOf_replace]
  split
  · rename_i e; subst e; exact ⟨hc _, hp _, hf _⟩
  · exact ⟨rfl, id, fun ws hw => ⟨ws, hw, fun p hp => hp⟩⟩

theorem markRewrite_moves (m : MirrorId) (h : Moves i₀ s₀ s) : Moves i₀ s₀ (markRewrite m s) :=
  modMirror_moves m _ (fun _ => rfl) (fun _ _ => rfl) (fun _ ws hw => ⟨ws, hw, fun _ hp => hp⟩) h

theorem forEach_moves {α : Type} (xs : List α) (f : α → State → State)
    (hf : ∀ x t, Moves i₀ s₀ t → Moves i₀ s₀ (f x t)) (h : Moves i₀ s₀ s) : Moves i₀ s₀ (forEach xs f s) := by
  unfold forEach
  induction xs generalizing s with
  | nil => exact h
  | cons x rest ih => exact ih (hf x s h)

theorem takeSample_moves (n : StationIx) (sr : Nat) (hsr : sr ≤ 32768) (h : Moves i₀ s₀ s) :
    Moves i₀ s₀ (takeSample n sr s) := h.tail (.sample s n sr hsr)

theorem recomputeDaily_moves (r : RowId) (h : Moves i₀ s₀ s) : Moves i₀ s₀ (recomputeDaily r s) := by
  unfold recomputeDaily
  try dsimp only
  repeat' first
    | with_reducible assumption
    | with_reducible apply modRow_moves
    | exact fun _ => ⟨rfl, .refl, .refl, .refl, .refl⟩

theorem setTransmission_moves (r : RowId) (tr : Nat) (htr : RatiosBounded s → tr ≤ 32768) (h : Moves i₀ s₀ s) :
    Moves i₀ s₀ (setTransmission r tr s) := h.tail (.transmission s r tr htr)

theorem surfaceReading_moves (r : RobotId) (leg : Leg) (reading : Nat) (h : Moves i₀ s₀ s) :
    Moves i₀ s₀ (surfaceReading r leg reading s) := by
  unfold surfaceReading
  dsimp only
  split
  · split
    · exact modRobot_moves _ _ (fun _ => rfl) (setTransmission_moves _ _ (fun _ => Nat.min_le_right _ _) h)
    · exact h
  · exact h

theorem scoreRow_moves (r : RowId) (h : Moves i₀ s₀ s) : Moves i₀ s₀ (scoreRow r s) := by
  unfold scoreRow
  try dsimp only
  repeat' first
    | with_reducible assumption
    | with_reducible apply markRewrite_moves
    | with_reducible apply modRow_moves
    | with_reducible apply recomputeDaily_moves
    | exact fun _ => ⟨rfl, .refl, .refl, .refl, .refl⟩

theorem passEffect_moves (r : RowId) (c : Nat) (h : Moves i₀ s₀ s) : Moves i₀ s₀ (passEffect r c s) := by
  unfold passEffect
  refine markRewrite_moves _ (markRewrite_moves _ (modFarm_moves _ (fun x => ?_) (modRow_moves _ _ (fun x => ?_)
    (setTransmission_moves _ _ (fun _ => Nat.sub_le _ _) h))))
  · refine ⟨.refl, .satAdd, .refl, .refl, .refl, ?_, ?_, .refl⟩
    · dsimp only; split
      · exact .satAdd
      · exact .refl
    · dsimp only; split
      · exact .refl
      · exact .satAdd
  · exact ⟨rfl, .refl, .satAdd, .refl, .satAdd⟩

theorem robotEnergy_moves (r : RobotId) (diff : Nat) (h : Moves i₀ s₀ s) : Moves i₀ s₀ (robotEnergy r diff s) := by
  unfold robotEnergy
  dsimp only
  split
  · refine modFarm_moves _ (fun _ => ⟨.refl, .refl, .satAdd, .refl, .refl, .refl, .refl, .refl⟩) ?_
    split
    · exact modRow_moves _ _ (fun _ => ⟨rfl, .refl, .refl, .satAdd, .refl⟩) h
    · exact h
  · exact modFarm_moves _ (fun _ => ⟨.refl, .refl, .refl, .satAdd, .refl, .refl, .refl, .refl⟩) h

theorem shuttleEnergy_moves (diff : Nat) (h : Moves i₀ s₀ s) : Moves i₀ s₀ (shuttleEnergy diff s) :=
  modFarm_moves _ (fun _ => ⟨.refl, .refl, .refl, .refl, .satAdd, .refl, .refl, .refl⟩) h

theorem closeRow_moves (r : RowId) (h : Moves i₀ s₀ s) : Moves i₀ s₀ (closeRow r s) := by
  unfold closeRow
  dsimp only
  split
  · refine modFarm_moves _ (fun _ => ⟨.satAdd, .refl, .refl, .refl, .refl, .refl, .refl, .refl⟩)
      (modRow_moves _ _ (fun _ => ⟨rfl, .satAdd, .refl, .refl, .refl⟩) (setTransmission_moves _ _ (fun hb => ?_) h))
    split
    · rename_i n _
      have h1 := hb.1 r
      have h2 := (hb.2 n).2
      have : (tget s.rows r).tr * (tget s.stations n).ts ≤ 32768 * 32768 := Nat.mul_le_mul h1 h2
      show (tget s.rows r).tr * (tget s.stations n).ts / 32768 ≤ 32768
      omega
    · exact hb.1 r
  · exact h

theorem closeRecord_moves (h : Moves i₀ s₀ s) : Moves i₀ s₀ (closeRecord s) :=
  modFarm_moves _ (fun _ => ⟨.refl, .refl, .refl, .refl, .refl, .refl, .refl, .satAdd⟩) h

theorem startScan_moves (requested : Word) (h : Moves i₀ s₀ s) : Moves i₀ s₀ (startScan requested s) := by
  unfold startScan
  try dsimp only
  repeat' first
    | with_reducible assumption
    | with_reducible apply push_moves
    | with_reducible apply modScanner_moves
    | split

theorem requestScan_moves (mask : Word) (h : Moves i₀ s₀ s) : Moves i₀ s₀ (requestScan mask s) := by
  unfold requestScan
  try dsimp only
  repeat' first
    | with_reducible assumption
    | with_reducible apply modScanner_moves
    | with_reducible apply startScan_moves
    | split

theorem saturatedSample_moves (n : StationIx) (h : Moves i₀ s₀ s) : Moves i₀ s₀ (saturatedSample n s) := by
  unfold saturatedSample
  try dsimp only
  repeat' first
    | with_reducible assumption
    | with_reducible apply setNotice_moves
    | with_reducible apply modStation_moves
    | exact fun _ => ⟨rfl, rfl⟩
    | split

theorem darkSample_moves (n : StationIx) (h : Moves i₀ s₀ s) : Moves i₀ s₀ (darkSample n s) := by
  unfold darkSample
  try dsimp only
  repeat' first
    | with_reducible assumption
    | with_reducible apply modStation_moves
    | exact fun _ => ⟨rfl, rfl⟩

theorem sampleRatio_le (kn cn : Nat) : sampleRatio kn cn ≤ 32768 := by
  unfold sampleRatio
  split
  · exact Nat.le_refl _
  · rename_i hk
    apply Nat.div_le_of_le_mul
    rw [Nat.mul_comm kn]
    rw [Nat.mul_comm cn]
    exact Nat.mul_le_mul_left _ (by omega)

theorem judge_valid_le {b f k c sr : Nat} (h : judge b f k c = .valid sr) : sr ≤ 32768 := by
  unfold judge at h
  split at h
  · cases h
  · split at h
    · cases h
    · cases h; exact sampleRatio_le _ _

theorem validSample_moves (n : StationIx) (sr : Nat) (hsr : sr ≤ 32768) (h : Moves i₀ s₀ s) :
    Moves i₀ s₀ (validSample n sr s) :=
  takeSample_moves _ _ hsr (modStation_moves _ _ (fun _ => ⟨rfl, rfl⟩) h)

theorem judgeStation_moves (sc : Scan) (n : StationIx) (h : Moves i₀ s₀ s) : Moves i₀ s₀ (judgeStation sc n s) := by
  unfold judgeStation
  split
  · split
    · exact saturatedSample_moves n h
    · exact darkSample_moves n h
    · rename_i sr hv
      exact validSample_moves n sr (judge_valid_le hv) h
  · exact h

theorem endScan_moves (h : Moves i₀ s₀ s) : Moves i₀ s₀ (endScan s) := by
  unfold endScan
  try dsimp only
  repeat' first
    | with_reducible assumption
    | with_reducible apply modScanner_moves
    | with_reducible apply startScan_moves
    | split

theorem completeScan_moves (h : Moves i₀ s₀ s) : Moves i₀ s₀ (completeScan s) := by
  unfold completeScan
  try dsimp only
  repeat' first
    | with_reducible assumption
    | with_reducible apply setNotice_moves
    | with_reducible apply answer_moves
    | with_reducible apply modScanner_moves
    | with_reducible apply forEach_moves
    | with_reducible apply judgeStation_moves
    | with_reducible apply endScan_moves
    | split
    | (intro _ _ _; try dsimp only)

theorem dropFromScan_moves (n : StationIx) (h : Moves i₀ s₀ s) : Moves i₀ s₀ (dropFromScan n s) := by
  unfold dropFromScan
  try dsimp only
  repeat' first
    | with_reducible assumption
    | with_reducible apply modScanner_moves

theorem startPulse_moves (n : StationIx) (h : Moves i₀ s₀ s) : Moves i₀ s₀ (startPulse n s) := by
  unfold startPulse
  try dsimp only
  repeat' first
    | with_reducible assumption
    | with_reducible apply modStation_moves
    | with_reducible apply dropFromScan_moves
    | exact fun _ => ⟨rfl, rfl⟩
    | split

theorem endPulse_moves (n : StationIx) (h : Moves i₀ s₀ s) : Moves i₀ s₀ (endPulse n s) := by
  unfold endPulse
  try dsimp only
  repeat' first
    | with_reducible assumption
    | with_reducible apply modStation_moves
    | exact fun _ => ⟨rfl, rfl⟩

theorem runClose_moves (h : Moves i₀ s₀ s) : Moves i₀ s₀ (runClose s) := by
  unfold runClose
  try dsimp only
  repeat' first
    | with_reducible assumption
    | with_reducible apply closeStation_moves
    | with_reducible apply forEach_moves
    | with_reducible apply closeRow_moves
    | with_reducible apply closeRecord_moves
    | with_reducible apply startPulse_moves
    | (intro _ _ _; try dsimp only)

theorem closeAndAnswer_moves (n : SlotIx) (h : Moves i₀ s₀ s) : Moves i₀ s₀ (closeAndAnswer n s) := by
  unfold closeAndAnswer
  try dsimp only
  repeat' first
    | with_reducible assumption
    | with_reducible apply answer_moves
    | with_reducible apply runClose_moves

theorem LinkEntry.withCommand_lawful {e : LinkEntry} (cmd : Cmd) (owner : Owner) (h : EntryLawful e) :
    EntryLawful (e.withCommand cmd owner) := by
  unfold LinkEntry.withCommand
  split <;> exact ⟨h.1, h.2, h.3⟩

theorem setCommand_moves (i : LinkId) (cmd : Cmd) (owner : Owner) (h : Moves i₀ s₀ s) :
    Moves i₀ s₀ (setCommand i cmd owner s) := by
  unfold setCommand
  dsimp only
  split
  · split
    · exact modEntry_moves _ _ (LinkEntry.withCommand_lawful _ _) h
    · split
      · exact modEntry_moves _ _ (fun hh => ⟨hh.1, hh.2, hh.3⟩) h
      · split
        · exact modEntry_moves _ _ (LinkEntry.withCommand_lawful _ _) h
        · exact push_moves _ (modEntry_moves _ _ (LinkEntry.withCommand_lawful _ _) h)
  · exact push_moves _ h

theorem clearCommand_moves (i : LinkId) (h : Moves i₀ s₀ s) : Moves i₀ s₀ (clearCommand i s) := by
  unfold clearCommand
  try dsimp only
  repeat' first
    | with_reducible assumption
    | with_reducible apply modEntry_moves
    | exact fun hh => hh
    | exact fun hh => ⟨hh.1, hh.2, hh.3⟩

theorem commandRobot_moves (r : RobotId) (cmd : Cmd) (owner : Owner) (h : Moves i₀ s₀ s) : Moves i₀ s₀ (commandRobot r cmd owner s) := by
  unfold commandRobot
  try dsimp only
  repeat' first
    | with_reducible assumption
    | with_reducible apply setCommand_moves

theorem commandShuttle_moves (k : ShuttleIx) (cmd : Cmd) (h : Moves i₀ s₀ s) : Moves i₀ s₀ (commandShuttle k cmd s) := by
  unfold commandShuttle
  try dsimp only
  repeat' first
    | with_reducible assumption
    | with_reducible apply setCommand_moves

theorem pushPark_moves (n : AlertIx) (h : Moves i₀ s₀ s) : Moves i₀ s₀ (pushPark n s) := by
  unfold pushPark
  dsimp only
  split
  · rename_i hu
    refine modLink_moves _ (fun hh => ⟨hh.1, ?_, hh.3⟩) h
    simp only [List.length_append, List.length_cons, List.length_nil]
    omega
  · refine modLink_moves _ (fun hh => ⟨hh.1, hh.2, fun m => ?_⟩) h
    dsimp only
    rw [tget_tset]
    split
    · exact Nat.min_le_left _ _
    · exact hh.3 m

theorem pushUrgent_moves (i : LinkId) (h : Moves i₀ s₀ s) : Moves i₀ s₀ (pushUrgent i s) := by
  unfold pushUrgent
  split
  · rename_i hu
    refine modLink_moves _ (fun hh => ⟨hh.1, ?_, hh.3⟩) h
    simp only [List.length_append, List.length_cons, List.length_nil]
    omega
  · exact modEntry_moves _ _ (fun hh => ⟨hh.1, hh.2, hh.3⟩) h

theorem moveHeldPark_moves (n : AlertIx) (h : Moves i₀ s₀ s) : Moves i₀ s₀ (moveHeldPark n s) := by
  unfold moveHeldPark
  dsimp only
  refine modLink_moves _ (fun hh => ⟨hh.1, ?_, fun m => ?_⟩) h
  · have := hh.2
    simp only [List.length_append, List.length_replicate]
    omega
  · dsimp only
    rw [tget_tset]
    split
    · exact Nat.le_trans (Nat.sub_le _ _) (hh.3 n)
    · exact hh.3 m

theorem moveHeldMark_moves (i : LinkId) (h : Moves i₀ s₀ s) : Moves i₀ s₀ (moveHeldMark i s) := by
  unfold moveHeldMark
  split
  · rename_i hu
    refine modEntry_moves _ _ (fun hh => ⟨hh.1, hh.2, hh.3⟩) (modLink_moves _ (fun hh => ⟨hh.1, ?_, hh.3⟩) h)
    simp only [List.length_append, List.length_cons, List.length_nil]
    omega
  · exact h

theorem moveHeld_moves (h : Moves i₀ s₀ s) : Moves i₀ s₀ (moveHeld s) := by
  unfold moveHeld
  try dsimp only
  repeat' first
    | with_reducible assumption
    | with_reducible apply forEach_moves
    | with_reducible apply moveHeldPark_moves
    | with_reducible apply moveHeldMark_moves
    | (intro _ _ _; try dsimp only)

theorem emptyLink_moves (h : Moves i₀ s₀ s) : Moves i₀ s₀ (emptyLink s) := by
  unfold emptyLink
  refine modLink_moves _ (fun hh => ⟨fun i => ?_, by simp, fun n => by simp⟩) h
  rw [tget_tabulate]
  have := hh.1 i
  exact ⟨this.1, this.2, this.3⟩

theorem beginAddressed_moves (i : LinkId) (h : Moves i₀ s₀ s) : Moves i₀ s₀ (beginAddressed i s) := by
  unfold beginAddressed
  try dsimp only
  repeat' first
    | with_reducible assumption
    | with_reducible apply modLink_moves
    | with_reducible apply modEntry_moves
    | exact fun hh => hh
    | exact fun hh => ⟨hh.1, hh.2, hh.3⟩
    | exact fun hh => ⟨hh.1, hh.2, hh.3⟩
    | split

theorem beginBroadcast_moves (code mask : Byte) (h : Moves i₀ s₀ s) : Moves i₀ s₀ (beginBroadcast code mask s) := by
  unfold beginBroadcast
  try dsimp only
  repeat' first
    | with_reducible assumption
    | with_reducible apply modLink_moves
    | exact fun hh => hh
    | exact fun hh => ⟨hh.1, hh.2, hh.3⟩

theorem chooseUrgent_length {s : State} {xs rest : List Urgent} {u : Urgent} (h : chooseUrgent s xs = some (u, rest)) :
    rest.length ≤ xs.length := by
  induction xs with
  | nil => cases h
  | cons x xs ih =>
    cases x with
    | park n a b => simp only [chooseUrgent] at h; cases h; simp
    | station i =>
      simp only [chooseUrgent] at h
      split at h
      · cases h; simp
      · exact Nat.le_succ_of_le (ih h)

theorem beginTurn_moves (h : Moves i₀ s₀ s) : Moves i₀ s₀ (beginTurn s) := by
  unfold beginTurn
  split
  · rename_i hu
    exact beginBroadcast_moves _ _ (modLink_moves _
      (fun hh => ⟨hh.1, Nat.le_trans (chooseUrgent_length hu) hh.2, hh.3⟩) h)
  · rename_i hu
    exact beginAddressed_moves _ (modLink_moves _
      (fun hh => ⟨hh.1, Nat.le_trans (chooseUrgent_length hu) hh.2, hh.3⟩) h)
  · have h1 : Moves i₀ s₀ (modLink (fun l => { l with urgent := [] }) s) :=
      modLink_moves _ (fun hh => ⟨hh.1, by simp, hh.3⟩) h
    dsimp only
    split
    · exact beginAddressed_moves _ (modLink_moves _ (fun hh => ⟨hh.1, hh.2, hh.3⟩) h1)
    · exact h1

theorem setErrorCount_moves (i : LinkId) (n : Nat) (hn : (s.entry i).errorCount ≤ 256 → n ≤ 256) (h : Moves i₀ s₀ s) :
    Moves i₀ s₀ (setErrorCount i n s) := by
  have h1 : ∀ g : LinkEntry → Nat, (∀ e, g e = 0 ∨ g e = e.recovery) →
      Moves i₀ s₀ (modEntry i (fun e => { e with errorCount := n, recovery := g e }) s) := by
    intro g hg
    refine modEntry_moves _ _ (fun hh => ⟨hn hh.1, ?_, hh.3⟩) h
    have := hh.2
    show g (tget s.link.entries i) < 8
    rcases hg (tget s.link.entries i) with e | e <;> omega
  have h2 : ∀ (x y : State) (p : Prop) [Decidable p], Moves i₀ s₀ x → y = setNotice .linkState x →
      Moves i₀ s₀ (if p then x else y) := by
    intro x y p _ hx hy
    subst hy
    split
    · exact hx
    · exact setNotice_moves _ hx
  unfold setErrorCount
  dsimp only
  split
  · have h3 := h2 _ _ ((s.entry i).state = linkStateOf n) (h1 (fun _ => 0) (fun _ => .inl rfl)) rfl
    split
    · exact push_moves _ h3
    · exact h3
  · exact h2 _ _ ((s.entry i).state = linkStateOf n) (h1 (fun e => e.recovery) (fun _ => .inr rfl)) rfl

theorem badReply_moves (i : LinkId) (h : Moves i₀ s₀ s) : Moves i₀ s₀ (badReply i s) := by
  unfold badReply
  split
  · exact modEntry_moves _ _ (fun hh => ⟨hh.1, by simp, hh.3⟩) h
  · exact setErrorCount_moves i _ (fun _ => Nat.min_le_left _ _) h

theorem recover_moves (i : LinkId) (h : Moves i₀ s₀ s) : Moves i₀ s₀ (recover i s) := by
  unfold recover
  dsimp only
  have h1 : Moves i₀ s₀ (setNotice .linkState (modEntry i (fun e =>
      { e with errorCount := 0, recovery := 0, doze := false, synchronised := false, baseline := none }) s)) :=
    setNotice_moves _ (modEntry_moves _ _ (fun hh => ⟨by simp, by simp, hh.3⟩) h)
  split
  · split
    · exact push_moves _ (modRobot_moves _ _ (fun _ => rfl) h1)
    · exact modRobot_moves _ _ (fun _ => rfl) h1
  · exact h1

theorem goodProbe_moves (i : LinkId) (h : Moves i₀ s₀ s) : Moves i₀ s₀ (goodProbe i s) := by
  unfold goodProbe
  dsimp only
  split
  · exact recover_moves i h
  · exact modEntry_moves _ _ (fun hh => ⟨hh.1, by dsimp only; omega, hh.3⟩) h

theorem countNoise_moves (i : LinkId) (noisy : Bool) (h : Moves i₀ s₀ s) : Moves i₀ s₀ (countNoise i noisy s) := by
  unfold countNoise
  split
  · exact modEntry_moves _ _ (fun hh => ⟨hh.1, hh.2, Nat.min_le_left _ _⟩) h
  · exact h

theorem acknowledge_moves (i : LinkId) (p : PendingCommand) (h : Moves i₀ s₀ s) : Moves i₀ s₀ (acknowledge i p s) := by
  unfold acknowledge
  try dsimp only
  repeat' first
    | with_reducible assumption
    | with_reducible apply push_moves
    | with_reducible apply modEntry_moves
    | exact fun hh => hh
    | exact fun hh => ⟨hh.1, hh.2, hh.3⟩

theorem synchronise_moves (i : LinkId) (echo : Byte) (h : Moves i₀ s₀ s) : Moves i₀ s₀ (synchronise i echo s) := by
  unfold synchronise
  try dsimp only
  repeat' first
    | with_reducible assumption
    | with_reducible apply modEntry_moves
    | with_reducible apply acknowledge_moves
    | exact fun hh => hh
    | exact fun hh => ⟨hh.1, hh.2, hh.3⟩
    | split

theorem compareEcho_moves (i : LinkId) (echo : Byte) (h : Moves i₀ s₀ s) : Moves i₀ s₀ (compareEcho i echo s) := by
  unfold compareEcho
  try dsimp only
  repeat' first
    | with_reducible assumption
    | with_reducible apply acknowledge_moves
    | split

theorem setBaseline_moves (i : LinkId) (reading : Nat) (h : Moves i₀ s₀ s) : Moves i₀ s₀ (setBaseline i reading s) := by
  unfold setBaseline
  try dsimp only
  repeat' first
    | with_reducible assumption
    | with_reducible apply modEntry_moves
    | exact fun hh => hh
    | exact fun hh => ⟨hh.1, hh.2, hh.3⟩

theorem deliver_moves (i : LinkId) (payload : List Byte) (h : Moves i₀ s₀ s) : Moves i₀ s₀ (deliver i payload s) := by
  unfold deliver
  try dsimp only
  repeat' first
    | with_reducible assumption
    | with_reducible apply push_moves
    | with_reducible apply synchronise_moves
    | with_reducible apply compareEcho_moves
    | with_reducible apply setBaseline_moves
    | split

theorem pushRepeatCheck_moves (i : LinkId) (t : Turn) (h : Moves i₀ s₀ s) : Moves i₀ s₀ (pushRepeatCheck i t s) := by
  unfold pushRepeatCheck
  try dsimp only
  repeat' first
    | with_reducible assumption
    | with_reducible apply push_moves
    | split

theorem goodReply_moves (i : LinkId) (t : Turn) (payload : List Byte) (h : Moves i₀ s₀ s) :
    Moves i₀ s₀ (goodReply i t payload s) := by
  unfold goodReply
  split
  · exact goodProbe_moves i h
  · exact pushRepeatCheck_moves i t (deliver_moves i payload (setErrorCount_moves i _ (fun hh => by omega) h))

theorem checkRepeatLimit_moves (i : LinkId) (q : Byte) (h : Moves i₀ s₀ s) : Moves i₀ s₀ (checkRepeatLimit i q s) := by
  unfold checkRepeatLimit
  try dsimp only
  repeat' first
    | with_reducible assumption
    | with_reducible apply push_moves
    | with_reducible apply clearCommand_moves
    | split

theorem badTurn_moves (i : LinkId) (t : Turn) (h : Moves i₀ s₀ s) : Moves i₀ s₀ (badTurn i t s) := by
  unfold badTurn
  try dsimp only
  repeat' first
    | with_reducible assumption
    | with_reducible apply badReply_moves
    | with_reducible apply checkRepeatLimit_moves
    | split

theorem endTurn_moves (t : Turn) (payload : Option (List Byte)) (noisy : Bool) (h : Moves i₀ s₀ s) : Moves i₀ s₀ (endTurn t payload noisy s) := by
  unfold endTurn
  try dsimp only
  repeat' first
    | with_reducible assumption
    | with_reducible apply modLink_moves
    | with_reducible apply countNoise_moves
    | with_reducible apply goodReply_moves
    | with_reducible apply badTurn_moves
    | exact fun hh => hh
    | exact fun hh => ⟨hh.1, hh.2, hh.3⟩
    | split

theorem ListLawful.nil : ListLawful [] := ⟨List.nodup_nil, List.Pairwise.nil⟩

theorem ListLawful.sublist {xs ys : List (RowId × Bool)} (h : ListLawful xs) (hs : ys.Sublist xs) : ListLawful ys :=
  ⟨h.once.sublist (hs.map _), h.forcedFirst.sublist hs⟩

theorem leaveList_moves (r : RowId) (h : Moves i₀ s₀ s) : Moves i₀ s₀ (leaveList r s) :=
  modRound_moves _ (fun hh => hh.sublist List.filter_sublist) h

theorem mem_insertScored {s : State} {r : RowId} {xs : List (RowId × Bool)} {p : RowId × Bool}
    (h : p ∈ insertScored s r xs) : p = (r, false) ∨ p ∈ xs := by
  induction xs with
  | nil => simpa [insertScored] using h
  | cons x rest ih =>
    obtain ⟨q, f⟩ := x
    unfold insertScored at h
    split at h
    · rcases List.mem_cons.1 h with h | h
      · exact .inr (by simp [h])
      · rcases ih h with h | h
        · exact .inl h
        · exact .inr (by simp [h])
    · rcases List.mem_cons.1 h with h | h
      · exact .inl h
      · exact .inr h

/-- R123, R125: a row put at its score position leaves the list lawful. -/
theorem ListLawful.insertScored {s : State} {r : RowId} {xs : List (RowId × Bool)} (h : ListLawful xs)
    (hr : r ∉ xs.map Prod.fst) : ListLawful (insertScored s r xs) := by
  induction xs with
  | nil => exact ⟨by simp [Machine.insertScored], by simp [Machine.insertScored]⟩
  | cons x rest ih =>
    obtain ⟨q, f⟩ := x
    have h1 := List.nodup_cons.1 (show (q :: rest.map Prod.fst).Nodup from h.once)
    have h2 := List.pairwise_cons.1 h.forcedFirst
    have hqr : r ≠ q := fun e => hr (by simp [e])
    have hrest : r ∉ rest.map Prod.fst := fun e => hr (by simp [e])
    have hl := ih ⟨h1.2, h2.2⟩ hrest
    unfold Machine.insertScored
    split
    · refine ⟨List.nodup_cons.2 ⟨fun hm => ?_, hl.once⟩, List.pairwise_cons.2 ⟨fun p hp => ?_, hl.forcedFirst⟩⟩
      · obtain ⟨p, hp, hq⟩ := List.mem_map.1 hm
        rcases mem_insertScored hp with rfl | hp
        · exact hqr hq
        · exact h1.1 (List.mem_map.2 ⟨p, hp, hq⟩)
      · rcases mem_insertScored hp with rfl | hp
        · intro hf; cases hf
        · exact h2.1 p hp
    · rename_i hf
      have hff : f = false := by
        cases f
        · rfl
        · exact absurd (by simp) hf
      refine ⟨List.nodup_cons.2 ⟨hr, h.once⟩, List.pairwise_cons.2 ⟨fun p hp hpt => ?_, h.forcedFirst⟩⟩
      rcases List.mem_cons.1 hp with rfl | hp
      · exact absurd hpt (by simp [hff])
      · exact absurd (h2.1 p hp hpt) (by simp [hff])

theorem not_candidate {s : State} {r : RowId} (h : isCandidate s r = false) : r ∉ s.round.candidates.map Prod.fst := by
  intro hm
  obtain ⟨p, hp, hq⟩ := List.mem_map.1 hm
  have : isCandidate s r = true := List.any_eq_true.2 ⟨p, hp, by simp [hq]⟩
  rw [h] at this
  cases this

theorem reinsertRow_moves (r : RowId) (h : Moves i₀ s₀ s) : Moves i₀ s₀ (reinsertRow r s) := by
  unfold reinsertRow
  split
  · rename_i hr
    refine push_moves _ (modRound_moves _ (fun hh => hh.insertScored (not_candidate ?_)) h)
    unfold reinsertable at hr
    simp only [Bool.and_eq_true, Bool.not_eq_true'] at hr
    exact hr.2
  · exact h

theorem updateContext_moves (x : CtxIx) (q : SaveRequest) (h : Moves i₀ s₀ s) :
    Moves i₀ s₀ (updateContext x q s) :=
  markRewrite_moves _ (h.tail (.update s x (fun y => y.updated q s.round.number s.siteSecond) fun _ => ⟨rfl, rfl⟩))

theorem checkLowMark_moves (h : Moves i₀ s₀ s) : Moves i₀ s₀ (checkLowMark s) := by
  unfold checkLowMark
  split
  · exact setNotice_moves _ (modPool_moves _ (fun _ => ⟨rfl, rfl, rfl⟩) h)
  · exact h

theorem takeContext_moves (x : CtxIx) (q : SaveRequest) (hc : (s.robot q.robot).context = none)
    (hf : s.pool.freeCount ≠ 0) (hh : s.pool.head = some x) (h : Moves i₀ s₀ s) :
    Moves i₀ s₀ (takeContext x q s) :=
  markRewrite_moves _ (markRewrite_moves _ (markRewrite_moves _
    (leaveList_moves _ (checkLowMark_moves (h.tail (.save s x q hc hf hh))))))

theorem failSave_moves (h : Moves i₀ s₀ s) : Moves i₀ s₀ (failSave s) :=
  setNotice_moves _ (markRewrite_moves _ (modPool_moves _ (fun _ => ⟨rfl, rfl, rfl⟩) h))

theorem saveContext_moves (q : SaveRequest) (h : Moves i₀ s₀ s) : Moves i₀ s₀ (saveContext q s).2 := by
  unfold saveContext
  split
  · exact updateContext_moves _ _ h
  · rename_i hc
    split
    · exact failSave_moves h
    · rename_i hf
      split
      · rename_i x hh
        exact takeContext_moves x q hc hf hh h
      · exact failSave_moves h

theorem freeContext_moves (x : CtxIx) (r : RobotId) (hr : (s.robot r).context = some x) (h : Moves i₀ s₀ s) :
    Moves i₀ s₀ (freeContext x s) := by
  have hm := markRewrite_moves .farm (markRewrite_moves (.context x) (h.tail (.release s x r hr)))
  unfold freeContext
  dsimp only
  split
  · exact markRewrite_moves _ hm
  · exact hm

theorem countPass_moves (f : Nat) (h : Moves i₀ s₀ s) : Moves i₀ s₀ (countPass f s) := by
  unfold countPass
  try dsimp only
  repeat' first
    | with_reducible assumption
    | with_reducible apply modRound_moves
    | exact fun hh => hh
    | split

theorem abandonEffect_moves (row : RowId) (c : Nat) (h : Moves i₀ s₀ s) : Moves i₀ s₀ (abandonEffect row c s) := by
  unfold abandonEffect
  try dsimp only
  repeat' first
    | with_reducible assumption
    | with_reducible apply passEffect_moves
    | with_reducible apply countPass_moves
    | split

theorem clearPass_moves (r : RobotId) (h : Moves i₀ s₀ s) : Moves i₀ s₀ (clearPass r s) := by
  unfold clearPass
  try dsimp only
  repeat' first
    | with_reducible assumption
    | with_reducible apply push_moves
    | with_reducible apply modRobot_moves
    | exact fun _ => rfl

@[simp] theorem recomputeDaily_robots (r : RowId) (s : State) : (recomputeDaily r s).robots = s.robots := rfl
@[simp] theorem setTransmission_robots (r : RowId) (n : Nat) (s : State) : (setTransmission r n s).robots = s.robots := rfl
@[simp] theorem passEffect_robots (r : RowId) (n : Nat) (s : State) : (passEffect r n s).robots = s.robots := by
  simp [passEffect]

theorem abandonEffect_robots (row : RowId) (n : Nat) (s : State) : (abandonEffect row n s).robots = s.robots := by
  unfold abandonEffect
  dsimp only
  split <;> simp [countPass]

theorem abandonContext_moves (x : CtxIx) (r : RobotId) (hr : (s.robot r).context = some x) (h : Moves i₀ s₀ s) :
    Moves i₀ s₀ (abandonContext x s) := by
  have hm : Moves i₀ s₀ (freeContext x (abandonEffect (s.context x).rowId (s.context x).covered s)) := by
    refine freeContext_moves x r ?_ (abandonEffect_moves _ _ h)
    rw [State.robot, abandonEffect_robots]; exact hr
  unfold abandonContext
  dsimp only
  split
  · split
    · exact clearPass_moves _ hm
    · exact hm
  · exact hm

theorem abandonOwned_moves (r : RobotId) (h : Moves i₀ s₀ s) : Moves i₀ s₀ (abandonOwned r s) := by
  unfold abandonOwned
  split
  · rename_i x hx
    exact abandonContext_moves x r hx h
  · exact h

theorem contextAtRow_moves (r : RobotId) (row : RowId) (h : Moves i₀ s₀ s) :
    Moves i₀ s₀ (contextAtRow r row s) := by
  unfold contextAtRow
  split
  · rename_i x hx
    split
    · exact leaveList_moves _ h
    · exact abandonContext_moves x r hx h
  · exact h

theorem endUnstarted_moves (r : RobotId) (row : RowId) (h : Moves i₀ s₀ s) : Moves i₀ s₀ (endUnstarted r row s) := by
  unfold endUnstarted
  try dsimp only
  repeat' first
    | with_reducible assumption
    | with_reducible apply reinsertRow_moves
    | with_reducible apply clearPass_moves

theorem endWithEffect_moves (r : RobotId) (row : RowId) (c : Nat) (h : Moves i₀ s₀ s) : Moves i₀ s₀ (endWithEffect r row c s) := by
  unfold endWithEffect
  try dsimp only
  repeat' first
    | with_reducible assumption
    | with_reducible apply passEffect_moves
    | with_reducible apply countPass_moves
    | with_reducible apply clearPass_moves

theorem endInterrupted_moves (r : RobotId) (cause : ContextCause) (h : Moves i₀ s₀ s) :
    Moves i₀ s₀ (endInterrupted r cause s) := by
  unfold endInterrupted
  dsimp only
  split
  · exact h
  · split
    · exact push_moves _ (endUnstarted_moves _ _ h)
    · refine push_moves _ ?_
      split
      · exact clearPass_moves _ (saveContext_moves _ h)
      · exact endWithEffect_moves _ _ _ (saveContext_moves _ h)

theorem endAbandoned_moves (r : RobotId) (h : Moves i₀ s₀ s) : Moves i₀ s₀ (endAbandoned r s) := by
  unfold endAbandoned
  split
  · exact h
  · split
    · split
      · exact endUnstarted_moves _ _ h
      · exact endWithEffect_moves _ _ _ h
    · split
      · rename_i x hx
        exact clearPass_moves _ (abandonContext_moves x r hx h)
      · exact endWithEffect_moves _ _ _ h

theorem setHoming_moves (r : RobotId) (h : Moves i₀ s₀ s) : Moves i₀ s₀ (setHoming r s) := by
  unfold setHoming
  try dsimp only
  repeat' first
    | with_reducible assumption
    | with_reducible apply modRobot_moves
    | exact fun _ => rfl

theorem plannerDock_moves (r : RobotId) (h : Moves i₀ s₀ s) : Moves i₀ s₀ (plannerDock r s) := by
  unfold plannerDock
  try dsimp only
  repeat' first
    | with_reducible assumption
    | with_reducible apply commandRobot_moves
    | split

theorem endIssued_moves (r : RobotId) (cause : ContextCause) (h : Moves i₀ s₀ s) :
    Moves i₀ s₀ (endIssued r cause s) := by
  unfold endIssued
  dsimp only
  have hm : Moves i₀ s₀ (setHoming r s) := setHoming_moves _ h
  split
  · exact h
  · split
    · exact endUnstarted_moves _ _ hm
    · split
      · exact clearPass_moves _ hm
      · split
        · exact clearPass_moves _ (saveContext_moves _ hm)
        · exact endWithEffect_moves _ _ _ (saveContext_moves _ hm)

theorem endComplete_moves (r : RobotId) (p : Pass) (h : Moves i₀ s₀ s) : Moves i₀ s₀ (endComplete r p s) := by
  unfold endComplete
  try dsimp only
  repeat' first
    | with_reducible assumption
    | with_reducible apply endWithEffect_moves

theorem reserveRow_moves (row : RowId) (r : RobotId) (h : Moves i₀ s₀ s) : Moves i₀ s₀ (reserveRow row r s) := by
  unfold reserveRow
  try dsimp only
  repeat' first
    | with_reducible assumption
    | with_reducible apply modRow_moves
    | exact fun _ => ⟨rfl, .refl, .refl, .refl, .refl⟩

theorem releaseRow_moves (row : RowId) (r : RobotId) (h : Moves i₀ s₀ s) : Moves i₀ s₀ (releaseRow row r s) := by
  unfold releaseRow
  try dsimp only
  repeat' first
    | with_reducible assumption
    | with_reducible apply modRow_moves
    | exact fun _ => ⟨rfl, .refl, .refl, .refl, .refl⟩

theorem answerTransfer_moves (k : ShuttleIx) (n : SlotIx) (destination : RowId) (o : TransferOutcome) (h : Moves i₀ s₀ s) : Moves i₀ s₀ (answerTransfer k n destination o s) := by
  unfold answerTransfer
  try dsimp only
  repeat' first
    | with_reducible assumption
    | with_reducible apply answer_moves
    | split

theorem finishTransfer_moves (k : ShuttleIx) (t : Transfer) (o : TransferOutcome) (h : Moves i₀ s₀ s) : Moves i₀ s₀ (finishTransfer k t o s) := by
  unfold finishTransfer
  try dsimp only
  repeat' first
    | with_reducible assumption
    | with_reducible apply push_moves
    | with_reducible apply answerTransfer_moves
    | split

theorem leftFullQueue_moves (before : Nat) (k : ShuttleIx) (h : Moves i₀ s₀ s) : Moves i₀ s₀ (leftFullQueue before k s) := by
  unfold leftFullQueue
  try dsimp only
  repeat' first
    | with_reducible assumption
    | with_reducible apply push_moves
    | split

theorem dropRequests_moves (k : ShuttleIx) (p : Request → Bool) (o : TransferOutcome) (h : Moves i₀ s₀ s) : Moves i₀ s₀ (dropRequests k p o s) := by
  unfold dropRequests
  try dsimp only
  repeat' first
    | with_reducible assumption
    | with_reducible apply push_moves
    | with_reducible apply markRewrite_moves
    | with_reducible apply modShuttle_moves
    | with_reducible apply forEach_moves
    | with_reducible apply releaseRow_moves
    | with_reducible apply answerTransfer_moves
    | with_reducible apply leftFullQueue_moves
    | exact fun hh => hh
    | exact fun hh => Nat.le_trans (List.length_filter_le _ _) hh
    | split
    | (intro _ _ _; try dsimp only)

theorem dropRobotRequest_moves (r : RobotId) (o : TransferOutcome) (h : Moves i₀ s₀ s) : Moves i₀ s₀ (dropRobotRequest r o s) := by
  unfold dropRobotRequest
  try dsimp only
  repeat' first
    | with_reducible assumption
    | with_reducible apply dropRequests_moves
    | split

theorem startDrive_moves (k : ShuttleIx) (target : Nat) (purpose : Purpose) (h : Moves i₀ s₀ s) : Moves i₀ s₀ (startDrive k target purpose s) := by
  unfold startDrive
  try dsimp only
  repeat' first
    | with_reducible assumption
    | with_reducible apply modShuttle_moves
    | with_reducible apply commandShuttle_moves
    | exact fun hh => hh

theorem startDockStage_moves (k : ShuttleIx) (state : ShuttleState) (stage : Stage) (h : Moves i₀ s₀ s) : Moves i₀ s₀ (startDockStage k state stage s) := by
  unfold startDockStage
  try dsimp only
  repeat' first
    | with_reducible assumption
    | with_reducible apply modShuttle_moves
    | exact fun hh => hh

theorem goToShelter_moves (k : ShuttleIx) (h : Moves i₀ s₀ s) : Moves i₀ s₀ (goToShelter k s) := by
  unfold goToShelter
  try dsimp only
  repeat' first
    | with_reducible assumption
    | with_reducible apply modShuttle_moves
    | with_reducible apply startDrive_moves
    | exact fun hh => hh

theorem becomeIdle_moves (k : ShuttleIx) (h : Moves i₀ s₀ s) : Moves i₀ s₀ (becomeIdle k s) := by
  unfold becomeIdle
  try dsimp only
  repeat' first
    | with_reducible assumption
    | with_reducible apply push_moves
    | with_reducible apply modShuttle_moves
    | with_reducible apply goToShelter_moves
    | exact fun hh => hh
    | exact fun hh => Nat.le_trans (List.length_filter_le _ _) hh
    | split

theorem enterFault_moves (k : ShuttleIx) (h : Moves i₀ s₀ s) : Moves i₀ s₀ (enterFault k s) := by
  unfold enterFault
  try dsimp only
  repeat' first
    | with_reducible assumption
    | with_reducible apply modShuttle_moves
    | with_reducible apply dropRequests_moves
    | exact fun hh => hh

theorem emptyTransfer_moves (k : ShuttleIx) (h : Moves i₀ s₀ s) : Moves i₀ s₀ (emptyTransfer k s) := by
  unfold emptyTransfer
  try dsimp only
  repeat' first
    | with_reducible assumption
    | with_reducible apply modShuttle_moves
    | exact fun hh => hh

theorem startTransfer_moves (k : ShuttleIx) (q : Request) (h : Moves i₀ s₀ s) : Moves i₀ s₀ (startTransfer k q s) := by
  unfold startTransfer
  try dsimp only
  repeat' first
    | with_reducible assumption
    | with_reducible apply markRewrite_moves
    | with_reducible apply modShuttle_moves
    | with_reducible apply leftFullQueue_moves
    | with_reducible apply startDrive_moves
    | exact fun hh => hh
    | exact fun hh => Nat.le_trans (List.length_filter_le _ _) hh

theorem evaluateStart_moves (k : ShuttleIx) (h : Moves i₀ s₀ s) : Moves i₀ s₀ (evaluateStart k s) := by
  unfold evaluateStart
  try dsimp only
  repeat' first
    | with_reducible assumption
    | with_reducible apply startTransfer_moves
    | split

theorem joinQueue_moves (k : ShuttleIx) (q : Request) (hk : (tget s.shuttles k).queue.length < 8)
    (h : Moves i₀ s₀ s) : Moves i₀ s₀ (joinQueue k q s) := by
  refine push_moves _ (markRewrite_moves _ (modShuttle_moves _ _ (fun _ => ?_) (reserveRow_moves _ _ h)))
  show ((tget s.shuttles k).queue ++ [q]).length ≤ 8
  simp only [List.length_append, List.length_cons, List.length_nil]
  omega

theorem vacate_moves (r : RobotId) (h : Moves i₀ s₀ s) : Moves i₀ s₀ (vacate r s) := by
  unfold vacate
  try dsimp only
  repeat' first
    | with_reducible assumption
    | with_reducible apply modRow_moves
    | with_reducible apply modRobot_moves
    | with_reducible apply modShuttle_moves
    | exact fun _ => rfl
    | exact fun _ => ⟨rfl, .refl, .refl, .refl, .refl⟩
    | exact fun hh => hh
    | exact fun hh => Nat.le_trans (List.length_filter_le _ _) hh
    | split

theorem boardRobot_moves (k : ShuttleIx) (r : RobotId) (h : Moves i₀ s₀ s) : Moves i₀ s₀ (boardRobot k r s) := by
  unfold boardRobot
  try dsimp only
  repeat' first
    | with_reducible assumption
    | with_reducible apply vacate_moves
    | with_reducible apply modRow_moves
    | with_reducible apply modRobot_moves
    | with_reducible apply modShuttle_moves
    | exact fun _ => rfl
    | exact fun _ => ⟨rfl, .refl, .refl, .refl, .refl⟩
    | exact fun hh => hh

theorem alightRobot_moves (r : RobotId) (destination : RowId) (h : Moves i₀ s₀ s) : Moves i₀ s₀ (alightRobot r destination s) := by
  unfold alightRobot
  try dsimp only
  repeat' first
    | with_reducible assumption
    | with_reducible apply vacate_moves
    | with_reducible apply modRow_moves
    | with_reducible apply modRobot_moves
    | with_reducible apply modShuttle_moves
    | exact fun _ => rfl
    | exact fun _ => ⟨rfl, .refl, .refl, .refl, .refl⟩

theorem haltBoarding_moves (r : RobotId) (h : Moves i₀ s₀ s) : Moves i₀ s₀ (haltBoarding r s) := by
  unfold haltBoarding
  try dsimp only
  repeat' first
    | with_reducible assumption
    | with_reducible apply modRobot_moves
    | exact fun _ => rfl

theorem haltAboard_moves (r : RobotId) (h : Moves i₀ s₀ s) : Moves i₀ s₀ (haltAboard r s) := by
  unfold haltAboard
  try dsimp only
  repeat' first
    | with_reducible assumption
    | with_reducible apply modRobot_moves
    | exact fun _ => rfl

theorem haltBoth_moves (k : ShuttleIx) (r : RobotId) (h : Moves i₀ s₀ s) : Moves i₀ s₀ (haltBoth k r s) := by
  unfold haltBoth
  try dsimp only
  repeat' first
    | with_reducible assumption
    | with_reducible apply commandRobot_moves
    | with_reducible apply commandShuttle_moves

theorem failFetch_moves (k : ShuttleIx) (t : Transfer) (h : Moves i₀ s₀ s) : Moves i₀ s₀ (failFetch k t s) := by
  unfold failFetch
  try dsimp only
  repeat' first
    | with_reducible assumption
    | with_reducible apply releaseRow_moves
    | with_reducible apply finishTransfer_moves
    | with_reducible apply enterFault_moves
    | with_reducible apply emptyTransfer_moves

theorem failBoard_moves (k : ShuttleIx) (t : Transfer) (cause : TransferCause) (h : Moves i₀ s₀ s) : Moves i₀ s₀ (failBoard k t cause s) := by
  unfold failBoard
  try dsimp only
  repeat' first
    | with_reducible assumption
    | with_reducible apply releaseRow_moves
    | with_reducible apply finishTransfer_moves
    | with_reducible apply enterFault_moves
    | with_reducible apply emptyTransfer_moves
    | with_reducible apply haltBoarding_moves
    | with_reducible apply haltBoth_moves

theorem strand_moves (k : ShuttleIx) (t : Transfer) (h : Moves i₀ s₀ s) : Moves i₀ s₀ (strand k t s) := by
  unfold strand
  repeat' first
    | with_reducible assumption
    | with_reducible apply modShuttle_moves
    | with_reducible apply emptyTransfer_moves
    | with_reducible apply releaseRow_moves
    | exact fun hh => hh
    | split

theorem failAboard_moves (k : ShuttleIx) (t : Transfer) (cause : TransferCause) (h : Moves i₀ s₀ s) : Moves i₀ s₀ (failAboard k t cause s) := by
  unfold failAboard
  try dsimp only
  repeat' first
    | with_reducible assumption
    | with_reducible apply strand_moves
    | with_reducible apply modShuttle_moves
    | with_reducible apply finishTransfer_moves
    | with_reducible apply enterFault_moves
    | with_reducible apply haltAboard_moves
    | with_reducible apply haltBoth_moves

theorem failStage_moves (k : ShuttleIx) (h : Moves i₀ s₀ s) : Moves i₀ s₀ (failStage k s) := by
  unfold failStage
  try dsimp only
  repeat' first
    | with_reducible assumption
    | with_reducible apply failFetch_moves
    | with_reducible apply failBoard_moves
    | with_reducible apply failAboard_moves
    | split

theorem failPlace_moves (k : ShuttleIx) (h : Moves i₀ s₀ s) : Moves i₀ s₀ (failPlace k s) := by
  unfold failPlace
  try dsimp only
  repeat' first
    | with_reducible assumption
    | with_reducible apply commandShuttle_moves
    | with_reducible apply releaseRow_moves
    | with_reducible apply finishTransfer_moves
    | with_reducible apply becomeIdle_moves
    | with_reducible apply emptyTransfer_moves
    | split

theorem failConflict_moves (k : ShuttleIx) (h : Moves i₀ s₀ s) : Moves i₀ s₀ (failConflict k s) := by
  unfold failConflict
  try dsimp only
  repeat' first
    | with_reducible assumption
    | with_reducible apply commandShuttle_moves
    | with_reducible apply finishTransfer_moves
    | with_reducible apply becomeIdle_moves
    | with_reducible apply emptyTransfer_moves
    | with_reducible apply failBoard_moves
    | with_reducible apply failAboard_moves
    | split

theorem failShelter_moves (k : ShuttleIx) (h : Moves i₀ s₀ s) : Moves i₀ s₀ (failShelter k s) := by
  unfold failShelter
  try dsimp only
  repeat' first
    | with_reducible assumption
    | with_reducible apply enterFault_moves

theorem completeFetch_moves (k : ShuttleIx) (t : Transfer) (h : Moves i₀ s₀ s) : Moves i₀ s₀ (completeFetch k t s) := by
  unfold completeFetch
  try dsimp only
  repeat' first
    | with_reducible assumption
    | with_reducible apply commandRobot_moves
    | with_reducible apply startDockStage_moves

theorem completeBoard_moves (k : ShuttleIx) (t : Transfer) (h : Moves i₀ s₀ s) : Moves i₀ s₀ (completeBoard k t s) := by
  unfold completeBoard
  try dsimp only
  repeat' first
    | with_reducible assumption
    | with_reducible apply modShuttle_moves
    | with_reducible apply startDrive_moves
    | with_reducible apply boardRobot_moves
    | exact fun hh => hh

theorem completeCarry_moves (k : ShuttleIx) (t : Transfer) (h : Moves i₀ s₀ s) : Moves i₀ s₀ (completeCarry k t s) := by
  unfold completeCarry
  try dsimp only
  repeat' first
    | with_reducible assumption
    | with_reducible apply commandRobot_moves
    | with_reducible apply startDockStage_moves

theorem endTransfer_moves (k : ShuttleIx) (t : Transfer) (h : Moves i₀ s₀ s) : Moves i₀ s₀ (endTransfer k t s) := by
  unfold endTransfer
  try dsimp only
  repeat' first
    | with_reducible assumption
    | with_reducible apply push_moves
    | with_reducible apply modShuttle_moves
    | with_reducible apply finishTransfer_moves
    | with_reducible apply goToShelter_moves
    | with_reducible apply emptyTransfer_moves
    | with_reducible apply alightRobot_moves
    | exact fun hh => hh
    | exact fun hh => Nat.le_trans (List.length_filter_le _ _) hh
    | split

theorem endStranded_moves (k : ShuttleIx) (t : Transfer) (h : Moves i₀ s₀ s) : Moves i₀ s₀ (endStranded k t s) := by
  unfold endStranded
  try dsimp only
  repeat' first
    | with_reducible assumption
    | with_reducible apply emptyTransfer_moves
    | with_reducible apply alightRobot_moves

theorem cancelFetch_moves (k : ShuttleIx) (t : Transfer) (detail : Nat) (h : Moves i₀ s₀ s) : Moves i₀ s₀ (cancelFetch k t detail s) := by
  unfold cancelFetch
  try dsimp only
  repeat' first
    | with_reducible assumption
    | with_reducible apply releaseRow_moves
    | with_reducible apply finishTransfer_moves
    | with_reducible apply emptyTransfer_moves

theorem abortBoard_moves (k : ShuttleIx) (t : Transfer) (detail : Nat) (h : Moves i₀ s₀ s) : Moves i₀ s₀ (abortBoard k t detail s) := by
  unfold abortBoard
  try dsimp only
  repeat' first
    | with_reducible assumption
    | with_reducible apply modShuttle_moves
    | with_reducible apply commandRobot_moves
    | exact fun hh => hh
    | exact fun hh => Nat.le_trans (List.length_filter_le _ _) hh
    | split

theorem completeAbort_moves (k : ShuttleIx) (t : Transfer) (detail : Nat) (h : Moves i₀ s₀ s) : Moves i₀ s₀ (completeAbort k t detail s) := by
  unfold completeAbort
  try dsimp only
  repeat' first
    | with_reducible assumption
    | with_reducible apply releaseRow_moves
    | with_reducible apply finishTransfer_moves
    | with_reducible apply becomeIdle_moves
    | with_reducible apply emptyTransfer_moves

theorem abortTransfer_moves (n : SlotIx) (h : Moves i₀ s₀ s) : Moves i₀ s₀ (abortTransfer n s) := by
  unfold abortTransfer
  try dsimp only
  repeat' first
    | with_reducible assumption
    | with_reducible apply forEach_moves
    | with_reducible apply commandShuttle_moves
    | with_reducible apply dropRequests_moves
    | with_reducible apply becomeIdle_moves
    | with_reducible apply cancelFetch_moves
    | with_reducible apply abortBoard_moves
    | split
    | (intro _ _ _; try dsimp only)

theorem shelterShuttle_moves (k : ShuttleIx) (h : Moves i₀ s₀ s) : Moves i₀ s₀ (shelterShuttle k s) := by
  unfold shelterShuttle
  try dsimp only
  repeat' first
    | with_reducible assumption
    | with_reducible apply dropRequests_moves
    | with_reducible apply goToShelter_moves
    | with_reducible apply cancelFetch_moves
    | with_reducible apply abortBoard_moves
    | split

theorem calmerShuttle_moves (k : ShuttleIx) (h : Moves i₀ s₀ s) : Moves i₀ s₀ (calmerShuttle k s) := by
  unfold calmerShuttle
  try dsimp only
  repeat' first
    | with_reducible assumption
    | with_reducible apply modShuttle_moves
    | with_reducible apply evaluateStart_moves
    | exact fun hh => hh
    | exact fun hh => Nat.le_trans (List.length_filter_le _ _) hh
    | split

theorem toldShuttle_moves (k : ShuttleIx) (cmd : Cmd) (what : Told) (h : Moves i₀ s₀ s) : Moves i₀ s₀ (toldShuttle k cmd what s) := by
  unfold toldShuttle
  try dsimp only
  repeat' first
    | with_reducible assumption
    | with_reducible apply modShuttle_moves
    | with_reducible apply failStage_moves
    | with_reducible apply failShelter_moves
    | exact fun hh => hh
    | exact fun hh => Nat.le_trans (List.length_filter_le _ _) hh
    | split

theorem toldTransferRobot_moves (r : RobotId) (cmd : Cmd) (what : Told) (h : Moves i₀ s₀ s) : Moves i₀ s₀ (toldTransferRobot r cmd what s) := by
  unfold toldTransferRobot
  try dsimp only
  repeat' first
    | with_reducible assumption
    | with_reducible apply failStage_moves
    | split

theorem actOnShuttle_moves (k : ShuttleIx) (rep : ShuttleReport) (h : Moves i₀ s₀ s) : Moves i₀ s₀ (actOnShuttle k rep s) := by
  unfold actOnShuttle
  try dsimp only
  repeat' first
    | with_reducible assumption
    | with_reducible apply modShuttle_moves
    | with_reducible apply enterFault_moves
    | with_reducible apply failStage_moves
    | with_reducible apply failShelter_moves
    | with_reducible apply completeFetch_moves
    | with_reducible apply completeCarry_moves
    | exact fun hh => hh
    | exact fun hh => Nat.le_trans (List.length_filter_le _ _) hh
    | split



theorem dropRelease_moves (rows : List RowId) (h : Moves i₀ s₀ s) : Moves i₀ s₀ (dropRelease rows s) := by
  unfold dropRelease
  try dsimp only
  repeat' first
    | with_reducible assumption
    | with_reducible apply modRobot_moves
    | with_reducible apply forEach_moves
    | exact fun _ => rfl
    | (intro _ _ _; try dsimp only)

theorem refreshFlags_moves (h : Moves i₀ s₀ s) : Moves i₀ s₀ (refreshFlags s) := by
  unfold refreshFlags
  try dsimp only
  repeat' first
    | with_reducible assumption
    | with_reducible apply pushAll_moves
    | with_reducible apply setFlags_moves
    | with_reducible apply dropRelease_moves

/-! ### The counts of an alert record -/

/-- R183: a count that goes up by a robot stays in its range. -/
theorem countRobot_le (count : Nat) : countRobot count ≤ 48 := Nat.min_le_left _ _

/-- Within the range a count goes up by 1. -/
theorem countRobot_below {count : Nat} (h : count < 48) : countRobot count = count + 1 := by
  unfold countRobot satAdd; omega

/-- A record has at most 48 members not yet secured. -/
theorem unsecuredMembers_le (s : State) (n : AlertIx) : (unsecuredMembers s n).length ≤ 48 :=
  (List.length_filter_le _ _).trans (by simp [allRobots])

theorem AlertLawful.joined {a : Alert} (h : AlertLawful a) (members : Table 48 Member) (as_ : Member) :
    AlertLawful { a with members := members, toSecure := countRobot a.toSecure,
                         secured := if as_ = .secured then countRobot a.secured else a.secured } :=
  ⟨countRobot_le _, by dsimp only; split; exacts [countRobot_le _, h.secured], h.late⟩

theorem AlertLawful.left {a : Alert} (h : AlertLawful a) (members : Table 48 Member) (counted : Prop) [Decidable counted] :
    AlertLawful { a with members := members, toSecure := a.toSecure - 1,
                         secured := if counted then a.secured - 1 else a.secured } :=
  ⟨(Nat.sub_le _ _).trans h.toSecure, by dsimp only; split; exacts [(Nat.sub_le _ _).trans h.secured, h.secured], h.late⟩

theorem changeAlert_moves (n : AlertIx) (f : Alert → Alert) (hf : ∀ x, AlertLawful x → AlertLawful (f x))
    (h : Moves i₀ s₀ s) : Moves i₀ s₀ (changeAlert n f s) := by
  unfold changeAlert
  try dsimp only
  repeat' first
    | with_reducible assumption
    | with_reducible apply setNotice_moves
    | with_reducible apply modAlert_moves
    | with_reducible apply refreshFlags_moves
    | split

theorem dropTarget_moves (r : RobotId) (h : Moves i₀ s₀ s) : Moves i₀ s₀ (dropTarget r s) := by
  unfold dropTarget
  try dsimp only
  repeat' first
    | with_reducible assumption
    | with_reducible apply modRobot_moves
    | exact fun _ => rfl
    | split

theorem clearSet_moves (n : AlertIx) (h : Moves i₀ s₀ s) : Moves i₀ s₀ (clearSet n s) := by
  unfold clearSet
  try dsimp only
  repeat' first
    | with_reducible assumption
    | with_reducible apply modAlert_moves
    | exact fun _ h => ⟨h.1, h.2, h.3⟩
    | with_reducible apply forEach_moves
    | with_reducible apply dropTarget_moves
    | (intro _ _ _; try dsimp only)

theorem setTarget_moves (r : RobotId) (t : StormTarget) (h : Moves i₀ s₀ s) : Moves i₀ s₀ (setTarget r t s) := by
  unfold setTarget
  try dsimp only
  repeat' first
    | with_reducible assumption
    | with_reducible apply modRobot_moves
    | with_reducible apply commandRobot_moves
    | exact fun _ => rfl

theorem answerHeld_moves (n : AlertIx) (cls : AnswerClass) (detail : Nat) (results : List Word) (h : Moves i₀ s₀ s) : Moves i₀ s₀ (answerHeld n cls detail results s) := by
  unfold answerHeld
  try dsimp only
  repeat' first
    | with_reducible assumption
    | with_reducible apply answer_moves
    | with_reducible apply modAlert_moves
    | exact fun _ h => ⟨h.1, h.2, h.3⟩
    | split

theorem checkParked_moves (n : AlertIx) (h : Moves i₀ s₀ s) : Moves i₀ s₀ (checkParked n s) := by
  unfold checkParked
  try dsimp only
  repeat' first
    | with_reducible assumption
    | with_reducible apply changeAlert_moves
    | exact fun _ h => ⟨h.1, h.2, h.3⟩
    | with_reducible apply answerHeld_moves
    | split

theorem joinSet_moves (n : AlertIx) (r : RobotId) (as_ : Member) (h : Moves i₀ s₀ s) : Moves i₀ s₀ (joinSet n r as_ s) := by
  unfold joinSet
  try dsimp only
  repeat' first
    | with_reducible assumption
    | with_reducible apply modAlert_moves
    | exact fun _ h => h.joined _ _

theorem secureMember_moves (r : RobotId) (h : Moves i₀ s₀ s) : Moves i₀ s₀ (secureMember r s) := by
  unfold secureMember
  try dsimp only
  repeat' first
    | with_reducible assumption
    | with_reducible apply modAlert_moves
    | exact fun _ h => ⟨h.1, countRobot_le _, h.3⟩
    | with_reducible apply forEach_moves
    | with_reducible apply checkParked_moves
    | split
    | (intro _ _ _; try dsimp only)

theorem leaveSets_moves (r : RobotId) (h : Moves i₀ s₀ s) : Moves i₀ s₀ (leaveSets r s) := by
  unfold leaveSets
  try dsimp only
  repeat' first
    | with_reducible assumption
    | with_reducible apply modAlert_moves
    | exact fun _ h => h.left _ _
    | with_reducible apply forEach_moves
    | with_reducible apply dropTarget_moves
    | with_reducible apply checkParked_moves
    | split
    | (intro _ _ _; try dsimp only)

theorem parkMember_moves (n : AlertIx) (wasSheltered : RobotId → Bool) (r : RobotId) (h : Moves i₀ s₀ s) : Moves i₀ s₀ (parkMember n wasSheltered r s) := by
  unfold parkMember
  try dsimp only
  repeat' first
    | with_reducible assumption
    | with_reducible apply setTarget_moves
    | with_reducible apply joinSet_moves
    | split

theorem enterParking_moves (n : AlertIx) (deadline : Nat) (h : Moves i₀ s₀ s) : Moves i₀ s₀ (enterParking n deadline s) := by
  unfold enterParking
  try dsimp only
  repeat' first
    | with_reducible assumption
    | with_reducible apply forEach_moves
    | with_reducible apply pushPark_moves
    | with_reducible apply pushUrgent_moves
    | with_reducible apply endInterrupted_moves
    | with_reducible apply changeAlert_moves
    | exact fun _ _ => ⟨Nat.zero_le _, Nat.zero_le _, Nat.zero_le _⟩
    | with_reducible apply clearSet_moves
    | with_reducible apply checkParked_moves
    | with_reducible apply parkMember_moves
    | split
    | (intro _ _ _; try dsimp only)

theorem expireParking_moves (n : AlertIx) (h : Moves i₀ s₀ s) : Moves i₀ s₀ (expireParking n s) := by
  unfold expireParking
  try dsimp only
  repeat' first
    | with_reducible assumption
    | with_reducible apply setNotice_moves
    | with_reducible apply forEach_moves
    | with_reducible apply pushUrgent_moves
    | with_reducible apply changeAlert_moves
    | exact fun _ h => ⟨h.1, h.2, unsecuredMembers_le _ _⟩
    | with_reducible apply setTarget_moves
    | with_reducible apply answerHeld_moves
    | with_reducible apply checkParked_moves
    | split
    | (intro _ _ _; try dsimp only)

theorem redecide_moves (n : AlertIx) (h : Moves i₀ s₀ s) : Moves i₀ s₀ (redecide n s) := by
  unfold redecide
  try dsimp only
  repeat' first
    | with_reducible assumption
    | with_reducible apply forEach_moves
    | with_reducible apply setTarget_moves
    | split
    | (intro _ _ _; try dsimp only)

theorem freeAlert_moves (n : AlertIx) (h : Moves i₀ s₀ s) : Moves i₀ s₀ (freeAlert n s) := by
  unfold freeAlert
  dsimp only
  have h1 := clearSet_moves n h
  revert h1
  generalize clearSet n s = t
  intro h1
  refine changeAlert_moves _ _ (fun _ h => ⟨h.1, h.2, h.3⟩) (modLink_moves _ (fun hh => ⟨hh.1, hh.2, fun m => ?_⟩) h1)
  dsimp only
  rw [tget_tset]
  split
  · exact Nat.zero_le _
  · exact hh.3 m

theorem watchAlert_moves (n : AlertIx) (h : Moves i₀ s₀ s) : Moves i₀ s₀ (watchAlert n s) := by
  unfold watchAlert
  try dsimp only
  repeat' first
    | with_reducible assumption
    | with_reducible apply changeAlert_moves
    | exact fun _ h => ⟨h.1, h.2, h.3⟩
    | with_reducible apply clearSet_moves

theorem enterReleasing_moves (n : AlertIx) (holdOff : Nat) (h : Moves i₀ s₀ s) : Moves i₀ s₀ (enterReleasing n holdOff s) := by
  unfold enterReleasing
  try dsimp only
  repeat' first
    | with_reducible assumption
    | with_reducible apply changeAlert_moves
    | exact fun _ h => ⟨h.1, h.2, h.3⟩

theorem expireHoldOff_moves (n : AlertIx) (h : Moves i₀ s₀ s) : Moves i₀ s₀ (expireHoldOff n s) := by
  unfold expireHoldOff
  try dsimp only
  repeat' first
    | with_reducible assumption
    | with_reducible apply freeAlert_moves
    | with_reducible apply watchAlert_moves
    | split

theorem releaseRobots_moves (rows : List RowId) (h : Moves i₀ s₀ s) : Moves i₀ s₀ (releaseRobots rows s) := by
  unfold releaseRobots
  try dsimp only
  repeat' first
    | with_reducible assumption
    | with_reducible apply modRobot_moves
    | with_reducible apply forEach_moves
    | with_reducible apply commandRobot_moves
    | exact fun _ => rfl
    | (intro _ _ _; try dsimp only)

theorem joinByReport_moves (r : RobotId) (n : AlertIx) (h : Moves i₀ s₀ s) : Moves i₀ s₀ (joinByReport r n s) := by
  unfold joinByReport
  try dsimp only
  repeat' first
    | with_reducible assumption
    | with_reducible apply pushUrgent_moves
    | with_reducible apply commandRobot_moves
    | with_reducible apply modRobot_moves
    | with_reducible apply endInterrupted_moves
    | with_reducible apply setTarget_moves
    | with_reducible apply joinSet_moves
    | exact fun _ => rfl
    | split

theorem secureByReport_moves (r : RobotId) (a : Activity) (h : Moves i₀ s₀ s) : Moves i₀ s₀ (secureByReport r a s) := by
  unfold secureByReport
  try dsimp only
  repeat' first
    | with_reducible assumption
    | with_reducible apply modRobot_moves
    | with_reducible apply secureMember_moves
    | exact fun _ => rfl
    | split

theorem retryCommand_moves (r : RobotId) (a : Activity) (h : Moves i₀ s₀ s) : Moves i₀ s₀ (retryCommand r a s) := by
  unfold retryCommand
  try dsimp only
  repeat' first
    | with_reducible assumption
    | with_reducible apply modRobot_moves
    | with_reducible apply commandRobot_moves
    | exact fun _ => rfl
    | split

theorem stormReport_moves (r : RobotId) (rep : RobotReport) (h : Moves i₀ s₀ s) : Moves i₀ s₀ (stormReport r rep s) := by
  unfold stormReport
  try dsimp only
  repeat' first
    | with_reducible assumption
    | with_reducible apply modRobot_moves
    | with_reducible apply forEach_moves
    | with_reducible apply joinByReport_moves
    | with_reducible apply secureByReport_moves
    | with_reducible apply retryCommand_moves
    | exact fun _ => rfl
    | split
    | (intro _ _ _; try dsimp only)

theorem toldSupervisor_moves (r : RobotId) (cmd : Cmd) (what : Told) (h : Moves i₀ s₀ s) : Moves i₀ s₀ (toldSupervisor r cmd what s) := by
  unfold toldSupervisor
  try dsimp only
  repeat' first
    | with_reducible assumption
    | with_reducible apply modRobot_moves
    | exact fun _ => rfl
    | split

theorem faultWindow_moves (n : AlertIx) (h : Moves i₀ s₀ s) : Moves i₀ s₀ (faultWindow n s) := by
  unfold faultWindow
  try dsimp only
  repeat' first
    | with_reducible assumption
    | with_reducible apply setNotice_moves
    | with_reducible apply modAlert_moves
    | exact fun _ h => ⟨h.1, h.2, h.3⟩
    | with_reducible apply watchAlert_moves
    | split

theorem windowTransition_moves (n : AlertIx) (p : AnemometerParams) (gust mean : Nat) (h : Moves i₀ s₀ s) : Moves i₀ s₀ (windowTransition n p gust mean s) := by
  unfold windowTransition
  try dsimp only
  repeat' first
    | with_reducible assumption
    | with_reducible apply modAlert_moves
    | exact fun _ h => ⟨h.1, h.2, h.3⟩
    | with_reducible apply enterParking_moves
    | with_reducible apply freeAlert_moves
    | with_reducible apply watchAlert_moves
    | with_reducible apply enterReleasing_moves
    | split

theorem endWindow_moves (a : AnemIx) (h : Moves i₀ s₀ s) : Moves i₀ s₀ (endWindow a s) := by
  unfold endWindow
  try dsimp only
  repeat' first
    | with_reducible assumption
    | with_reducible apply modAlert_moves
    | exact fun _ h => ⟨h.1, h.2, h.3⟩
    | with_reducible apply modAnemometer_moves
    | with_reducible apply faultWindow_moves
    | with_reducible apply windowTransition_moves
    | split

theorem leaveTransfers_moves (r : RobotId) (h : Moves i₀ s₀ s) : Moves i₀ s₀ (leaveTransfers r s) := by
  unfold leaveTransfers
  try dsimp only
  repeat' first
    | with_reducible assumption
    | with_reducible apply releaseRow_moves
    | with_reducible apply dropRobotRequest_moves
    | with_reducible apply emptyTransfer_moves
    | with_reducible apply failPlace_moves
    | split

theorem leavePlace_moves (r : RobotId) (h : Moves i₀ s₀ s) : Moves i₀ s₀ (leavePlace r s) := by
  unfold leavePlace
  try dsimp only
  repeat' first
    | with_reducible assumption
    | with_reducible apply leaveTransfers_moves
    | with_reducible apply vacate_moves

theorem takeReservation_moves (row : RowId) (r : RobotId) (h : Moves i₀ s₀ s) : Moves i₀ s₀ (takeReservation row r s) := by
  unfold takeReservation
  try dsimp only
  repeat' first
    | with_reducible assumption
    | with_reducible apply releaseRow_moves
    | with_reducible apply dropRequests_moves
    | with_reducible apply failConflict_moves
    | split

theorem unplace_moves (r : RobotId) (h : Moves i₀ s₀ s) : Moves i₀ s₀ (unplace r s) := by
  unfold unplace
  try dsimp only
  repeat' first
    | with_reducible assumption
    | with_reducible apply modRobot_moves
    | exact fun _ => rfl

theorem endBoarding_moves (r : RobotId) (h : Moves i₀ s₀ s) : Moves i₀ s₀ (endBoarding r s) := by
  unfold endBoarding
  repeat' first
    | with_reducible assumption
    | with_reducible apply failPlace_moves
    | split

theorem endWork_moves (r : RobotId) (h : Moves i₀ s₀ s) : Moves i₀ s₀ (endWork r s) := by
  unfold endWork
  try dsimp only
  repeat' first
    | with_reducible assumption
    | with_reducible apply abandonOwned_moves
    | with_reducible apply endAbandoned_moves
    | with_reducible apply endBoarding_moves
    | with_reducible apply leaveSets_moves

theorem conflict_moves (r o : RobotId) (row : RowId) (h : Moves i₀ s₀ s) : Moves i₀ s₀ (conflict r o row s) := by
  unfold conflict
  try dsimp only
  repeat' first
    | with_reducible assumption
    | with_reducible apply setNotice_moves
    | with_reducible apply modRow_moves
    | with_reducible apply leaveList_moves
    | with_reducible apply leavePlace_moves
    | with_reducible apply unplace_moves
    | with_reducible apply endWork_moves
    | exact fun _ => ⟨rfl, .refl, .refl, .refl, .refl⟩

theorem settle_moves (r : RobotId) (row : RowId) (h : Moves i₀ s₀ s) : Moves i₀ s₀ (settle r row s) := by
  unfold settle
  try dsimp only
  repeat' first
    | with_reducible assumption
    | with_reducible apply modRow_moves
    | with_reducible apply modRobot_moves
    | with_reducible apply contextAtRow_moves
    | with_reducible apply leaveSets_moves
    | exact fun _ => rfl
    | exact fun _ => ⟨rfl, .refl, .refl, .refl, .refl⟩

theorem placeAt_moves (r : RobotId) (row : RowId) (h : Moves i₀ s₀ s) : Moves i₀ s₀ (placeAt r row s) := by
  unfold placeAt
  try dsimp only
  repeat' first
    | with_reducible assumption
    | with_reducible apply leavePlace_moves
    | with_reducible apply takeReservation_moves
    | with_reducible apply conflict_moves
    | with_reducible apply settle_moves
    | split

theorem arrive_moves (r : RobotId) (row : RowId) (h : Moves i₀ s₀ s) : Moves i₀ s₀ (arrive r row s) := by
  unfold arrive
  try dsimp only
  repeat' first
    | with_reducible assumption
    | with_reducible apply modRobot_moves
    | with_reducible apply contextAtRow_moves
    | with_reducible apply endTransfer_moves
    | with_reducible apply endStranded_moves
    | with_reducible apply leaveSets_moves
    | with_reducible apply placeAt_moves
    | with_reducible apply failPlace_moves
    | exact fun _ => rfl
    | split

theorem placeByReport_moves (r : RobotId) (rep : RobotReport) (h : Moves i₀ s₀ s) : Moves i₀ s₀ (placeByReport r rep s) := by
  unfold placeByReport
  try dsimp only
  repeat' first
    | with_reducible assumption
    | with_reducible apply modRobot_moves
    | with_reducible apply endAbandoned_moves
    | with_reducible apply placeAt_moves
    | with_reducible apply arrive_moves
    | exact fun _ => rfl
    | split

theorem moveByReport_moves (r : RobotId) (rep : RobotReport) (h : Moves i₀ s₀ s) : Moves i₀ s₀ (moveByReport r rep s) := by
  unfold moveByReport
  try dsimp only
  repeat' first
    | with_reducible assumption
    | with_reducible apply endAbandoned_moves
    | with_reducible apply placeAt_moves
    | with_reducible apply arrive_moves
    | split

theorem countStart_moves (h : Moves i₀ s₀ s) : Moves i₀ s₀ (countStart s) := by
  unfold countStart
  try dsimp only
  repeat' first
    | with_reducible assumption
    | with_reducible apply modRound_moves
    | exact fun hh => hh

theorem startFresh_moves (r : RobotId) (row : RowId) (h : Moves i₀ s₀ s) : Moves i₀ s₀ (startFresh r row s) := by
  unfold startFresh
  try dsimp only
  repeat' first
    | with_reducible assumption
    | with_reducible apply modRobot_moves
    | with_reducible apply commandRobot_moves
    | with_reducible apply countStart_moves
    | exact fun _ => rfl

theorem startResume_moves (r : RobotId) (c : CtxIx) (h : Moves i₀ s₀ s) : Moves i₀ s₀ (startResume r c s) := by
  unfold startResume
  try dsimp only
  repeat' first
    | with_reducible assumption
    | with_reducible apply modRobot_moves
    | with_reducible apply commandRobot_moves
    | with_reducible apply countStart_moves
    | exact fun _ => rfl

theorem countAssigned_moves (h : Moves i₀ s₀ s) : Moves i₀ s₀ (countAssigned s) := by
  unfold countAssigned
  try dsimp only
  repeat' first
    | with_reducible assumption
    | with_reducible apply modRound_moves
    | exact fun hh => hh

theorem clearTarget_moves (r : RobotId) (h : Moves i₀ s₀ s) : Moves i₀ s₀ (clearTarget r s) := by
  unfold clearTarget
  try dsimp only
  repeat' first
    | with_reducible assumption
    | with_reducible apply modRobot_moves
    | exact fun _ => rfl

theorem dropDisabledTarget_moves (r : RobotId) (row : RowId) (h : Moves i₀ s₀ s) :
    Moves i₀ s₀ (dropDisabledTarget r row s) := by
  unfold dropDisabledTarget
  split
  · exact clearTarget_moves _ h
  · exact h

theorem giveWork_moves (r : RobotId) (w : Work)
    (hw : ∀ source d k, w = .transfer source d k → (tget s.shuttles k).queue.length < 8) (h : Moves i₀ s₀ s) :
    Moves i₀ s₀ (giveWork r s w) := by
  cases w with
  | resume x => exact startResume_moves r x h
  | target row => exact startFresh_moves r row (leaveList_moves row (clearTarget_moves r h))
  | ownRow row => exact startFresh_moves r row (countAssigned_moves (leaveList_moves row h))
  | transfer source destination k =>
    exact joinQueue_moves k _ (hw _ _ _ rfl)
      (modRobot_moves _ _ (fun _ => rfl) (countAssigned_moves (leaveList_moves destination h)))

theorem roundAccepted_room {s : State} {r : RobotId} {d : RowId} {k : ShuttleIx} (h : roundAccepted s r d = some k) :
    (tget s.shuttles k).queue.length < 8 := by
  unfold roundAccepted at h
  split at h
  · dsimp only at h
    split at h
    · rename_i hc
      cases h
      exact hc.2.2.1
    · cases h
  · cases h

theorem workFor_room {s : State} {r : RobotId} {row : RowId} {w : Work} (h : workFor s r row = some w) :
    ∀ source d k, w = .transfer source d k → (tget s.shuttles k).queue.length < 8 := by
  rintro source d k rfl
  unfold workFor at h
  split at h
  · cases h
  · unfold workWithoutContext at h
    split at h
    · cases h
    · split at h
      · cases h
      · split at h
        · rename_i d' _
          cases hk : roundAccepted s r d' with
          | none => rw [hk] at h; cases h
          | some j => rw [hk] at h; cases h; exact roundAccepted_room hk
        · cases h

theorem setDoze_moves (r : RobotId) (h : Moves i₀ s₀ s) : Moves i₀ s₀ (setDoze r s) := by
  unfold setDoze
  try dsimp only
  repeat' first
    | with_reducible assumption
    | with_reducible apply commandRobot_moves
    | split

theorem setWake_moves (r : RobotId) (h : Moves i₀ s₀ s) : Moves i₀ s₀ (setWake r s) := by
  unfold setWake
  try dsimp only
  repeat' first
    | with_reducible assumption
    | with_reducible apply commandRobot_moves
    | split

theorem assign_moves (r : RobotId) (row : RowId) (h : Moves i₀ s₀ s) : Moves i₀ s₀ (assign r row s) := by
  unfold assign
  split
  · dsimp only
    split
    · rename_i w hw
      exact giveWork_moves r w (workFor_room hw) (dropDisabledTarget_moves r row h)
    · exact setDoze_moves r (dropDisabledTarget_moves r row h)
  · exact h

theorem wakeFor_moves (r : RobotId) (row : RowId) (h : Moves i₀ s₀ s) : Moves i₀ s₀ (wakeFor r row s) := by
  unfold wakeFor
  try dsimp only
  repeat' first
    | with_reducible assumption
    | with_reducible apply setWake_moves
    | split

theorem examine_moves (r : RobotId) (h : Moves i₀ s₀ s) : Moves i₀ s₀ (examine r s) := by
  unfold examine
  try dsimp only
  repeat' first
    | with_reducible assumption
    | with_reducible apply assign_moves
    | with_reducible apply wakeFor_moves
    | split

theorem transferReported_moves (r : RobotId) (row : RowId) (what : TransferReport) (h : Moves i₀ s₀ s) : Moves i₀ s₀ (transferReported r row what s) := by
  unfold transferReported
  try dsimp only
  repeat' first
    | with_reducible assumption
    | with_reducible apply push_moves
    | with_reducible apply reinsertRow_moves
    | with_reducible apply clearTarget_moves
    | with_reducible apply examine_moves
    | split

theorem cleanDelivered_moves (r : RobotId) (h : Moves i₀ s₀ s) : Moves i₀ s₀ (cleanDelivered r s) := by
  unfold cleanDelivered
  split
  · rename_i x hx
    split
    · exact freeContext_moves x r hx h
    · exact h
  · exact h

theorem cleanFailed_moves (r : RobotId) (h : Moves i₀ s₀ s) : Moves i₀ s₀ (cleanFailed r s) := by
  unfold cleanFailed
  try dsimp only
  repeat' first
    | with_reducible assumption
    | with_reducible apply modRobot_moves
    | with_reducible apply reinsertRow_moves
    | with_reducible apply clearPass_moves
    | exact fun _ => rfl
    | split

theorem cleanSuperseded_moves (r : RobotId) (h : Moves i₀ s₀ s) : Moves i₀ s₀ (cleanSuperseded r s) := by
  unfold cleanSuperseded
  try dsimp only
  repeat' first
    | with_reducible assumption
    | with_reducible apply push_moves
    | with_reducible apply clearPass_moves
    | with_reducible apply endInterrupted_moves
    | split

theorem toldPlanner_moves (r : RobotId) (cmd : Cmd) (what : Told) (h : Moves i₀ s₀ s) : Moves i₀ s₀ (toldPlanner r cmd what s) := by
  unfold toldPlanner
  try dsimp only
  repeat' first
    | with_reducible assumption
    | with_reducible apply cleanDelivered_moves
    | with_reducible apply cleanFailed_moves
    | with_reducible apply cleanSuperseded_moves
    | split

theorem plannerLost_moves (r : RobotId) (h : Moves i₀ s₀ s) : Moves i₀ s₀ (plannerLost r s) := by
  unfold plannerLost
  try dsimp only
  repeat' first
    | with_reducible assumption
    | with_reducible apply push_moves
    | with_reducible apply modRobot_moves
    | with_reducible apply clearCommand_moves
    | with_reducible apply endInterrupted_moves
    | exact fun _ => rfl
    | split

theorem passReport_moves (r : RobotId) (rep : RobotReport) (diff : Nat) (h : Moves i₀ s₀ s) : Moves i₀ s₀ (passReport r rep diff s) := by
  unfold passReport
  try dsimp only
  repeat' first
    | with_reducible assumption
    | with_reducible apply modRobot_moves
    | with_reducible apply endInterrupted_moves
    | with_reducible apply endAbandoned_moves
    | with_reducible apply setHoming_moves
    | with_reducible apply endComplete_moves
    | exact fun _ => rfl
    | split

theorem clearHoming_moves (r : RobotId) (a : Activity) (h : Moves i₀ s₀ s) : Moves i₀ s₀ (clearHoming r a s) := by
  unfold clearHoming
  try dsimp only
  repeat' first
    | with_reducible assumption
    | with_reducible apply push_moves
    | with_reducible apply modRobot_moves
    | exact fun _ => rfl
    | split

theorem repeatRecall_moves (r : RobotId) (a : Activity) (h : Moves i₀ s₀ s) : Moves i₀ s₀ (repeatRecall r a s) := by
  unfold repeatRecall
  try dsimp only
  repeat' first
    | with_reducible assumption
    | with_reducible apply plannerDock_moves
    | split

theorem plannerReport_moves (r : RobotId) (rep : RobotReport) (diff : Nat) (h : Moves i₀ s₀ s) : Moves i₀ s₀ (plannerReport r rep diff s) := by
  unfold plannerReport
  try dsimp only
  repeat' first
    | with_reducible assumption
    | with_reducible apply modRobot_moves
    | with_reducible apply passReport_moves
    | with_reducible apply clearHoming_moves
    | with_reducible apply repeatRecall_moves
    | exact fun _ => rfl

theorem cancelRoundRequests_moves (h : Moves i₀ s₀ s) : Moves i₀ s₀ (cancelRoundRequests s) := by
  unfold cancelRoundRequests
  try dsimp only
  repeat' first
    | with_reducible assumption
    | with_reducible apply forEach_moves
    | with_reducible apply dropRequests_moves
    | (intro _ _ _; try dsimp only)

theorem windDown_moves (h : Moves i₀ s₀ s) : Moves i₀ s₀ (windDown s) := by
  unfold windDown
  try dsimp only
  repeat' first
    | with_reducible assumption
    | with_reducible apply push_moves
    | with_reducible apply modRound_moves
    | with_reducible apply cancelRoundRequests_moves
    | exact fun hh => hh

theorem recallRobot_moves (r : RobotId) (h : Moves i₀ s₀ s) : Moves i₀ s₀ (recallRobot r s) := by
  unfold recallRobot
  try dsimp only
  repeat' first
    | with_reducible assumption
    | with_reducible apply modRobot_moves
    | with_reducible apply endInterrupted_moves
    | with_reducible apply plannerDock_moves
    | with_reducible apply endIssued_moves
    | exact fun _ => rfl
    | split

theorem recallFleet_moves (h : Moves i₀ s₀ s) : Moves i₀ s₀ (recallFleet s) := by
  unfold recallFleet
  try dsimp only
  repeat' first
    | with_reducible assumption
    | with_reducible apply push_moves
    | with_reducible apply modRound_moves
    | with_reducible apply forEach_moves
    | with_reducible apply cancelRoundRequests_moves
    | with_reducible apply recallRobot_moves
    | exact fun hh => hh
    | split
    | (intro _ _ _; try dsimp only)

theorem closeRound_moves (h : Moves i₀ s₀ s) : Moves i₀ s₀ (closeRound s) := by
  unfold closeRound
  dsimp only
  refine modRound_moves _ (fun hh => hh) (setNotice_moves _ (forEach_moves _ _
    (fun r t ht => modRobot_moves _ _ (fun _ => rfl) ht) (modRound_moves _ (fun _ => ListLawful.nil)
      (forEach_moves _ _ (fun n t ht => answer_moves _ _ _ _ ht) h))))

theorem checkClose_moves (h : Moves i₀ s₀ s) : Moves i₀ s₀ (checkClose s) := by
  unfold checkClose
  try dsimp only
  repeat' first
    | with_reducible assumption
    | with_reducible apply closeRound_moves
    | split

theorem coverRows_moves (rows : List RowId) (h : Moves i₀ s₀ s) : Moves i₀ s₀ (coverRows rows s) := by
  unfold coverRows
  try dsimp only
  repeat' first
    | with_reducible assumption
    | with_reducible apply forEach_moves
    | with_reducible apply commandRobot_moves
    | with_reducible apply endIssued_moves
    | split
    | (intro _ _ _; try dsimp only)

theorem noteFault_moves (last code : Nat) (h : Moves i₀ s₀ s) : Moves i₀ s₀ (noteFault last code s) := by
  unfold noteFault
  try dsimp only
  repeat' first
    | with_reducible assumption
    | with_reducible apply setNotice_moves
    | split

theorem recordRobot_moves (r : RobotId) (rep : RobotReport) (h : Moves i₀ s₀ s) : Moves i₀ s₀ (recordRobot r rep s) := by
  unfold recordRobot
  try dsimp only
  repeat' first
    | with_reducible assumption
    | with_reducible apply modRobot_moves
    | with_reducible apply noteFault_moves
    | exact fun _ => rfl

theorem recordActivity_moves (r : RobotId) (a : Activity) (h : Moves i₀ s₀ s) : Moves i₀ s₀ (recordActivity r a s) := by
  unfold recordActivity
  try dsimp only
  repeat' first
    | with_reducible assumption
    | with_reducible apply modRobot_moves
    | exact fun _ => rfl

theorem robotStatus_moves (r : RobotId) (rep : RobotReport) (diff : Nat) (h : Moves i₀ s₀ s) : Moves i₀ s₀ (robotStatus r rep diff s) := by
  unfold robotStatus
  try dsimp only
  repeat' first
    | with_reducible assumption
    | with_reducible apply pushAll_moves
    | with_reducible apply placeByReport_moves
    | with_reducible apply moveByReport_moves
    | with_reducible apply recordRobot_moves
    | with_reducible apply recordActivity_moves
    | split

theorem shuttleStatus_moves (k : ShuttleIx) (rep : ShuttleReport) (diff : Nat) (h : Moves i₀ s₀ s) : Moves i₀ s₀ (shuttleStatus k rep diff s) := by
  unfold shuttleStatus
  try dsimp only
  repeat' first
    | with_reducible assumption
    | with_reducible apply modShuttle_moves
    | with_reducible apply shuttleEnergy_moves
    | with_reducible apply actOnShuttle_moves
    | with_reducible apply noteFault_moves
    | exact fun hh => hh

theorem accountReport_moves (r : RobotId) (rep : RobotReport) (diff : Nat) (h : Moves i₀ s₀ s) : Moves i₀ s₀ (accountReport r rep diff s) := by
  unfold accountReport
  try dsimp only
  repeat' first
    | with_reducible assumption
    | with_reducible apply surfaceReading_moves
    | with_reducible apply robotEnergy_moves
    | split

theorem placeFailure_moves (r : RobotId) (k : ShuttleIx) (t : Transfer) (rep : RobotReport) (h : Moves i₀ s₀ s) : Moves i₀ s₀ (placeFailure r k t rep s) := by
  unfold placeFailure
  try dsimp only
  repeat' first
    | with_reducible assumption
    | with_reducible apply failPlace_moves
    | with_reducible apply moveByReport_moves
    | split

theorem boardReport_moves (r : RobotId) (k : ShuttleIx) (t : Transfer) (rep : RobotReport) (h : Moves i₀ s₀ s) : Moves i₀ s₀ (boardReport r k t rep s) := by
  unfold boardReport
  try dsimp only
  repeat' first
    | with_reducible assumption
    | with_reducible apply failBoard_moves
    | with_reducible apply completeBoard_moves
    | with_reducible apply completeAbort_moves
    | with_reducible apply leaveSets_moves
    | with_reducible apply placeFailure_moves
    | split

theorem alightReport_moves (r : RobotId) (k : ShuttleIx) (t : Transfer) (rep : RobotReport) (h : Moves i₀ s₀ s) : Moves i₀ s₀ (alightReport r k t rep s) := by
  unfold alightReport
  try dsimp only
  repeat' first
    | with_reducible assumption
    | with_reducible apply failAboard_moves
    | with_reducible apply endTransfer_moves
    | with_reducible apply leaveSets_moves
    | split

theorem arbiterReport_moves (r : RobotId) (rep : RobotReport) (h : Moves i₀ s₀ s) : Moves i₀ s₀ (arbiterReport r rep s) := by
  unfold arbiterReport
  try dsimp only
  repeat' first
    | with_reducible assumption
    | with_reducible apply evaluateStart_moves
    | with_reducible apply endTransfer_moves
    | with_reducible apply leaveSets_moves
    | with_reducible apply placeFailure_moves
    | with_reducible apply boardReport_moves
    | with_reducible apply alightReport_moves
    | split

theorem tellOwner_moves (i : LinkId) (owner : Owner) (cmd : Cmd) (what : Told) (h : Moves i₀ s₀ s) : Moves i₀ s₀ (tellOwner i owner cmd what s) := by
  unfold tellOwner
  try dsimp only
  repeat' first
    | with_reducible assumption
    | with_reducible apply toldShuttle_moves
    | with_reducible apply toldTransferRobot_moves
    | with_reducible apply toldSupervisor_moves
    | with_reducible apply toldPlanner_moves
    | split

theorem handle_moves (j : Job) (h : Moves i₀ s₀ s) : Moves i₀ s₀ (handle j s) := by
  cases j <;> unfold handle <;> dsimp only
  case told i owner cmd what => exact tellOwner_moves i owner cmd what h
  case repeatLimit i q => exact checkRepeatLimit_moves i q h
  case robotLost r => exact plannerLost_moves r h
  case robotStatus r rep diff => exact robotStatus_moves r rep diff h
  case shuttleStatus k rep diff => exact shuttleStatus_moves k rep diff h
  case accountReport r rep diff => exact accountReport_moves r rep diff h
  case plannerReport r rep diff => exact plannerReport_moves r rep diff h
  case arbiterReport r rep => exact arbiterReport_moves r rep h
  case stormReport r rep => exact stormReport_moves r rep h
  case examine r => exact examine_moves r h
  case examineBlock b => exact pushAll_moves _ h
  case transferReport r row what => exact transferReported_moves r row what h
  case closeCheck => exact checkClose_moves h
  case startRule k => exact evaluateStart_moves k h
  case rowsCovered rows => exact coverRows_moves rows h
  case rowsSheltered b =>
    split
    · exact shelterShuttle_moves _ h
    · exact h
  case rowsReleased rows => exact releaseRobots_moves rows h
  case blockCalmer b =>
    split
    · exact calmerShuttle_moves _ h
    · exact h
  case scanComplete => exact completeScan_moves h

theorem commit_moves (old : State) (h : Moves i₀ s₀ s) : Moves i₀ s₀ (commit old s) := by
  refine h.tail (.marks s (markedMirrors old s) fun m => ?_)
  have hm : mirrorOf { s with mirrors := markedMirrors old s } m = (mirrorOf s m).marked (masterChanged old s m) := by
    cases m <;> simp [mirrorOf, markedMirrors]
  rw [hm]
  exact ⟨rfl, fun hp => by simp [Mirror.marked, hp], fun ws hw => ⟨ws, hw, fun _ hp => hp⟩⟩

theorem drainOne_moves (h : Moves i₀ s₀ s) : Moves i₀ s₀ (drainOne s) := by
  unfold drainOne
  split
  · exact h
  · exact (commit_moves _ (handle_moves _ (h.agenda []))).agenda _

theorem drainLoop_moves (n : Nat) (h : Moves i₀ s₀ s) : Moves i₀ s₀ (drainLoop n s) := by
  induction n generalizing s with
  | zero => exact h
  | succ n ih =>
    unfold drainLoop
    split
    · exact h
    · exact ih (drainOne_moves h)

theorem drain_moves (h : Moves i₀ s₀ s) : Moves i₀ s₀ (drain s) := (drainLoop_moves _ h).agenda []

theorem perform_moves (f : State → State) (hf : ∀ t, Moves i₀ s₀ t → Moves i₀ s₀ (f t)) (h : Moves i₀ s₀ s) :
    Moves i₀ s₀ (perform f s) := drain_moves (commit_moves s (hf _ (h.agenda [])))

/-- A command that is carried out, whatever it asks, is a chain of moves. -/
theorem act_moves {f : State → State} (hf : ∀ t, Moves i₀ s t → Moves i₀ s (f t)) {t : State}
    (ht : act f s = .next t) : Moves i₀ s t := by
  unfold act at ht
  injection ht with ht
  subst ht
  split
  · exact .refl s
  · exact perform_moves f hf (.refl s)

theorem actWhen_moves {due : State → Bool} {f : State → State}
    (hf : due s = true → ∀ t, t = { s with agenda := [] } → Moves i₀ s t → Moves i₀ s (f t)) {t : State}
    (ht : actWhen due f s = .next t) : Moves i₀ s t := by
  unfold actWhen at ht
  injection ht with ht
  subst ht
  split
  · exact .refl s
  · rename_i hd
    have hd' : due s = true := by
      cases hh : due s
      · exact absurd (by simp [hh]) hd
      · rfl
    exact drain_moves (commit_moves s (hf hd' _ rfl ((Moves.refl s).agenda [])))

theorem beginRewrite_moves (m : MirrorId) (hc : i₀ = .mirrorRewriteStart m) (h : Moves i₀ s₀ s) :
    Moves i₀ s₀ (beginRewrite m s) := h.tail (.rewriteStart s m hc)

theorem endRewrite_moves (m : MirrorId) (hc : i₀ = .mirrorRewriteEnd m) (h : Moves i₀ s₀ s) :
    Moves i₀ s₀ (endRewrite m s) := h.tail (.rewriteEnd s m hc)

theorem expirePassed_moves (h : Moves i₀ s₀ s) : Moves i₀ s₀ (expirePassed s) := by
  unfold expirePassed
  try dsimp only
  repeat' first
    | with_reducible assumption
    | with_reducible apply modAlert_moves
    | exact fun _ h => ⟨h.1, h.2, h.3⟩
    | with_reducible apply forEach_moves
    | split
    | (intro _ _ _; try dsimp only)

theorem shelterIdle_moves (h : Moves i₀ s₀ s) : Moves i₀ s₀ (shelterIdle s) := by
  unfold shelterIdle
  try dsimp only
  repeat' first
    | with_reducible assumption
    | with_reducible apply forEach_moves
    | with_reducible apply goToShelter_moves
    | split
    | (intro _ _ _; try dsimp only)

theorem enterPlant_moves (p : Plant) (hc : i₀ = .runEntryChecks) (h : Moves i₀ s₀ s) :
    Moves i₀ s₀ (enterPlant p s) := h.tail (.runEntry s p hc)

theorem noteLinks_moves (old : State) (h : Moves i₀ s₀ s) : Moves i₀ s₀ (noteLinks old s) := by
  unfold noteLinks
  split
  · exact setNotice_moves _ h
  · exact h

@[simp] theorem noteLinks_modes (old s : State) : (noteLinks old s).modes = s.modes := by
  unfold noteLinks
  split <;> rfl

theorem startRunning_moves (hc : i₀ = .runEntryChecks) (hm : s.modes.mode = .checking) (h : Moves i₀ s₀ s) :
    Moves i₀ s₀ (startRunning s) := by
  unfold startRunning
  dsimp only
  refine modRound_moves _ (fun _ => ListLawful.nil) (Moves.tail (modScanner_moves _ (Moves.tail (h.tail (.mode s _ ?_)) (.silence _ _ _)))
    (.anemometers _ _))
  dsimp only
  rw [hm]
  exact .enter hc

theorem noteStorm_moves (before : StormSummary) (h : Moves i₀ s₀ s) : Moves i₀ s₀ (noteStorm before s) := by
  unfold noteStorm
  try dsimp only
  repeat' first
    | with_reducible assumption
    | with_reducible apply setNotice_moves
    | split

theorem markPool_moves (h : Moves i₀ s₀ s) : Moves i₀ s₀ (markPool s) := by
  unfold markPool
  exact markRewrite_moves _ (forEach_moves _ _ (fun x t ht => markRewrite_moves _ ht) h)

theorem enterRun_moves (p : Plant) (hc : i₀ = .runEntryChecks) (hm : s.modes.mode = .checking)
    (h : Moves i₀ s₀ s) : Moves i₀ s₀ (enterRun p s) := by
  unfold enterRun
  exact shelterIdle_moves (noteStorm_moves _ (setFlags_moves (expirePassed_moves (markPool_moves
    (startRunning_moves hc (by rw [noteLinks_modes]; exact hm) (noteLinks_moves _ (enterPlant_moves p hc h)))))))

theorem finishChecking_moves (hc : i₀ = .runEntryChecks) (hm : s.modes.mode = .checking) (h : Moves i₀ s₀ s) :
    Moves i₀ s₀ (finishChecking s) := by
  unfold finishChecking
  dsimp only
  have h1 : Moves i₀ s₀ (modModes (fun x => { x with clamped := (readPlant s).2 }) s) :=
    h.tail (.modes s _ fun _ => rfl)
  split
  · refine h1.tail (.mode _ _ ?_)
    show i₀.ModeMove s.modes.mode _
    rw [hm]
    exact .refuse hc
  · exact enterRun_moves _ hc hm h1

theorem releaseReservations_moves (h : Moves i₀ s₀ s) : Moves i₀ s₀ (releaseReservations s) := by
  unfold releaseReservations
  try dsimp only
  repeat' first
    | with_reducible assumption
    | with_reducible apply forEach_moves
    | with_reducible apply releaseRow_moves
    | split
    | (intro _ _ _; try dsimp only)

theorem answerLongOrders_moves (h : Moves i₀ s₀ s) : Moves i₀ s₀ (answerLongOrders s) := by
  unfold answerLongOrders
  try dsimp only
  repeat' first
    | with_reducible assumption
    | with_reducible apply answer_moves
    | with_reducible apply forEach_moves
    | (intro _ _ _; try dsimp only)

theorem stopFleet_moves (hc : i₀.writes .control ∨ i₀ = .frameSent ∨ i₀ = .setupAtFrameEnd) (h : Moves i₀ s₀ s) :
    Moves i₀ s₀ (stopFleet s) := h.tail (.leave s hc)

theorem stopUnits_moves (h : Moves i₀ s₀ s) : Moves i₀ s₀ (stopUnits s) := by
  unfold stopUnits
  dsimp only
  exact modSilence_moves none false (modRound_moves _ (fun hh => hh) (modFarm_moves _
    (fun _ => ⟨.refl, .refl, .refl, .refl, .refl, .refl, .refl, .refl⟩)
    (modScanner_moves _ (modLink_moves _ (fun hh => ⟨hh.1, hh.2, hh.3⟩) (emptyLink_moves h)))))

theorem forEach_modes {α : Type} (xs : List α) (f : α → State → State) (hf : ∀ x t, (f x t).modes = t.modes)
    (s : State) : (forEach xs f s).modes = s.modes := by
  unfold forEach
  induction xs generalizing s with
  | nil => rfl
  | cons x rest ih => simp only [List.foldl_cons]; rw [ih, hf]

theorem releaseReservations_modes (s : State) : (releaseReservations s).modes = s.modes := by
  unfold releaseReservations
  refine forEach_modes _ _ (fun k t => ?_) s
  have hq : ∀ qs, (forEach qs (fun q : Request => releaseRow q.destination q.robot) t).modes = t.modes :=
    fun qs => forEach_modes qs (fun q : Request => releaseRow q.destination q.robot) (fun _ _ => rfl) t
  dsimp only
  split
  · exact hq _
  · exact hq _

theorem noteStorm_modes (b : StormSummary) (s : State) : (noteStorm b s).modes = s.modes := by
  unfold noteStorm; split <;> rfl

theorem stopUnits_modes (s : State) : (stopUnits s).modes = s.modes := by
  unfold stopUnits emptyLink
  simp only [modBoard_modes, modRound_modes, modFarm_modes, modScanner_modes, modLink_modes]

theorem stopFleet_modes (s : State) : (stopFleet s).modes = s.modes := rfl

/-- The units stopped: the mode and the rest of the mode machine are as they were. -/
theorem atLeave_modes (s : State) :
    (stopUnits (noteStorm (stormSummary (releaseReservations (answerLongOrders s)))
      (stopFleet (releaseReservations (answerLongOrders s))))).modes = s.modes := by
  rw [stopUnits_modes, noteStorm_modes]
  have h : (releaseReservations (answerLongOrders s)).modes = s.modes := by
    rw [releaseReservations_modes]
    exact forEach_modes (heldLongOrders s) (fun n => answer n .aborted 2 []) (fun _ _ => rfl) s
  rw [stopFleet_modes, h]

theorem leaveRun_moves (hc : i₀.writes .control ∨ i₀ = .frameSent ∨ i₀ = .setupAtFrameEnd)
    (hm : s.modes.mode = .run) (h : Moves i₀ s₀ s) : Moves i₀ s₀ (leaveRun s) := by
  have h1 := stopUnits_moves (noteStorm_moves (stormSummary (releaseReservations (answerLongOrders s)))
    (stopFleet_moves hc (releaseReservations_moves (answerLongOrders_moves h))))
  have h2 := atLeave_modes s
  unfold leaveRun
  dsimp only
  revert h1 h2
  generalize stopUnits (noteStorm _ _) = t
  intro h1 h2
  refine h1.tail (.mode t _ ?_)
  rw [h2, hm]
  exact .leave hc

theorem requestSetup_moves (hc : i₀.writes .control) (hm : s.modes.mode = .run) (h : Moves i₀ s₀ s) :
    Moves i₀ s₀ (requestSetup s) := by
  unfold requestSetup
  split
  · exact h
  · split
    · exact h.tail (.modes s _ fun _ => rfl)
    · split
      · exact h.tail (.modes s _ fun _ => rfl)
      · exact leaveRun_moves (.inl hc) hm h

theorem endSilence_moves (h : Moves i₀ s₀ s) : Moves i₀ s₀ (endSilence s) := by
  unfold endSilence
  dsimp only
  refine pushAll_moves _ ?_
  have h1 : Moves i₀ s₀ (modRound (fun x => { x with held := false }) (modBoard (fun b => { b with silent := false }) s)) :=
    modRound_moves _ (fun hh => hh) (h.tail (.silence s _ _))
  split
  · exact pushAll_moves _ h1
  · exact h1

theorem restartSilence_moves (h : Moves i₀ s₀ s) : Moves i₀ s₀ (restartSilence s) := by
  unfold restartSilence
  dsimp only
  have h1 : Moves i₀ s₀ (modBoard (fun b => { b with silenceStart := some s.siteSecond }) s) :=
    h.tail (.silence s _ _)
  split
  · split
    · exact endSilence_moves h1
    · exact h1
  · exact h

theorem registerWrite_moves (f : State → State) (hf : ∀ t, Moves i₀ s₀ t → Moves i₀ s₀ (f t)) (h : Moves i₀ s₀ s) :
    Moves i₀ s₀ (registerWrite f s) := hf _ (drain_moves (restartSilence_moves h))

theorem controlWrite_moves (request page : Bool) (hc : i₀.writes .control) (h : Moves i₀ s₀ s) :
    Moves i₀ s₀ (controlWrite request page s) := by
  unfold controlWrite
  dsimp only
  have h1 : Moves i₀ s₀ (modBoard (fun b => { b with modeRequest := request, statusPage := page }) s) :=
    h.tail (.control s _ _ hc)
  split
  · rename_i hm
    refine h1.tail (.mode _ _ ?_)
    show i₀.ModeMove s.modes.mode _
    rw [show s.modes.mode = Mode.setup from hm]
    exact .check hc
  · rename_i hm
    exact requestSetup_moves hc hm h1
  · exact h1
  · exact h1
  · exact h1

theorem silenceExpires_moves (h : Moves i₀ s₀ s) : Moves i₀ s₀ (silenceExpires s) := by
  unfold silenceExpires
  exact modRound_moves _ (fun hh => hh) (modSilence_moves none true (setNotice_moves _ h))



theorem postSlot_moves (n : SlotIx) (hc : i₀.writes .post) (h : Moves i₀ s₀ s) : Moves i₀ s₀ (postSlot n s) := by
  unfold postSlot
  split
  · rename_i hf
    exact h.tail (.post s n hf hc)
  · exact setNotice_moves _ h

theorem postMask_moves (mask : Word) (hc : i₀.writes .post) (h : Moves i₀ s₀ s) : Moves i₀ s₀ (postMask mask s) :=
  forEach_moves _ _ (fun n _ ht => postSlot_moves n hc ht) h

theorem abortScanOrder_moves (n : SlotIx) (h : Moves i₀ s₀ s) : Moves i₀ s₀ (abortScanOrder n s) := by
  unfold abortScanOrder
  try dsimp only
  repeat' first
    | with_reducible assumption
    | with_reducible apply answer_moves
    | with_reducible apply modScanner_moves

theorem abortClose_moves (n : SlotIx) (h : Moves i₀ s₀ s) : Moves i₀ s₀ (abortClose n s) := by
  unfold abortClose
  try dsimp only
  repeat' first
    | with_reducible assumption
    | with_reducible apply answer_moves
    | with_reducible apply modFarm_moves
    | exact fun _ => ⟨.refl, .refl, .refl, .refl, .refl, .refl, .refl, .refl⟩
    | split

theorem abortPark_moves (n : SlotIx) (h : Moves i₀ s₀ s) : Moves i₀ s₀ (abortPark n s) := by
  unfold abortPark
  try dsimp only
  repeat' first
    | with_reducible assumption
    | with_reducible apply answerHeld_moves
    | split

theorem actOnAbort_moves (n : SlotIx) (h : Moves i₀ s₀ s) : Moves i₀ s₀ (actOnAbort n s) := by
  unfold actOnAbort
  try dsimp only
  repeat' first
    | with_reducible assumption
    | with_reducible apply abortTransfer_moves
    | with_reducible apply abortScanOrder_moves
    | with_reducible apply abortClose_moves
    | with_reducible apply abortPark_moves
    | split

theorem abortQueued_moves (n : SlotIx) (h : Moves i₀ s₀ s) : Moves i₀ s₀ (abortQueued n s) :=
  answer_moves _ _ _ _ (h.tail (.tag s n _))

theorem abortSlot_moves (n : SlotIx) (h : Moves i₀ s₀ s) : Moves i₀ s₀ (abortSlot n s) := by
  unfold abortSlot
  dsimp only
  split
  · rename_i hh
    split
    · exact abortQueued_moves n h
    · rename_i hq
      split
      · exact h
      · exact actOnAbort_moves n (h.tail (.abortRequest s n hh (by simpa using hq)))
  · exact h

theorem abortMask_moves (mask : Word) (h : Moves i₀ s₀ s) : Moves i₀ s₀ (abortMask mask s) := by
  unfold abortMask
  try dsimp only
  repeat' first
    | with_reducible assumption
    | with_reducible apply forEach_moves
    | with_reducible apply abortSlot_moves
    | (intro _ _ _; try dsimp only)

theorem collectSlot_moves (n : SlotIx) (hc : i₀.writes .answered) (h : Moves i₀ s₀ s) :
    Moves i₀ s₀ (collectSlot n s) := by
  unfold collectSlot
  split
  · rename_i hh
    exact h.tail (.collect s n hh hc)
  · exact h

theorem collectMask_moves (mask : Word) (hc : i₀.writes .answered) (h : Moves i₀ s₀ s) :
    Moves i₀ s₀ (collectMask mask s) := forEach_moves _ _ (fun n _ ht => collectSlot_moves n hc ht) h

theorem clearNotices_moves (bits : Word) (hc : i₀.writes .notice) (h : Moves i₀ s₀ s) :
    Moves i₀ s₀ (clearNotices bits s) := h.tail (.clearNotices s bits hc)

theorem writeEnable_moves (v : Word) (hc : i₀.writes .noticeEnable) (h : Moves i₀ s₀ s) :
    Moves i₀ s₀ (writeEnable v s) := h.tail (.enable s _ hc)

theorem writeRegister_moves (reg : Register) (v : Word) (hc : i₀.writes reg)
    (hs : reg = .control → v.getLsbD 1 = true → i₀.softResets) (h : Moves i₀ s₀ s) :
    Moves i₀ s₀ (writeRegister reg v s) := by
  cases reg <;> unfold writeRegister <;> dsimp only
  case id => exact registerWrite_moves _ (fun _ ht => ht) h
  case status => exact registerWrite_moves _ (fun _ ht => ht) h
  case control =>
    split
    · rename_i hv
      exact h.tail (.soft s (hs rfl hv))
    · exact registerWrite_moves _ (fun _ ht => controlWrite_moves _ _ hc ht) h
  case notice => exact registerWrite_moves _ (fun _ ht => clearNotices_moves _ hc ht) h
  case noticeEnable => exact registerWrite_moves _ (fun _ ht => writeEnable_moves _ hc ht) h
  case post => exact registerWrite_moves _ (fun _ ht => postMask_moves _ hc ht) h
  case abort => exact registerWrite_moves _ (fun _ ht => abortMask_moves _ ht) h
  case answered => exact registerWrite_moves _ (fun _ ht => collectMask_moves _ hc ht) h

theorem raceChecking_moves (a : Nat) (h : Moves i₀ s₀ s) : Moves i₀ s₀ (raceChecking a s) := by
  unfold raceChecking
  dsimp only [takeFree]
  split
  · split
    · exact (h.tail (.free s _)).tail (.modes _ _ fun _ => rfl)
    · exact h.tail (.free s _)
  · exact h

theorem raceRewrite_moves (a : Nat) (h : Moves i₀ s₀ s) : Moves i₀ s₀ (raceRewrite a s) := by
  unfold raceRewrite
  dsimp only [takeFree]
  split
  · exact h
  · split
    · refine modMirror_moves _ _ (fun _ => rfl) (fun _ hp => hp) (fun x ws hw => ?_) (h.tail (.free s _))
      dsimp only at hw
      cases hx : x.rewrite with
      | none => rw [hx] at hw; cases hw
      | some vs =>
        rw [hx] at hw
        cases hw
        exact ⟨vs, rfl, fun p hp => List.mem_of_mem_filter hp⟩
    · exact h.tail (.free s _)

theorem writeMemory_moves (a : Nat) (v : Word) (hc : i₀ = .hostMemoryWrite a v) (h : Moves i₀ s₀ s) :
    Moves i₀ s₀ (writeMemory a v s) := (raceRewrite_moves a (raceChecking_moves a h)).tail (.hostWrite _ a v hc)

theorem takeHead_moves (effect : SlotIx → List Word → State → State)
    (he : ∀ n ws t, Moves i₀ s₀ t → Moves i₀ s₀ (effect n ws t)) (h : Moves i₀ s₀ s) :
    Moves i₀ s₀ (takeHead effect s) := by
  unfold takeHead
  dsimp only
  split
  · exact h
  · rename_i n rest hi
    exact he _ _ _ ((h.tail (.take s n rest _ hi)).tail (.tag _ n _))

theorem checkOrder_moves (k : OrderKind) (job : SlotIx → List Word → State → State)
    (hj : ∀ n ws t, Moves i₀ s₀ t → Moves i₀ s₀ (job n ws t)) (n : SlotIx) (ws : List Word) (h : Moves i₀ s₀ s) :
    Moves i₀ s₀ (checkOrder k job n ws s) := by
  unfold checkOrder
  split
  · exact answer_moves _ _ _ _ h
  · split
    · exact answer_moves _ _ _ _ h
    · exact hj _ _ _ h

theorem takeOrder_moves {k : OrderKind} {accepts : List Word → Bool} {job : SlotIx → List Word → State → State}
    (hj : ∀ n ws t, Moves i₀ s t → Moves i₀ s (job n ws t)) {t : State} (ht : takeOrder k accepts job s = .next t) :
    Moves i₀ s t :=
  actWhen_moves (fun _ _ _ hm => takeHead_moves _ (fun n ws _ hu => checkOrder_moves k job hj n ws hu) hm) ht

theorem refuseState_moves (n : SlotIx) (detail : Nat) (h : Moves i₀ s₀ s) : Moves i₀ s₀ (refuseState n detail s) := by
  unfold refuseState
  try dsimp only
  repeat' first
    | with_reducible assumption
    | with_reducible apply answer_moves

theorem answerDone_moves (n : SlotIx) (results : List Word) (h : Moves i₀ s₀ s) : Moves i₀ s₀ (answerDone n results s) := by
  unfold answerDone
  try dsimp only
  repeat' first
    | with_reducible assumption
    | with_reducible apply answer_moves

theorem setRow_moves (effect : SlotIx → RowId → State → State)
    (he : ∀ n r t, Moves i₀ s₀ t → Moves i₀ s₀ (effect n r t)) (n : SlotIx) (ws : List Word) (h : Moves i₀ s₀ s) :
    Moves i₀ s₀ (setRow effect n ws s) := by
  unfold setRow
  dsimp only
  split
  · exact he _ _ _ h
  · exact answer_moves _ _ _ _ h

theorem enableRow_moves (n : SlotIx) (row : RowId) (h : Moves i₀ s₀ s) : Moves i₀ s₀ (enableRow n row s) := by
  unfold enableRow
  try dsimp only
  repeat' first
    | with_reducible assumption
    | with_reducible apply modRow_moves
    | with_reducible apply answerDone_moves
    | exact fun _ => ⟨rfl, .refl, .refl, .refl, .refl⟩

theorem disableRow_moves (n : SlotIx) (row : RowId) (h : Moves i₀ s₀ s) : Moves i₀ s₀ (disableRow n row s) := by
  unfold disableRow
  try dsimp only
  repeat' first
    | with_reducible assumption
    | with_reducible apply modRow_moves
    | with_reducible apply leaveList_moves
    | with_reducible apply answerDone_moves
    | exact fun _ => ⟨rfl, .refl, .refl, .refl, .refl⟩

theorem clearContested_moves (n : SlotIx) (row : RowId) (h : Moves i₀ s₀ s) : Moves i₀ s₀ (clearContested n row s) := by
  unfold clearContested
  try dsimp only
  repeat' first
    | with_reducible assumption
    | with_reducible apply modRow_moves
    | with_reducible apply refuseState_moves
    | with_reducible apply answerDone_moves
    | exact fun _ => ⟨rfl, .refl, .refl, .refl, .refl⟩
    | split

theorem leavePolling_moves (i : LinkId) (h : Moves i₀ s₀ s) : Moves i₀ s₀ (leavePolling i s) := by
  unfold leavePolling
  try dsimp only
  repeat' first
    | with_reducible assumption
    | with_reducible apply modEntry_moves
    | exact fun hh => hh
    | exact fun hh => ⟨hh.1, hh.2, hh.3⟩

theorem withdrawRobot_moves (r : RobotId) (h : Moves i₀ s₀ s) : Moves i₀ s₀ (withdrawRobot r s) := by
  unfold withdrawRobot
  try dsimp only
  repeat' first
    | with_reducible assumption
    | with_reducible apply push_moves
    | with_reducible apply modRobot_moves
    | with_reducible apply abandonOwned_moves
    | with_reducible apply endAbandoned_moves
    | with_reducible apply dropRobotRequest_moves
    | with_reducible apply leaveSets_moves
    | with_reducible apply vacate_moves
    | with_reducible apply leavePolling_moves
    | exact fun _ => rfl

theorem serviceWithdrawRobot_moves (n : SlotIx) (r : RobotId) (h : Moves i₀ s₀ s) : Moves i₀ s₀ (serviceWithdrawRobot n r s) := by
  unfold serviceWithdrawRobot
  try dsimp only
  repeat' first
    | with_reducible assumption
    | with_reducible apply refuseState_moves
    | with_reducible apply answerDone_moves
    | with_reducible apply withdrawRobot_moves
    | split

theorem withdrawShuttle_moves (k : ShuttleIx) (h : Moves i₀ s₀ s) : Moves i₀ s₀ (withdrawShuttle k s) := by
  unfold withdrawShuttle
  try dsimp only
  repeat' first
    | with_reducible assumption
    | with_reducible apply modShuttle_moves
    | with_reducible apply dropRequests_moves
    | with_reducible apply cancelFetch_moves
    | with_reducible apply leavePolling_moves
    | exact fun hh => hh
    | exact fun hh => Nat.le_trans (List.length_filter_le _ _) hh
    | split

theorem serviceWithdrawShuttle_moves (n : SlotIx) (k : ShuttleIx) (h : Moves i₀ s₀ s) : Moves i₀ s₀ (serviceWithdrawShuttle n k s) := by
  unfold serviceWithdrawShuttle
  try dsimp only
  repeat' first
    | with_reducible assumption
    | with_reducible apply refuseState_moves
    | with_reducible apply answerDone_moves
    | with_reducible apply withdrawShuttle_moves
    | split

theorem serviceWithdraw_moves (n : SlotIx) (ws : List Word) (h : Moves i₀ s₀ s) : Moves i₀ s₀ (serviceWithdraw n ws s) := by
  unfold serviceWithdraw
  try dsimp only
  repeat' first
    | with_reducible assumption
    | with_reducible apply serviceWithdrawRobot_moves
    | with_reducible apply serviceWithdrawShuttle_moves
    | split

theorem returnEntry_moves (i : LinkId) (h : Moves i₀ s₀ s) : Moves i₀ s₀ (returnEntry i s) := by
  unfold returnEntry
  dsimp only
  have h1 : Moves i₀ s₀ (modEntry i LinkEntry.atRunEntry s) :=
    modEntry_moves _ _ (fun hh => ⟨Nat.zero_le _, Nat.zero_lt_succ 7, hh.3⟩) h
  split
  · exact h1
  · exact setNotice_moves _ h1

theorem serviceReturnRobot_moves (n : SlotIx) (r : RobotId) (h : Moves i₀ s₀ s) : Moves i₀ s₀ (serviceReturnRobot n r s) := by
  unfold serviceReturnRobot
  try dsimp only
  repeat' first
    | with_reducible assumption
    | with_reducible apply vacate_moves
    | with_reducible apply modRobot_moves
    | with_reducible apply refuseState_moves
    | with_reducible apply answerDone_moves
    | with_reducible apply returnEntry_moves
    | exact fun _ => rfl
    | split

theorem returnShuttle_moves (k : ShuttleIx) (h : Moves i₀ s₀ s) : Moves i₀ s₀ (returnShuttle k s) := by
  unfold returnShuttle
  try dsimp only
  repeat' first
    | with_reducible assumption
    | with_reducible apply push_moves
    | with_reducible apply modShuttle_moves
    | with_reducible apply becomeIdle_moves
    | with_reducible apply returnEntry_moves
    | exact fun hh => hh

theorem serviceReturnShuttle_moves (n : SlotIx) (k : ShuttleIx) (h : Moves i₀ s₀ s) : Moves i₀ s₀ (serviceReturnShuttle n k s) := by
  unfold serviceReturnShuttle
  try dsimp only
  repeat' first
    | with_reducible assumption
    | with_reducible apply refuseState_moves
    | with_reducible apply answerDone_moves
    | with_reducible apply returnShuttle_moves
    | split

theorem serviceReturn_moves (n : SlotIx) (ws : List Word) (h : Moves i₀ s₀ s) : Moves i₀ s₀ (serviceReturn n ws s) := by
  unfold serviceReturn
  try dsimp only
  repeat' first
    | with_reducible assumption
    | with_reducible apply serviceReturnRobot_moves
    | with_reducible apply serviceReturnShuttle_moves
    | split

theorem declareAt_moves (r : RobotId) (row : RowId) (h : Moves i₀ s₀ s) : Moves i₀ s₀ (declareAt r row s) := by
  unfold declareAt
  try dsimp only
  repeat' first
    | with_reducible assumption
    | with_reducible apply modRobot_moves
    | with_reducible apply endAbandoned_moves
    | with_reducible apply leavePlace_moves
    | with_reducible apply settle_moves
    | exact fun _ => rfl

theorem serviceDeclare_moves (n : SlotIx) (ws : List Word) (h : Moves i₀ s₀ s) : Moves i₀ s₀ (serviceDeclare n ws s) := by
  unfold serviceDeclare
  try dsimp only
  repeat' first
    | with_reducible assumption
    | with_reducible apply refuseState_moves
    | with_reducible apply answerDone_moves
    | with_reducible apply declareAt_moves
    | split

theorem scanStations_moves (n : SlotIx) (ws : List Word) (h : Moves i₀ s₀ s) : Moves i₀ s₀ (scanStations n ws s) := by
  unfold scanStations
  try dsimp only
  repeat' first
    | with_reducible assumption
    | with_reducible apply modScanner_moves
    | with_reducible apply requestScan_moves
    | with_reducible apply refuseState_moves
    | split

theorem wipeStation_moves (n : SlotIx) (ws : List Word) (h : Moves i₀ s₀ s) : Moves i₀ s₀ (wipeStation n ws s) := by
  unfold wipeStation
  try dsimp only
  repeat' first
    | with_reducible assumption
    | with_reducible apply forEach_moves
    | with_reducible apply startPulse_moves
    | with_reducible apply refuseState_moves
    | with_reducible apply answerDone_moves
    | split
    | (intro _ _ _; try dsimp only)

theorem takeDayClose_moves (n : SlotIx) (_x : List Word) (h : Moves i₀ s₀ s) : Moves i₀ s₀ (takeDayClose n _x s) := by
  unfold takeDayClose
  try dsimp only
  repeat' first
    | with_reducible assumption
    | with_reducible apply answer_moves
    | with_reducible apply modFarm_moves
    | with_reducible apply closeAndAnswer_moves
    | exact fun _ => ⟨.refl, .refl, .refl, .refl, .refl, .refl, .refl, .refl⟩
    | split

theorem runDeferredClose_moves (h : Moves i₀ s₀ s) : Moves i₀ s₀ (runDeferredClose s) := by
  unfold runDeferredClose
  try dsimp only
  repeat' first
    | with_reducible assumption
    | with_reducible apply modFarm_moves
    | with_reducible apply endScan_moves
    | with_reducible apply closeAndAnswer_moves
    | exact fun _ => ⟨.refl, .refl, .refl, .refl, .refl, .refl, .refl, .refl⟩
    | split

theorem openRecord_moves (ws : List Word) (h : Moves i₀ s₀ s) : Moves i₀ s₀ (openRecord ws s) := by
  unfold openRecord
  try dsimp only
  repeat' first
    | with_reducible assumption
    | with_reducible apply modRound_moves
    | exact fun hh => hh

theorem wakeFleet_moves (h : Moves i₀ s₀ s) : Moves i₀ s₀ (wakeFleet s) := by
  unfold wakeFleet
  try dsimp only
  repeat' first
    | with_reducible assumption
    | with_reducible apply forEach_moves
    | with_reducible apply commandRobot_moves
    | split
    | (intro _ _ _; try dsimp only)

theorem ListLawful.foldInsert {s : State} (xs : List RowId) (acc : List (RowId × Bool)) (hx : xs.Nodup)
    (hd : ∀ r ∈ xs, r ∉ acc.map Prod.fst) (h : ListLawful acc) :
    ListLawful (xs.foldl (fun acc r => Machine.insertScored s r acc) acc) := by
  induction xs generalizing acc with
  | nil => exact h
  | cons r rest ih =>
    have hn := List.nodup_cons.1 hx
    refine ih _ hn.2 (fun q hq hm => ?_) (h.insertScored (hd r (by simp)))
    obtain ⟨p, hp, rfl⟩ := List.mem_map.1 hm
    rcases mem_insertScored hp with rfl | hp
    · exact hn.1 hq
    · exact hd p.1 (by simp [hq]) (List.mem_map.2 ⟨p, hp, rfl⟩)

theorem fitList_lawful (s : State) : ListLawful (fitList s) :=
  ListLawful.foldInsert _ _ (((List.nodup_finRange 256).filter _).filter _) (fun _ _ => by simp) ListLawful.nil

theorem openRound_moves (n : SlotIx) (ws : List Word) (h : Moves i₀ s₀ s) : Moves i₀ s₀ (openRound n ws s) := by
  unfold openRound
  dsimp only
  have h1 : Moves i₀ s₀ (forEach (rowsOfMask (openRecord ws s)) scoreRow (openRecord ws s)) :=
    forEach_moves _ _ (fun r t ht => scoreRow_moves r ht) (openRecord_moves ws h)
  revert h1
  generalize forEach (rowsOfMask (openRecord ws s)) scoreRow (openRecord ws s) = t
  intro h1
  have h2 : Moves i₀ s₀ (modRound (fun x => { x with state := .active })
      (wakeFleet (modRound (fun x => { x with candidates := fitList t }) t))) :=
    modRound_moves _ (fun hh => hh) (wakeFleet_moves (modRound_moves _ (fun _ => fitList_lawful t) h1))
  split
  · exact answerDone_moves _ _ h2
  · exact pushAll_moves _ (answerDone_moves _ _ h2)

theorem startRound_moves (n : SlotIx) (ws : List Word) (h : Moves i₀ s₀ s) : Moves i₀ s₀ (startRound n ws s) := by
  unfold startRound
  try dsimp only
  repeat' first
    | with_reducible assumption
    | with_reducible apply refuseState_moves
    | with_reducible apply openRound_moves
    | split

theorem stopFinish_moves (n : SlotIx) (_x : List Word) (h : Moves i₀ s₀ s) : Moves i₀ s₀ (stopFinish n _x s) := by
  unfold stopFinish
  try dsimp only
  repeat' first
    | with_reducible assumption
    | with_reducible apply windDown_moves
    | with_reducible apply drain_moves
    | with_reducible apply refuseState_moves
    | with_reducible apply answerDone_moves
    | split

theorem stopRecall_moves (n : SlotIx) (_x : List Word) (h : Moves i₀ s₀ s) : Moves i₀ s₀ (stopRecall n _x s) := by
  unfold stopRecall
  try dsimp only
  repeat' first
    | with_reducible assumption
    | with_reducible apply modRound_moves
    | with_reducible apply recallFleet_moves
    | with_reducible apply refuseState_moves
    | exact fun hh => hh
    | split

theorem ListLawful.forceInto {r : RowId} {xs : List (RowId × Bool)} (h : ListLawful xs) :
    ListLawful (forceInto r xs) := by
  have hl : ListLawful (xs.filter fun p => decide (p.1 ≠ r)) := h.sublist List.filter_sublist
  have hne : ∀ p ∈ xs.filter (fun p => decide (p.1 ≠ r)), p.1 ≠ r := fun p hp => by
    simpa using (List.mem_filter.1 hp).2
  unfold Machine.forceInto
  revert hl hne
  generalize xs.filter (fun p => decide (p.1 ≠ r)) = ys
  intro hl hne
  constructor
  · rw [List.map_append, List.map_cons]
    refine List.nodup_append.2 ⟨hl.once.sublist (List.filter_sublist.map _), List.nodup_cons.2 ⟨fun hm => ?_,
      hl.once.sublist (List.filter_sublist.map _)⟩, fun a ha b hb e => ?_⟩
    · obtain ⟨p, hp, hpr⟩ := List.mem_map.1 hm
      exact hne p (List.mem_of_mem_filter hp) hpr
    · subst e
      obtain ⟨p, hp, rfl⟩ := List.mem_map.1 ha
      rcases List.mem_cons.1 hb with hb | hb
      · exact hne p (List.mem_of_mem_filter hp) hb
      · obtain ⟨q, hq, hqp⟩ := List.mem_map.1 hb
        have hp' := List.mem_filter.1 hp
        have hq' := List.mem_filter.1 hq
        have : q = p := List.inj_on_of_nodup_map hl.once hq'.1 hp'.1 hqp
        subst this
        have h2 := hp'.2
        have h3 := hq'.2
        simp only [h2] at h3
        cases h3
  · refine List.pairwise_append.2 ⟨hl.forcedFirst.sublist List.filter_sublist, List.pairwise_cons.2 ⟨fun _ _ _ => rfl,
      hl.forcedFirst.sublist List.filter_sublist⟩, fun p hp q _ _ => (List.mem_filter.1 hp).2⟩

theorem cleanRow_moves (n : SlotIx) (ws : List Word) (h : Moves i₀ s₀ s) : Moves i₀ s₀ (cleanRow n ws s) := by
  unfold cleanRow
  dsimp only
  split
  · exact refuseState_moves _ _ h
  · exact push_moves _ (answerDone_moves _ _ (modRound_moves _ (fun hh => hh.forceInto) h))

@[simp] theorem recomputeDaily_shuttles (r : RowId) (s : State) : (recomputeDaily r s).shuttles = s.shuttles := rfl
@[simp] theorem setTransmission_shuttles (r : RowId) (n : Nat) (s : State) :
    (setTransmission r n s).shuttles = s.shuttles := rfl
@[simp] theorem passEffect_shuttles (r : RowId) (n : Nat) (s : State) : (passEffect r n s).shuttles = s.shuttles := by
  simp [passEffect]

theorem abandonEffect_shuttles (row : RowId) (n : Nat) (s : State) :
    (abandonEffect row n s).shuttles = s.shuttles := by
  unfold abandonEffect
  dsimp only
  split <;> simp [countPass]

theorem freeRecord_shuttles (x : CtxIx) (s : State) : (freeRecord x s).shuttles = s.shuttles := by
  unfold freeRecord
  dsimp only
  split <;> rfl

theorem freeContext_shuttles (x : CtxIx) (s : State) : (freeContext x s).shuttles = s.shuttles := by
  unfold freeContext
  dsimp only
  split <;> simp [freeRecord_shuttles]

theorem clearPass_shuttles (r : RobotId) (s : State) : (clearPass r s).shuttles = s.shuttles := rfl

theorem abandonContext_shuttles (x : CtxIx) (s : State) : (abandonContext x s).shuttles = s.shuttles := by
  have h : (freeContext x (abandonEffect (s.context x).rowId (s.context x).covered s)).shuttles = s.shuttles := by
    rw [freeContext_shuttles, abandonEffect_shuttles]
  unfold abandonContext
  dsimp only
  revert h
  generalize freeContext x _ = t
  intro h
  split
  · split
    · rw [clearPass_shuttles, h]
    · exact h
  · exact h

theorem abandonOwned_shuttles (r : RobotId) (s : State) : (abandonOwned r s).shuttles = s.shuttles := by
  unfold abandonOwned
  split
  · exact abandonContext_shuttles _ s
  · rfl

theorem acceptMove_moves (n : SlotIx) (r : RobotId) (source d : RowId) (k : ShuttleIx)
    (hk : (tget s.shuttles k).queue.length < 8) (h : Moves i₀ s₀ s) :
    Moves i₀ s₀ (acceptMove n r source d k s) := by
  refine joinQueue_moves k _ ?_ (leaveList_moves d (abandonOwned_moves r h))
  show (tget (abandonOwned r s).shuttles k).queue.length < 8
  rw [abandonOwned_shuttles]
  exact hk

theorem moveRobot_moves (n : SlotIx) (ws : List Word) (h : Moves i₀ s₀ s) : Moves i₀ s₀ (moveRobot n ws s) := by
  unfold moveRobot
  dsimp only
  split
  · exact refuseState_moves _ _ h
  · split
    · rename_i k _ _ _
      split
      · exact answer_moves _ _ _ _ h
      · rename_i hk
        exact acceptMove_moves n _ _ _ k (by simpa [State.shuttle] using hk) h
    · exact refuseState_moves _ _ h

theorem takeAlert_moves (n : AlertIx) (code mask : Nat) (level : AlertLevel) (h : Moves i₀ s₀ s) : Moves i₀ s₀ (takeAlert n code mask level s) := by
  unfold takeAlert
  try dsimp only
  repeat' first
    | with_reducible assumption
    | with_reducible apply modAlert_moves
    | exact fun _ _ => ⟨Nat.zero_le _, Nat.zero_le _, Nat.zero_le _⟩

theorem alertWatch_moves (n : SlotIx) (ws : List Word) (h : Moves i₀ s₀ s) : Moves i₀ s₀ (alertWatch n ws s) := by
  unfold alertWatch
  try dsimp only
  repeat' first
    | with_reducible assumption
    | with_reducible apply answer_moves
    | with_reducible apply changeAlert_moves
    | exact fun _ h => ⟨h.1, h.2, h.3⟩
    | with_reducible apply answerDone_moves
    | with_reducible apply takeAlert_moves
    | split

theorem holdPark_moves (m : AlertIx) (n : SlotIx) (h : Moves i₀ s₀ s) : Moves i₀ s₀ (holdPark m n s) := by
  unfold holdPark
  try dsimp only
  repeat' first
    | with_reducible assumption
    | with_reducible apply modAlert_moves
    | exact fun _ h => ⟨h.1, h.2, h.3⟩

theorem mergeDeadline_moves (m : AlertIx) (deadline : Nat) (h : Moves i₀ s₀ s) : Moves i₀ s₀ (mergeDeadline m deadline s) := by
  unfold mergeDeadline
  try dsimp only
  repeat' first
    | with_reducible assumption
    | with_reducible apply modAlert_moves
    | exact fun _ h => ⟨h.1, h.2, h.3⟩
    | with_reducible apply expireParking_moves
    | with_reducible apply redecide_moves
    | split

theorem mergePark_moves (m : AlertIx) (deadline : Nat) (h : Moves i₀ s₀ s) : Moves i₀ s₀ (mergePark m deadline s) := by
  unfold mergePark
  try dsimp only
  repeat' first
    | with_reducible assumption
    | with_reducible apply modAlert_moves
    | exact fun _ h => ⟨h.1, h.2, h.3⟩
    | with_reducible apply enterParking_moves
    | with_reducible apply mergeDeadline_moves
    | split

theorem mergeParkOrder_moves (n : SlotIx) (m : AlertIx) (deadline : Nat) (h : Moves i₀ s₀ s) : Moves i₀ s₀ (mergeParkOrder n m deadline s) := by
  unfold mergeParkOrder
  try dsimp only
  repeat' first
    | with_reducible assumption
    | with_reducible apply answer_moves
    | with_reducible apply holdPark_moves
    | with_reducible apply mergePark_moves
    | split

theorem alertPark_moves (n : SlotIx) (ws : List Word) (h : Moves i₀ s₀ s) : Moves i₀ s₀ (alertPark n ws s) := by
  unfold alertPark
  try dsimp only
  repeat' first
    | with_reducible assumption
    | with_reducible apply answer_moves
    | with_reducible apply enterParking_moves
    | with_reducible apply takeAlert_moves
    | with_reducible apply holdPark_moves
    | with_reducible apply mergeParkOrder_moves
    | split

theorem clearAlert_moves (m : AlertIx) (h : Moves i₀ s₀ s) : Moves i₀ s₀ (clearAlert m s) := by
  unfold clearAlert
  try dsimp only
  repeat' first
    | with_reducible assumption
    | with_reducible apply answerHeld_moves
    | with_reducible apply freeAlert_moves
    | with_reducible apply enterReleasing_moves
    | split

theorem stormClear_moves (n : SlotIx) (ws : List Word) (h : Moves i₀ s₀ s) : Moves i₀ s₀ (stormClear n ws s) := by
  unfold stormClear
  try dsimp only
  repeat' first
    | with_reducible assumption
    | with_reducible apply refuseState_moves
    | with_reducible apply answerDone_moves
    | with_reducible apply clearAlert_moves
    | split

theorem startTurn_moves (h : Moves i₀ s₀ s) : Moves i₀ s₀ (startTurn s) := by
  unfold startTurn
  try dsimp only
  repeat' first
    | with_reducible assumption
    | with_reducible apply moveHeld_moves
    | with_reducible apply beginTurn_moves

theorem beginSending_moves (h : Moves i₀ s₀ s) : Moves i₀ s₀ (beginSending s) := by
  unfold beginSending
  try dsimp only
  repeat' first
    | with_reducible assumption
    | with_reducible apply modLink_moves
    | exact fun hh => hh
    | exact fun hh => ⟨hh.1, hh.2, hh.3⟩
    | split

theorem dropKey_moves (hc : i₀ = .frameSent) (h : Moves i₀ s₀ s) : Moves i₀ s₀ (dropKey s) := by
  unfold dropKey
  split
  · exact h
  · split
    · rename_i hw
      exact leaveRun_moves (.inr (.inl hc)) hw.1 h
    · exact modLink_moves _ (fun hh => ⟨hh.1, hh.2, hh.3⟩) h

theorem finishTurn_moves (payload : Turn → Option (List Byte)) (noisy : Bool) (h : Moves i₀ s₀ s) :
    Moves i₀ s₀ (finishTurn payload noisy s) := by
  unfold finishTurn
  split
  · exact endTurn_moves _ _ _ h
  · exact h

theorem endBroadcast_moves (h : Moves i₀ s₀ s) : Moves i₀ s₀ (endBroadcast s) := by
  unfold endBroadcast
  try dsimp only
  repeat' first
    | with_reducible assumption
    | with_reducible apply modLink_moves
    | exact fun hh => hh
    | exact fun hh => ⟨hh.1, hh.2, hh.3⟩

theorem reachWindowEnd_moves (h : Moves i₀ s₀ s) : Moves i₀ s₀ (reachWindowEnd s) := by
  unfold reachWindowEnd
  try dsimp only
  repeat' first
    | with_reducible assumption
    | with_reducible apply advanceTo_moves
    | with_reducible apply windDown_moves
    | with_reducible apply recallFleet_moves
    | with_reducible apply drain_moves
    | split

theorem reachHardEnd_moves (h : Moves i₀ s₀ s) : Moves i₀ s₀ (reachHardEnd s) := by
  unfold reachHardEnd
  try dsimp only
  repeat' first
    | with_reducible assumption
    | with_reducible apply advanceTo_moves
    | with_reducible apply recallFleet_moves

theorem reachDeadline_moves (k : ShuttleIx) (h : Moves i₀ s₀ s) : Moves i₀ s₀ (reachDeadline k s) := by
  unfold reachDeadline
  try dsimp only
  repeat' first
    | with_reducible assumption
    | with_reducible apply advanceTo_moves
    | with_reducible apply failStage_moves
    | with_reducible apply failShelter_moves
    | split

theorem endMeasurement_moves (periods : Nat) (h : Moves i₀ s₀ s) : Moves i₀ s₀ (endMeasurement periods s) := by
  unfold endMeasurement
  try dsimp only
  repeat' first
    | with_reducible assumption
    | with_reducible apply modScanner_moves
    | with_reducible apply completeScan_moves
    | split

theorem periodicExpires_moves (h : Moves i₀ s₀ s) : Moves i₀ s₀ (periodicExpires s) := by
  unfold periodicExpires
  try dsimp only
  repeat' first
    | with_reducible assumption
    | with_reducible apply advanceTo_moves
    | with_reducible apply modScanner_moves
    | with_reducible apply requestScan_moves
    | split

theorem pulseExpires_moves (n : StationIx) (h : Moves i₀ s₀ s) : Moves i₀ s₀ (pulseExpires n s) := by
  unfold pulseExpires
  try dsimp only
  repeat' first
    | with_reducible assumption
    | with_reducible apply advanceTo_moves
    | with_reducible apply endPulse_moves
    | split

theorem countPulse_moves (a : AnemIx) (h : Moves i₀ s₀ s) : Moves i₀ s₀ (countPulse a s) := by
  unfold countPulse
  try dsimp only
  repeat' first
    | with_reducible assumption
    | with_reducible apply modAnemometer_moves

theorem windowEnds_moves (a : AnemIx) (h : Moves i₀ s₀ s) : Moves i₀ s₀ (windowEnds a s) := by
  unfold windowEnds
  try dsimp only
  repeat' first
    | with_reducible assumption
    | with_reducible apply advanceTo_moves
    | with_reducible apply endWindow_moves
    | split

theorem parkDeadline_moves (n : AlertIx) (h : Moves i₀ s₀ s) : Moves i₀ s₀ (parkDeadline n s) := by
  unfold parkDeadline
  try dsimp only
  repeat' first
    | with_reducible assumption
    | with_reducible apply advanceTo_moves
    | with_reducible apply expireParking_moves

theorem holdOffExpires_moves (n : AlertIx) (h : Moves i₀ s₀ s) : Moves i₀ s₀ (holdOffExpires n s) := by
  unfold holdOffExpires
  try dsimp only
  repeat' first
    | with_reducible assumption
    | with_reducible apply advanceTo_moves
    | with_reducible apply expireHoldOff_moves

/-! ### Every command -/

theorem registerWrite_cmd_moves {f : State → State} (hf : ∀ t, Moves i₀ s t → Moves i₀ s (f t)) {t : State}
    (ht : act (registerWrite f) s = .next t) : Moves i₀ s t :=
  act_moves (fun _ hu => registerWrite_moves f hf hu) ht

/-- Every command that answers a next state is a chain of its small moves. -/
theorem exec_moves (c : Instr) {s t : State} (h : exec c s = .next t) : Moves c s t := by
  cases c <;> simp only [exec] at h
  case powerOnReset => injection h with h; subst h; exact (Moves.refl s).tail (.powerOn s rfl)
  case pinResetAssert => injection h with h; subst h; exact (Moves.refl s).tail (.pinAssert s rfl)
  case pinResetRelease => injection h with h; subst h; exact (Moves.refl s).tail (.pinRelease s rfl)
  case softReset a b => exact act_moves (fun u hu => hu.tail (.soft u (by exact trivial))) h
  case runRequest p => exact registerWrite_cmd_moves (fun u hu => controlWrite_moves _ _ (by exact rfl) hu) h
  case setupRequest p => exact registerWrite_cmd_moves (fun u hu => controlWrite_moves _ _ (by exact rfl) hu) h
  case statusPageSelect m p => exact registerWrite_cmd_moves (fun u hu => controlWrite_moves _ _ (by exact rfl) hu) h
  case runEntryChecks =>
    refine actWhen_moves (fun hd u hu hm => finishChecking_moves rfl ?_ hm) h
    subst hu
    simpa using hd
  case setupAtFrameEnd =>
    refine actWhen_moves (fun hd u hu hm => leaveRun_moves (.inr (.inr rfl)) ?_ hm) h
    subst hu
    simp only [Bool.and_eq_true, beq_iff_eq] at hd
    exact hd.1.1
  case post mask => exact registerWrite_cmd_moves (fun u hu => postMask_moves _ (by exact rfl) hu) h
  case abort mask => exact registerWrite_cmd_moves (fun u hu => abortMask_moves _ hu) h
  case answeredCollect mask => exact registerWrite_cmd_moves (fun u hu => collectMask_moves _ (by exact rfl) hu) h
  case noticeClear bits => exact registerWrite_cmd_moves (fun u hu => clearNotices_moves _ (by exact rfl) hu) h
  case noticeEnableWrite v => exact registerWrite_cmd_moves (fun u hu => writeEnable_moves _ (by exact rfl) hu) h
  case registerWriteOther reg v => exact act_moves (fun u hu => writeRegister_moves reg v (by exact rfl) (fun hr hv => by exact ⟨hr, hv⟩) hu) h
  case hostMemoryWrite a v =>
    unfold execHostMemoryWrite at h
    split at h
    · cases h
    · split at h
      · rename_i reg hreg
        exact act_moves (fun u hu => writeRegister_moves reg v (by exact hreg) (fun hr hv => by exact ⟨hr ▸ hreg, hv⟩) hu) h
      · injection h with h
        subst h
        exact writeMemory_moves a v rfl (.refl s)
  case hostSilenceExpiry =>
    exact actWhen_moves (fun _ u hu hm => silenceExpires_moves (advanceTo_moves _ hm)) h
  case mirrorRewriteStart m => exact actWhen_moves (fun _ u hu hm => beginRewrite_moves m rfl hm) h
  case mirrorRewriteEnd m => exact actWhen_moves (fun _ u hu hm => endRewrite_moves m rfl hm) h
  case unknownOrder =>
    exact actWhen_moves (fun _ u hu hm => takeHead_moves _ (fun n ws v hv => answer_moves _ _ _ _ hv) hm) h
  case setRowEnable =>
    exact takeOrder_moves (fun n ws u hu => setRow_moves _ (fun n r v hv => enableRow_moves n r hv) n ws hu) h
  case setRowDisable =>
    exact takeOrder_moves (fun n ws u hu => setRow_moves _ (fun n r v hv => disableRow_moves n r hv) n ws hu) h
  case setRowClearContested =>
    exact takeOrder_moves (fun n ws u hu => setRow_moves _ (fun n r v hv => clearContested_moves n r hv) n ws hu) h
  case serviceWithdraw => exact takeOrder_moves (fun n ws u hu => serviceWithdraw_moves n ws hu) h
  case serviceReturn => exact takeOrder_moves (fun n ws u hu => serviceReturn_moves n ws hu) h
  case serviceDeclareAtRow => exact takeOrder_moves (fun n ws u hu => serviceDeclare_moves n ws hu) h
  case scanStations => exact takeOrder_moves (fun n ws u hu => scanStations_moves n ws hu) h
  case wipeStation => exact takeOrder_moves (fun n ws u hu => wipeStation_moves n ws hu) h
  case dayClose => exact takeOrder_moves (fun n ws u hu => takeDayClose_moves n ws hu) h
  case dayCloseDeferred => exact actWhen_moves (fun _ u hu hm => runDeferredClose_moves hm) h
  case startRound => exact takeOrder_moves (fun n ws u hu => startRound_moves n ws hu) h
  case stopRoundFinish => exact takeOrder_moves (fun n ws u hu => stopFinish_moves n ws hu) h
  case stopRoundRecall => exact takeOrder_moves (fun n ws u hu => stopRecall_moves n ws hu) h
  case cleanRow => exact takeOrder_moves (fun n ws u hu => cleanRow_moves n ws hu) h
  case moveRobot => exact takeOrder_moves (fun n ws u hu => moveRobot_moves n ws hu) h
  case stormAlertWatch => exact takeOrder_moves (fun n ws u hu => alertWatch_moves n ws hu) h
  case stormAlertPark => exact takeOrder_moves (fun n ws u hu => alertPark_moves n ws hu) h
  case stormClear => exact takeOrder_moves (fun n ws u hu => stormClear_moves n ws hu) h
  case turnStart => exact actWhen_moves (fun _ u hu hm => startTurn_moves hm) h
  case keyLeadExpiry => exact actWhen_moves (fun _ u hu hm => beginSending_moves hm) h
  case frameSent => exact actWhen_moves (fun _ u hu hm => dropKey_moves rfl hm) h
  case replyWindowExpiry => exact actWhen_moves (fun _ u hu hm => finishTurn_moves _ _ hm) h
  case replyFrameEnd cs => exact actWhen_moves (fun _ u hu hm => finishTurn_moves _ _ hm) h
  case replyLengthLimit cs => exact actWhen_moves (fun _ u hu hm => finishTurn_moves _ _ hm) h
  case broadcastTurnEnd => exact actWhen_moves (fun _ u hu hm => endBroadcast_moves hm) h
  case roundWindowEnd => exact actWhen_moves (fun _ u hu hm => reachWindowEnd_moves hm) h
  case roundHardEnd => exact actWhen_moves (fun _ u hu hm => reachHardEnd_moves hm) h
  case stageDeadlineExpiry k => exact actWhen_moves (fun _ u hu hm => reachDeadline_moves k hm) h
  case measurementEnd p => exact actWhen_moves (fun _ u hu hm => endMeasurement_moves p hm) h
  case periodicScanTimer => exact actWhen_moves (fun _ u hu hm => periodicExpires_moves hm) h
  case wiperPulseEnd n => exact actWhen_moves (fun _ u hu hm => pulseExpires_moves n hm) h
  case anemometerPulse a => exact actWhen_moves (fun _ u hu hm => countPulse_moves a hm) h
  case anemometerWindowEnd a => exact actWhen_moves (fun _ u hu hm => windowEnds_moves a hm) h
  case parkDeadlineExpiry n => exact actWhen_moves (fun _ u hu hm => parkDeadline_moves n hm) h
  case holdOffExpiry n => exact actWhen_moves (fun _ u hu hm => holdOffExpires_moves n hm) h

end Sys2Proof.Machine
end

