-- ==== Sys2Proof/WellFormed.lean ====
section
/-!
DEFINITION. Which command terms stand for something the outside world can do. Index operands are bounded by their
types; the checks here are on the operands that are plain numbers or lists.
-/

namespace Sys2Proof

/-- A line character carries the samples of 11 bit times (R51). -/
def LineChar.wellFormed (c : LineChar) : Bool := c.samples.length == 11

/-- A register that a host write stores nothing in (R201). -/
def Register.readOnly : Register → Bool
  | .id | .status => true
  | _ => false

/-- The checks, one per operand that its type does not bound: the address has 15 bits (11.8), REGISTER_WRITE_OTHER
names ID or STATUS (R201), a count is at most the longest count stage 2^16 - 1 (R82), a reply has at least one
character (R59), each of 11 bits (R51). -/
def Instr.wellFormed : Instr → Bool
  | .hostMemoryWrite addr _ => decide (addr < Config.addressSpace)
  | .registerWriteOther reg _ => reg.readOnly
  | .measurementEnd periods => decide (periods ≤ 65535)
  | .replyFrameEnd cs => cs.all LineChar.wellFormed && decide (0 < cs.length)
  | .replyLengthLimit cs => cs.all LineChar.wellFormed && decide (0 < cs.length)
  | .powerOnReset | .pinResetAssert | .pinResetRelease | .softReset _ _ | .runRequest _ | .setupRequest _
  | .statusPageSelect _ _ | .runEntryChecks | .setupAtFrameEnd | .post _ | .abort _ | .answeredCollect _
  | .noticeClear _ | .noticeEnableWrite _ | .hostSilenceExpiry | .mirrorRewriteStart _ | .mirrorRewriteEnd _
  | .unknownOrder | .setRowEnable | .setRowDisable | .setRowClearContested | .serviceWithdraw | .serviceReturn
  | .serviceDeclareAtRow | .scanStations | .wipeStation | .dayClose | .dayCloseDeferred | .startRound
  | .stopRoundFinish | .stopRoundRecall | .cleanRow | .moveRobot | .stormAlertWatch | .stormAlertPark | .stormClear
  | .turnStart | .keyLeadExpiry | .frameSent | .replyWindowExpiry | .broadcastTurnEnd | .roundWindowEnd
  | .roundHardEnd | .stageDeadlineExpiry _ | .periodicScanTimer | .wiperPulseEnd _ | .anemometerPulse _
  | .anemometerWindowEnd _ | .parkDeadlineExpiry _ | .holdOffExpiry _ => true

end Sys2Proof
end

