-- ==== Sys2Proof/Tests/Slice0.lean ====
section
/-!
SUPPORT. The author's tests: commands that are not well formed are refused; the manual's worked examples and values
worked out by hand from its rules; one small step of each command; and, for each statement with hypotheses, states and
operands that meet them.
-/

open Sys2Proof Sys2Proof.Machine

namespace Sys2Proof.Tests

set_option Elab.async false

/-! ### Well-formedness and decoding -/

theorem test_wellFormed_address : Instr.wellFormed (.hostMemoryWrite 0x8000 0) = false := by decide
theorem test_wellFormed_register : Instr.wellFormed (.registerWriteOther .control 0) = false := by decide
theorem test_wellFormed_count : Instr.wellFormed (.measurementEnd 65536) = false := by decide
theorem test_wellFormed_reply : Instr.wellFormed (.replyFrameEnd []) = false := by decide
theorem test_wellFormed_replyLimit : Instr.wellFormed (.replyLengthLimit []) = false := by decide
theorem test_wellFormed_character :
    Instr.wellFormed (.replyFrameEnd [⟨List.replicate 10 (true, true, true)⟩]) = false := by decide
theorem test_wellFormed_limits : Instr.wellFormed (.hostMemoryWrite 0x7FFF 0) = true
    ∧ Instr.wellFormed (.measurementEnd 65535) = true
    ∧ Instr.wellFormed (.replyFrameEnd [⟨List.replicate 11 (true, true, true)⟩]) = true := by decide
theorem test_no_word_spells_a_command : decodeTableWord 16 0 = none := rfl

/-! ### The manual's worked values -/

/-- R98: the sample ratios of the chapter's table. -/
theorem test_sampleRatio : sampleRatio 40000 36000 = 29491 ∧ sampleRatio 38000 35000 = 30181 := by decide
/-- R99: the filter at shift 2 moves 31000 to 30623 (worked example). -/
theorem test_filtered : filtered 2 false 31000 29491 = 30623 := by decide
/-- R99: the table of steps for a difference of 1509. -/
theorem test_filterStep :
    filterStep 1 1509 = 755 ∧ filterStep 2 1509 = 377 ∧ filterStep 4 1509 = 94 ∧ filterStep 7 1509 = 12 := by decide
/-- R101, R105: Tr after a close, and its daily loss (worked example). -/
theorem test_dailyLoss : 31500 * 30623 / 32768 = 29438 ∧ dailyLoss (lossOf 29438) 30000 = 3048 := by decide
/-- R108: the score of the worked example. -/
theorem test_score : benefit 3048 3 230 = 8215 ∧ passCost 180 850 = 31 := by decide
/-- R110, R111: a whole pass leaves a loss of 339, a daily loss of 310 (worked example). -/
theorem test_wholePass : coveredFraction 180 360 = 256 ∧ lossAfter 3330 230 256 = 339
    ∧ 32768 - 339 = 32429 ∧ dailyLoss 339 30000 = 310 := by decide
/-- R110: partial passes of the worked examples. -/
theorem test_partialPass : coveredFraction 180 90 = 64 ∧ lossAfter 3330 230 64 = 2583
    ∧ coveredFraction 180 120 = 85 ∧ lossAfter 3330 230 85 = 2337 := by decide
/-- R153: drive timeouts of the table. -/
theorem test_driveTimeout : driveTimeout 240 120 = 300 ∧ driveTimeout 440 120 = 500 ∧ driveTimeout 50 300 = 80
    ∧ driveTimeout 4095 120 = 4155 ∧ driveTimeout 1000 35 = 3489 := by decide
/-- R192: travel times of the table. -/
theorem test_travelTime : travelTime 30 20 = 90 ∧ travelTime 150 20 = 450 ∧ travelTime 200 40 = 300
    ∧ travelTime 120 30 = 240 := by decide
/-- R180: wind speeds of the table. -/
theorem test_windSpeed : windSpeed 86 700 = 200 ∧ windSpeed 17 700 = 39 ∧ windSpeed 52 700 = 121
    ∧ windSpeed 600 700 = 1400 := by decide
/-- R82: measurement times of the table. -/
theorem test_measurementTime : measurementNanoseconds 14 4 = 4145750 ∧ measurementNanoseconds 9 8 = 113875
    ∧ measurementNanoseconds 12 4 = 1073750 := by decide
/-- R70: link states at error counts of the table. -/
theorem test_linkState : linkStateOf 90 = .linked ∧ linkStateOf 98 = .weak ∧ linkStateOf 106 = .weak
    ∧ linkStateOf 128 = .mute ∧ linkStateOf 256 = .lost := by decide
/-- R55: the check value of the CRC with this polynomial and start over the ASCII digits 1 to 9 is 0x29B1. -/
theorem test_crc : crc [0x31, 0x32, 0x33, 0x34, 0x35, 0x36, 0x37, 0x38, 0x39] = 0x29B1 := by decide +kernel
/-- R76: an energy difference wraps at 2^24, and half of the range or more counts as none. -/
theorem test_energyDifference : energyDifference (some 16777210) 4 = 10
    ∧ energyDifference (some 4) 16777210 = 0 := by decide

/-! ### The states of the tests -/

/-- What one field of the next state is; none where the command does not complete. -/
def after {α : Type} (c : Instr) (s : State) (f : State → α) : Option α :=
  match exec c s with
  | .next t => some (f t)
  | .fault _ => none
  | .refused _ => none

theorem completes_of_after {c : Instr} {s : State} (h : after c s (fun _ => true) = some true) :
    ∃ t, exec c s = .next t := by
  unfold after at h
  split at h
  · exact ⟨_, ‹_›⟩
  · cases h
  · cases h

/-- The plant of the tests: rows 5, 6 and 7 in block 2, station 0 on channels 0 and 1, robot 0 at home in row 5,
shuttle 0. -/
def plant : Plant :=
  let row (road : Nat) : SiteRow :=
    { present := true, enabledAtStart := true, block := 2, length := 180, yield := 30000, station := some 0, road := road }
  { site := tset (tset (tset (tfill 256 SiteRow.absent) 5 (row 100)) 6 (row 340)) 7 (row 500)
    stations := tset (tfill 16 StationConfig.unused) 0 { used := true, clean := 0, soiled := 1 }
    robots := tset (tfill 48 RobotConfig.unregistered) 0
      { registered := true, surfaceSensor := true, block := 2, home := 5, speed := 30, epm := 850 }
    shuttles := tset (tfill 8 ShuttleConfig.unregistered) 0 { registered := true, block := 2, shelter := 0, speed := 120 }
    params := { Params.default with silenceLimit := 9 } }

/-- RUN with that plant: robot 0 docked at row 5, every row enabled, both stations polled. -/
def base : State :=
  let entry := { LinkEntry.afterReset with inPollList := true }
  { State.reset with
    modes := { ModeUnit.afterReset with mode := .run }
    plant := plant
    rows := tset (tset (tset (tfill 256 Row.powerOn) 5 { Row.powerOn with enabled := true, occupant := some 0 })
      6 { Row.powerOn with enabled := true }) 7 { Row.powerOn with enabled := true }
    robots := tset (tfill 48 Robot.afterReset) 0 { Robot.afterReset with activity := .docked, place := .row 5, soc := 80 }
    stations := tset (tfill 16 Station.powerOn) 0 { Station.powerOn with state := .ok, reseed := false }
    link := { LinkUnit.afterReset with
      entries := tset (tset (tfill 56 LinkEntry.afterReset) 0 entry) 48 entry } }

/-- An order waits in slot 0, its words these. -/
def ordered (ws : List Word) (s : State) : State :=
  { s with
    memory := Memory.writeAll s.memory (addressed 0 ws)
    board := { s.board with intake := [0], slots := tset s.board.slots 0 { Slot.empty with state := .held } } }

/-- Class and detail of slot 0's answer. -/
def answerOf (s : State) : Word × Word := (s.mem 16, s.mem 17)

def setRobot (f : Robot → Robot) (s : State) : State := modRobot 0 f s
def setShuttle (f : Shuttle → Shuttle) (s : State) : State := modShuttle 0 f s
def setRound (f : Round → Round) (s : State) : State := modRound f s

/-- The round is ACTIVE on block 2. -/
def inRound : State := setRound (fun x => { x with state := .active, blocks := 4, windowEnd := 100, hardEnd := 200 }) base
/-- The round is WINDING. -/
def winding : State := setRound (fun x => { x with state := .winding }) inRound
/-- The part is held in reset. -/
def held : State := { State.reset with resetHeld := true }
/-- CHECKING is in progress on an empty memory. -/
def checking : State := { State.reset with modes := { ModeUnit.afterReset with mode := .checking } }
/-- A scan of station 0 is in flight. -/
def scanning (channels : List Nat) (raw : List (Nat × Nat)) : State :=
  { base with scanner := { Scanner.afterReset with
      scan := some { requested := 1, measured := 1, channels := channels, raw := raw, telling := false } } }
/-- An addressed turn to robot 0 stands at this place. -/
def turn : Turn := { station := some 0, frame := [], sequence := 7, sentCommand := none }
def inTurn (phase : LinePhase) : State := { base with link := { base.link with phase := phase } }
/-- Alert record 4 covers every row, in this state. -/
def stormy (state : AlertState) : State :=
  modAlert 4 (fun a => { a with state := state, level := .park, deadline := 50, holdOff := 60 }) base

/-- A character sent cleanly, as the receiver samples it (R51, R52). -/
def sent (c : TxChar) : LineChar :=
  let bit (b : Bool) : Sample := (b, b, b)
  ⟨bit false :: ((List.range 8).map fun j => bit (c.value.getLsbD j)) ++ [bit c.marker, bit true]⟩
/-- A STATUS of a docked robot at row 5 with 80 percent and meter 1000. -/
def statusBytes : List Byte := [1, 5, 0, 0, 0, 80, 0, 3, 0xE8, 0, 0]
def reply : List LineChar := (frameOf 0 0x40 7 statusBytes).map sent
/-- One character with its stop bit and marker wrong. -/
def noise : List LineChar := [⟨List.replicate 11 (false, false, false)⟩]

/-! ### Resets and register writes: one step of each command -/

theorem test_powerOnReset : after .powerOnReset base (fun t => (readId t, t.modes.mode)) = some (0x1148, .setup) := by
  decide +kernel
theorem test_pinResetAssert :
    after .pinResetAssert (ordered [] base) (fun t => (t.resetHeld, readPost t)) = some (true, 0) := by decide +kernel
theorem test_pinResetRelease :
    after .pinResetRelease held (fun t => (readId t, t.resetHeld)) = some (0x2148, false) := by decide +kernel
theorem test_softReset : after (.softReset true true) base (fun t => (readId t, readControl t)) = some (0x3148, 0) := by
  decide +kernel
theorem test_runRequest :
    after (.runRequest false) State.reset (fun t => (t.modes.mode, readControl t)) = some (.checking, 1) := by
  decide +kernel
/-- R34: the fleet of `base` is not at rest in a round. -/
theorem test_setupRequest : after (.setupRequest false) inRound (fun t => (t.modes.mode, t.modes.refusal))
    = some (.run, .fleetActive) := by decide +kernel
theorem test_setupRequest_leaves : after (.setupRequest false) base (fun t => t.modes.mode) = some .setup := by
  decide +kernel
theorem test_statusPageSelect :
    after (.statusPageSelect true true) base (fun t => (t.modes.mode, readControl t)) = some (.run, 5) := by
  decide +kernel
/-- R32: an empty memory has no present row and passes. -/
theorem test_runEntryChecks : after .runEntryChecks checking (fun t => t.modes.mode) = some .run := by decide +kernel
/-- R16, R33, R70: a LOST station that RUN entry takes back to LINKED sets LINK STATE. -/
theorem test_runEntry_linkState :
    after .runEntryChecks (modEntry 0 (fun e => { e with errorCount := 256 }) checking) (fun t => t.board.notice)
      = some 8 := by decide +kernel
/-- R32: a present row of length 0 is refused ROW LENGTH. -/
theorem test_runEntryChecks_refused : after .runEntryChecks { checking with memory := [(0x06A8, 1)] }
    (fun t => (t.modes.mode, t.modes.refusal, t.modes.refusalIndex)) = some (.setup, .rowLength, 1) := by decide +kernel
/-- R77: a taken SETUP request waits through the key lead and is carried out at the end of the frame. -/
theorem test_setupAtFrameEnd :
    after .setupAtFrameEnd { inTurn (.sending turn) with modes := { base.modes with setupWaiting := true } }
      (fun t => (t.modes.mode, t.modes.setupWaiting)) = some (.setup, false)
    ∧ after .setupAtFrameEnd { inTurn (.keyLead turn) with modes := { base.modes with setupWaiting := true } }
      (fun t => t.modes.mode) = some .run := by decide +kernel
/-- R7: slots 1 and 3 are posted in ascending order behind slot 0. -/
theorem test_post : after (.post 0x000A) (ordered [] base) (fun t => (t.board.intake, readPost t, t.board.notice))
    = some ([0, 1, 3], 0x000B, 0) := by decide +kernel
theorem test_post_collision : after (.post 0x0001) (ordered [] base) (fun t => (t.board.intake, t.board.notice))
    = some ([0], 2) := by decide +kernel
theorem test_abort : after (.abort 1) (ordered [3, 9] base) (fun t => (answerOf t, t.mem 18, t.board.intake))
    = some ((3, 0), 9, []) := by decide +kernel
theorem test_answeredCollect : after (.answeredCollect 1)
    (modSlot 0 (fun x => { x with state := .answered }) base) (fun t => (readAnswered t, (t.slot 0).state))
    = some (0, .free) := by decide +kernel
theorem test_noticeClear : after (.noticeClear 0xE005) (modBoard (fun b => { b with notice := 7 }) base)
    (fun t => t.board.notice) = some 2 := by decide +kernel
theorem test_noticeEnableWrite : after (.noticeEnableWrite 0xFFFF) base (fun t => hostRead t 0x7FFC) = some 0x1FFF := by
  decide +kernel
theorem test_registerWriteOther : after (.registerWriteOther .status 0xFFFF) base (fun t => hostRead t 0x7FFA)
    = some 2 := by decide +kernel
theorem test_hostMemoryWrite : after (.hostMemoryWrite 0x7FF7 5) base (fun t => t.memory) = some [(0x7FF7, 5)] := by
  decide +kernel
theorem test_hostSilenceExpiry : after .hostSilenceExpiry (modBoard (fun b => { b with silenceStart := some 40 }) base)
    (fun t => (t.siteSecond, t.board.silent, t.board.notice, t.round.held)) = some (49, true, 4, true) := by
  decide +kernel
/-- R18: the expiry of a limit that starts near the end of the 32-bit count wraps. -/
theorem test_hostSilenceExpiry_wraps :
    after .hostSilenceExpiry (modBoard (fun b => { b with silenceStart := some 4294967290 }) base)
      (fun t => t.siteSecond) = some 3 := by decide +kernel
theorem test_mirrorRewriteStart :
    after (.mirrorRewriteStart .farm) base (fun t => (mirrorOf t .farm).count) = some 1 := by decide +kernel
theorem test_mirrorRewriteEnd :
    after (.mirrorRewriteEnd .farm)
      (modMirror .farm (fun x => { x with count := 1, pending := false, rewrite := some [(0x0241, 9)] }) base)
      (fun t => (t.mem 0x0241, (mirrorOf t .farm).count)) = some (9, 2) := by decide +kernel

/-! ### Orders: one step of each command -/

theorem test_unknownOrder : after .unknownOrder (ordered [12] base) answerOf = some (9, 0) := by decide +kernel
theorem test_setRowEnable : after .setRowEnable (ordered [1, 0, 8, 0] base) answerOf = some (6, 0x80) := by
  decide +kernel
theorem test_setRowDisable : after .setRowDisable (ordered [1, 0, 6, 1] base)
    (fun t => (answerOf t, (t.row 6).enabled)) = some ((1, 0), false) := by decide +kernel
theorem test_setRowClearContested : after .setRowClearContested (ordered [1, 0, 6, 2] base) answerOf
    = some (6, 0x85) := by decide +kernel
theorem test_serviceWithdraw : after .serviceWithdraw (ordered [2, 0, 0, 0] base)
    (fun t => (answerOf t, (t.robot 0).activity, (t.row 5).occupant)) = some ((1, 0), .withdrawn, none) := by
  decide +kernel
theorem test_serviceReturn : after .serviceReturn (ordered [2, 0, 0, 1] base) answerOf = some (6, 1) := by
  decide +kernel
theorem test_serviceReturn_shuttle :
    after .serviceReturn (ordered [2, 0, 48, 1] (setShuttle (fun x => { x with state := .fault }) base))
      (fun t => (answerOf t, (t.shuttle 0).state)) = some ((1, 0), .idle) := by decide +kernel
theorem test_serviceDeclareAtRow :
    after .serviceDeclareAtRow (ordered [2, 0, 0, 2, 6] (setRobot (fun b => { b with activity := .halted }) base))
      (fun t => (answerOf t, (t.robot 0).place, (t.row 5).occupant, (t.row 6).occupant))
      = some ((1, 0), .row 6, none, some 0) := by decide +kernel
theorem test_scanStations : after .scanStations (ordered [3, 0, 1] base)
    (fun t => t.scanner.scan.map fun sc => (sc.measured, sc.channels)) = some (some (1, [0, 1])) := by decide +kernel
theorem test_wipeStation : after .wipeStation (ordered [4, 0, 1] base)
    (fun t => (t.mem 19, t.mem 20, (t.station 0).pulseEnd)) = some (1, 0, some 20) := by decide +kernel
/-- R105, R106: the filtered ratio 16384 halves Tr; D is 15000 for each of the three rows. -/
theorem test_dayClose :
    after .dayClose (ordered [5] (modStation 0 (fun x => { x with srf := 16384, fresh := true }) base))
      (fun t => (answerOf t, (t.row 5).tr, t.mem 19, t.mem 23)) = some ((1, 0), 16384, 45000, 0) := by decide +kernel
theorem test_dayCloseDeferred :
    after .dayCloseDeferred
      { scanning [] [] with
        farm := { Farm.powerOn with closeSlot := some 0 }
        scanner := { Scanner.afterReset with
          scan := some { requested := 1, measured := 1, channels := [], raw := [], telling := true } } }
      (fun t => (answerOf t, t.farm.closeCount, t.scanner.scan.isSome)) = some ((1, 0), 1, false) := by decide +kernel
/-- R108, R109, R122, R129: row 6 alone, with loss 3330, is fit, and goes to robot 0 at once; window 720 is the most. -/
theorem test_startRound :
    after .startRound (ordered [6, 0, 4, 900, 0, 3, 0] (modRow 6 (fun x => { x with tr := 29438 }) base))
      (fun t => (t.mem 19, t.round.windowEnd, (t.row 6).lastScore, t.round.candidates))
      = some (1, 43200, 8184, []) := by decide +kernel
theorem test_stopRoundFinish : after .stopRoundFinish (ordered [7, 0, 0] winding) (fun t => (answerOf t, t.mem 19))
    = some ((1, 0), 0x22) := by decide +kernel
theorem test_stopRoundRecall : after .stopRoundRecall (ordered [7, 0, 1] inRound)
    (fun t => (answerOf t, t.round.state, t.board.notice)) = some ((1, 0), .idle, 0x101) := by decide +kernel
theorem test_cleanRow : after .cleanRow (ordered [8, 0, 6] inRound) (fun t => (answerOf t, t.mem 19, t.mem 20))
    = some ((1, 0), 0, 1) := by decide +kernel
/-- R147, R153: the order starts at once: FETCH to road 100 from an unknown place, 4155 seconds. -/
theorem test_moveRobot : after .moveRobot (ordered [9, 0, 0, 7] base)
    (fun t => ((t.row 7).reserved, (t.shuttle 0).state, (t.shuttle 0).deadline)) = some (some 0, .fetch, some 4155) := by
  decide +kernel
theorem test_stormAlertWatch : after .stormAlertWatch (ordered [10, 0, 6, 0xFF, 0] base)
    (fun t => (answerOf t, t.mem 19, (t.row 6).watch, (t.row 5).watch)) = some ((1, 0), 4, true, false) := by
  decide +kernel
/-- R188: a PARK merges into the PARKED record 4 of code 0 and mask 0, and is answered DONE at once. -/
theorem test_stormAlertPark : after .stormAlertPark (ordered [10, 0, 0, 0, 1, 300] (stormy .parked))
    (fun t => (answerOf t, t.mem 19, (t.alert 4).state)) = some ((1, 0), 4, .parked) := by decide +kernel
theorem test_stormClear : after .stormClear (ordered [11, 0, 6, 0xFF] base) answerOf = some (6, 0x40) := by
  decide +kernel

/-! ### FieldLink: one step of each command -/

theorem test_turnStart : after .turnStart base (fun t => (t.link.cursor, radioKey t)) = some (some 0, true) := by
  decide +kernel
theorem test_keyLeadExpiry : after .keyLeadExpiry (inTurn (.keyLead turn)) (fun t => t.link.phase)
    = some (.sending turn) := by decide +kernel
/-- R51, R53: the first character of a frame is in the shift register, the second waits; 0x7F with its marker goes out
as start 0, seven 1 bits, a 0, marker 1, stop 1. -/
theorem test_keyLeadExpiry_loads :
    let x : TxChar := { marker := true, value := 0x7F }
    let y : TxChar := { marker := false, value := 0x20 }
    after .keyLeadExpiry (inTurn (.keyLead { turn with frame := [x, y] }))
      (fun t => (t.link.transmitter.shift, t.link.transmitter.holding, (List.range 12).map (txd t)))
    = some (some x, some y,
        [false, true, true, true, true, true, true, true, false, true, true, true]) := by decide +kernel
theorem test_frameSent : after .frameSent (inTurn (.sending turn)) (fun t => (t.link.phase, radioKey t))
    = some (.replyWindow turn, false) := by decide +kernel
theorem test_replyWindowExpiry : after .replyWindowExpiry (inTurn (.replyWindow turn))
    (fun t => (t.link.phase, (t.entry 0).errorCount)) = some (.idle, 8) := by decide +kernel
theorem test_replyFrameEnd : after (.replyFrameEnd reply) (inTurn (.replyWindow turn))
    (fun t => ((t.entry 0).baseline, (t.robot 0).soc, (t.robot 0).place)) = some (some 1000, 80, .row 5) := by
  decide +kernel
theorem test_replyLengthLimit : after (.replyLengthLimit noise) (inTurn (.replyWindow turn))
    (fun t => ((t.entry 0).errorCount, (t.entry 0).noise)) = some (8, 0) := by decide +kernel
theorem test_broadcastTurnEnd : after .broadcastTurnEnd (inTurn .broadcastGap) (fun t => t.link.phase) = some .idle := by
  decide +kernel

/-! ### Timers and field instruments: one step of each command -/

theorem test_roundWindowEnd : after .roundWindowEnd (setRound (fun x => { x with graceMinutes := 5 }) inRound)
    (fun t => (t.siteSecond, t.round.state, t.board.notice)) = some (100, .idle, 0x100) := by decide +kernel
theorem test_roundHardEnd :
    after .roundHardEnd (setRobot (fun b => { b with homingMark := true }) winding)
      (fun t => (t.siteSecond, t.round.state)) = some (200, .recalling) := by decide +kernel
theorem test_stageDeadlineExpiry :
    after (.stageDeadlineExpiry 0) (setShuttle (fun x => { x with state := .toShelter, deadline := some 70 }) base)
      (fun t => (t.siteSecond, (t.shuttle 0).state)) = some (70, .fault) := by decide +kernel
theorem test_measurementEnd : after (.measurementEnd 9000) (scanning [0, 1] [])
    (fun t => t.scanner.scan.map fun sc => (sc.channels, sc.raw)) = some (some ([1], [(0, 9000)])) := by decide +kernel
/-- 4.8: counts 10000 and 9000 are SR 29491; the filter at shift 2 takes 32768 to 31949. -/
theorem test_measurementEnd_last : after (.measurementEnd 9000) (scanning [1] [(0, 10000)])
    (fun t => ((t.station 0).srf, (t.station 0).fresh, t.board.notice)) = some (31949, true, 0x400) := by decide +kernel
theorem test_periodicScanTimer :
    after .periodicScanTimer { base with scanner := { Scanner.afterReset with periodicDue := some 600 } }
      (fun t => (t.siteSecond, t.scanner.periodicDue, t.scanner.scan.isSome)) = some (600, some 1200, true) := by
  decide +kernel
theorem test_wiperPulseEnd :
    after (.wiperPulseEnd 0) (modStation 0 (fun x => { x with state := .wiping, remembered := .dark, pulseEnd := some 20 }) base)
      (fun t => ((t.station 0).state, wiperOutput t 0)) = some (.dark, false) := by decide +kernel
theorem test_anemometerPulse : after (.anemometerPulse 3) base (fun t => (tget t.anemometers 3).pulses) = some 1 := by
  decide +kernel
/-- R180, R181: 17 pulses of 700 metres are 39; with a held 121 the mean is 80. -/
theorem test_anemometerWindowEnd :
    after (.anemometerWindowEnd 0)
      (modAnemometer 0 (fun x => { x with pulses := 17, speeds := [121], windowDue := some 3 }) base)
      (fun t => (tget t.anemometers 0)) = some { pulses := 0, speeds := [39, 121], gust := 39, windowDue := some 6 } := by
  decide +kernel
theorem test_meanSpeed : meanSpeed [39, 121] = 80 := by decide
theorem test_parkDeadlineExpiry :
    after (.parkDeadlineExpiry 4)
      (modAlert 4 (fun a => { a with members := tset a.members 0 .unsecured, toSecure := 1 }) (stormy .parking))
      (fun t => (t.siteSecond, (t.alert 4).state, (t.alert 4).late)) = some (50, .parked, 1) := by decide +kernel
theorem test_holdOffExpiry : after (.holdOffExpiry 4) (stormy .releasing)
    (fun t => (t.siteSecond, (t.alert 4).state)) = some (60, .free) := by decide +kernel

/-- R21: one site second passes where no command waits. -/
theorem test_step_idle : (match step { base with pending := [] } with | .next t => t.siteSecond | _ => 0) = 1 := by
  decide +kernel
/-- R109, R123: scores 72, 75 and 70 are listed by falling score. -/
theorem test_candidateOrder :
    let scored (z : Int) : Row := { Row.powerOn with lastScore := z }
    let s := { base with rows := tset (tset (tset base.rows 5 (scored 72)) 6 (scored 75)) 7 (scored 70) }
    insertScored s 7 (insertScored s 6 (insertScored s 5 [])) = [(6, false), (5, false), (7, false)] := by decide +kernel

/-! ### For each statement with hypotheses, states and operands that meet them -/

/-- A host write in RUN finds the silent flag set. -/
def silent : State := modBoard (fun b => { b with silent := true }) base
/-- SETUP at power-on, and RUN with a SETUP request that waits. -/
def waiting : State := { base with modes := { base.modes with setupWaiting := true } }

/-- A character waits behind the one being sent. -/
def loaded : State :=
  let x : TxChar := { marker := true, value := 0x7F }
  { inTurn (.sending turn) with
    link := { base.link with phase := .sending turn, transmitter := { shift := some x, holding := some x, rest := [] } } }

theorem meets_StepTakesFront : (base.pending = [] ∧ base.resetHeld = false ∧ base.link.transmitter.holding = none)
    ∧ (held.pending = [] ∧ held.resetHeld = true)
    ∧ (loaded.pending = [] ∧ loaded.resetHeld = false
      ∧ loaded.link.transmitter.holding = some { marker := true, value := 0x7F }) := by decide +kernel
theorem meets_ResetsBoard : (held.resetHeld = true ∧ Memory.wf held.memory = true)
    ∧ (base.resetHeld = false ∧ Memory.wf base.memory = true) ∧ (Instr.post 1).writes .post
    ∧ (Instr.hostMemoryWrite 0x7FFD 1).writes .post :=
  ⟨by decide, by decide, rfl, rfl⟩
theorem meets_ResetsMasters : (held.resetHeld = true ∧ ∃ t, exec .pinResetRelease held = .next t)
    ∧ (base.resetHeld = false ∧ ∃ t, exec (.softReset false false) base = .next t) :=
  ⟨⟨rfl, completes_of_after (by decide +kernel)⟩, rfl, completes_of_after (by decide +kernel)⟩
theorem meets_HostSilence :
    (base.board.silent = false ∧ State.reset.modes.mode ≠ .run ∧ State.reset.params.silenceLimit = 0)
    ∧ (silent.board.silent = true ∧ silent.modes.mode = .run ∧ silent.params.silenceLimit ≠ 0)
    ∧ ((modBoard (fun b => { b with silenceStart := some 40 }) base).board.silenceStart = some 40
      ∧ base.resetHeld = false) := by decide +kernel
theorem meets_ControlWrites : base.resetHeld = false
    ∧ ¬((afterWrite State.reset).modes.mode = .run ∧ true = false)
    ∧ ¬((afterWrite base).modes.mode = .run ∧ true = false)
    ∧ ¬((afterWrite State.reset).modes.mode = .run ∧ false = false)
    ∧ ((base.shuttleConfig 0).registered = true ∧ (base.shuttle 0).state ≠ .withdrawn)
    ∧ ((afterWrite waiting).modes.mode = .run ∧ (afterWrite waiting).modes.setupWaiting = true)
    ∧ ((afterWrite inRound).modes.mode = .run ∧ (afterWrite inRound).modes.setupWaiting = false
      ∧ atRest (afterWrite inRound) = false)
    ∧ ((afterWrite (inTurn (.sending turn))).modes.mode = .run
      ∧ (afterWrite (inTurn (.sending turn))).modes.setupWaiting = false
      ∧ atRest (afterWrite (inTurn (.sending turn))) = true ∧ radioKey (afterWrite (inTurn (.sending turn))) = true)
    ∧ (atRest (afterWrite base) = true ∧ radioKey (afterWrite base) = false) := by decide +kernel
theorem meets_SlotWrites : base.resetHeld = false := rfl

/-- Slot 0 is HELD and taken. -/
def taken : State := modSlot 0 (fun x => { x with state := .held }) base
/-- Slot 0 is held by the scanner. -/
def scanHeld : State := { taken with scanner := { taken.scanner with orders := [{ slot := 0, mask := 1, covered := true }] } }
/-- Slot 0 is a DAY CLOSE held on a scan. -/
def closeHeld : State := { taken with farm := { taken.farm with closeSlot := some 0 } }
/-- Slot 0 is a PARK held by record 4. -/
def parkHeld : State := modAlert 4 (fun a => { a with state := .parking, heldSlot := some 0 }) taken

/-- Shuttle 0 carries out a transfer of robot 0 from row 5 to row 6 in this stage. -/
def inStage (stage : Stage) (state : ShuttleState) (s : State) : State :=
  let t : Transfer :=
    { robot := 0, source := 5, destination := 6, cls := .host, origin := some 1, stage := stage, stranded := false
      aborting := none }
  setShuttle (fun x => { x with state := state, deadline := some 70, transfer := some t }) s
/-- Robot 0's move from row 5 to row 6 waits at shuttle 0, for slot 0 where it is a HOST request. -/
def request (cls : TransferClass) : Request :=
  { robot := 0, source := 5, destination := 6, cls := cls, origin := if cls = .host then some 0 else none }
def requestedIn (cls : TransferClass) (s : State) : State := setShuttle (fun x => { x with queue := [request cls] }) s
/-- The transfer that `inStage` puts in service, and the same for slot 0. -/
def serving (stage : Stage) (aborting : Option Nat) : Transfer :=
  { robot := 0, source := 5, destination := 6, cls := .host, origin := some 0, stage := stage, stranded := false
    aborting := aborting }
def moveHeldBy (stage : Stage) (aborting : Option Nat) (s : State) : State :=
  setShuttle (fun x => { x with state := stage.state, transfer := some (serving stage aborting) }) s

theorem meets_AbortWrites : base.resetHeld = false ∧ (base.slot 0).state ≠ .held
    ∧ (((ordered [] base).slot 0).state = .held ∧ (0 : SlotIx) ∈ (ordered [] base).board.intake)
    ∧ ((taken.slot 0).state = .held ∧ (0 : SlotIx) ∉ taken.board.intake ∧ (taken.slot 0).abortRequested = false)
    ∧ (((modSlot 0 (fun x => { x with abortRequested := true }) taken).slot 0).state = .held
      ∧ ((modSlot 0 (fun x => { x with abortRequested := true }) taken).slot 0).abortRequested = true)
    ∧ (∃ o ∈ scanHeld.scanner.orders, o.slot = 0)
    ∧ ((∀ o ∈ closeHeld.scanner.orders, o.slot ≠ 0) ∧ closeHeld.farm.closeSlot = some 0
      ∧ closeHeld.scanner.scan = none)
    ∧ ((∀ o ∈ parkHeld.scanner.orders, o.slot ≠ 0) ∧ parkHeld.farm.closeSlot ≠ some 0
      ∧ (parkHeld.alert 4).heldSlot = some 0 ∧ ∀ b : AlertIx, b < 4 → (parkHeld.alert b).heldSlot ≠ some 0)
    ∧ ((∀ o ∈ taken.scanner.orders, o.slot ≠ 0) ∧ taken.farm.closeSlot ≠ some 0
      ∧ (∀ a, (taken.alert a).heldSlot ≠ some 0)
      ∧ ∀ k, (taken.shuttle k).queue = [] ∧ (taken.shuttle k).inService = none)
    ∧ Memory.wf taken.memory = true
    ∧ ((((requestedIn .host taken).shuttle 0).queue.filter fun y => decide (y.origin = some 0)) = [request .host]
      ∧ (request .host).cls = .host)
    ∧ (∀ x ∈ [(Stage.fetch, none), (.board, none), (.board, some 1), (.carry, none), (.alight, none)],
      ((moveHeldBy x.1 x.2 taken).shuttle 0).inService = some (serving x.1 x.2)
      ∧ (∀ j, ∀ y ∈ ((moveHeldBy x.1 x.2 taken).shuttle j).queue, y.origin ≠ some 0)
      ∧ ∀ j, j ≠ 0 → ((moveHeldBy x.1 x.2 taken).shuttle j).inService = none)
    ∧ blockSheltered taken 2 = false
    ∧ blockSheltered (modRow 5 (fun x => { x with sheltered := true }) taken) 2 = true := by decide +kernel
theorem meets_NoticeWrites : base.resetHeld = false := rfl
theorem meets_OutputsFollow : (∃ t, exec (.noticeEnableWrite 1) base = .next t)
    ∧ (∃ t, exec .turnStart base = .next t) ∧ ¬Instr.turnStart.mayReset ∧ ¬Instr.turnStart.writes .noticeEnable
    ∧ (blockClear base 2 = true ∧ held.resetHeld = true ∧ base.link.transmitter.shift = none)
    ∧ (loaded.resetHeld = false ∧ loaded.link.transmitter.shift = some { marker := true, value := 0x7F }) :=
  ⟨completes_of_after (by decide +kernel), completes_of_after (by decide +kernel),
   by simp [Instr.mayReset, Instr.softResets], id, by decide +kernel⟩
theorem meets_RegisterAccess : 0x8000 ≤ 0x8000 ∧ (0 < 0x7FF8 ∧ 0x7FF7 < 0x7FF8 ∧ Memory.wf base.memory = true)
    ∧ (base.modes.refusalIndex < 256 ∧ base.modes.clamped < 256) := by decide
theorem meets_AnswerWritten : Memory.wf base.memory = true ∧ 12 < 13 ∧ 15 < slotBase 0 + 16 := by decide
theorem meets_MirrorLayouts : 4294967295 < 4294967296 := by decide
theorem meets_MirrorRewrites : (∃ p, p ∈ mirrorImage base .farm)
    ∧ (base.resetHeld = false ∧ (mirrorOf base .farm).pending = true ∧ (mirrorOf base .farm).rewrite = none
      ∧ Memory.wf base.memory = true)
    ∧ (let s := modMirror .farm (fun x => { x with rewrite := some [(0x0241, 9)] }) base;
      s.resetHeld = false ∧ (mirrorOf s .farm).rewrite = some [(0x0241, 9)] ∧ Memory.wf s.memory = true
      ∧ (([(0x0241, 9)] : List (Nat × Word)).map Prod.fst).Nodup
      ∧ ∀ p ∈ ([(0x0241, 9)] : List (Nat × Word)), p.1 ≠ countAddress .farm) :=
  ⟨⟨_, List.getElem_mem (n := 0) (by decide +kernel)⟩, by decide +kernel⟩
/-- A SETUP request waits for the end of the frame being sent. -/
def waitingInFrame : State := { inTurn (.sending turn) with modes := waiting.modes }

theorem meets_SetupLeavesRun : (waitingInFrame.resetHeld = false ∧ waitingInFrame.modes.mode = .run
      ∧ waitingInFrame.modes.setupWaiting = true ∧ waitingInFrame.link.phase = .sending turn)
    ∧ Memory.wf waiting.memory = true ∧ 0 ∈ heldLongOrders closeHeld ∧ 1 ∉ heldLongOrders closeHeld := by decide +kernel

/-- CHECKING finds row 1 present with length 0. -/
def checkingBad : State := { checking with memory := [(0x06A8, 1)] }

theorem meets_RunEntryChecks : checking.resetHeld = false ∧ checking.modes.mode = .checking
    ∧ firstFailure { checking with agenda := [] } (readPlant checking).1 = none
    ∧ firstFailure { checkingBad with agenda := [] } (readPlant checkingBad).1 = some (.rowLength, 1) := by decide +kernel
theorem meets_ParametersTaken : checkedNat checking 0x0200 ≠ 0x4643
    ∧ checkedNat { checking with memory := [(0x0200, 0x4643)] } 0x0200 = 0x4643 ∧ (1 ≤ 10 ∧ 1 ≤ 5 ∧ 5 ≤ 10)
    ∧ (∀ q ∈ checking.modes.checkRead, q.1 ≠ 0x06A0)
    ∧ (let read : List (Nat × Word) := [(0x06A1, 3), (0x06A0, 7)]
      read = [(0x06A1, 3)] ++ (0x06A0, 7) :: [] ∧ ∀ q ∈ [((0x06A1 : Nat), (3 : Word))], q.1 ≠ 0x06A0) := by
  decide +kernel

/-- A withdrawn shuttle, and one that stands while record 4 shelters every row. -/
def withdrawnShuttle : State := setShuttle (fun x => { x with state := .withdrawn }) base

theorem meets_RunEntryMasters : base.agenda = []
    ∧ (tget plant.shuttles 1).registered = false ∧ (tget plant.shuttles 0).registered = true
    ∧ (withdrawnShuttle.shuttle 0).state = .withdrawn
    ∧ ((base.shuttle 0).state ≠ .withdrawn
      ∧ blockSheltered (enterRun plant base) (shuttleBlock (enterRun plant base) 0) = false)
    ∧ (((stormy .parked).shuttle 0).state ≠ .fault
      ∧ blockSheltered (enterRun plant (stormy .parked)) (shuttleBlock (enterRun plant (stormy .parked)) 0) = true)
    ∧ ((setShuttle (fun x => { x with state := .fault }) (stormy .parked)).shuttle 0).state = .fault := by
  decide +kernel

/-! #### Orders -/

theorem atHead (ws : List Word) (kind : Nat) (h : ((ordered ws base).mem (slotBase 0)).toNat = kind) :
    AtHead (ordered ws base) 0 [] kind := ⟨rfl, rfl, rfl, h⟩

/-- Slot 0 has been taken from those words. -/
def takenOf (ws : List Word) : State := takenAt (ordered ws base) 0 []

theorem meets_OrdersRefused : (ordered [12] base).board.intake = [0]
    ∧ orderKind ((ordered [12] base).mem (slotBase 0)) = none
    ∧ Instr.cleanRow.takesOrder = some (.cleanRow, isKind .cleanRow)
    ∧ isKind .cleanRow (slotWords (ordered [8, 0, 256] base) 0) = true
    ∧ rangeFailure .cleanRow (slotWords (ordered [8, 0, 256] base) 0) = some 2
    ∧ (ordered [8, 0, 256] base).modes.mode = .run ∧ (ordered [8] State.reset).modes.mode ≠ .run
    ∧ orderKind 1 = some .setRow ∧ orderKind 11 = some .stormClear ∧ (0 : Word).toNat = 0 ∧ 12 ≤ (12 : Word).toNat :=
  ⟨rfl, by decide, rfl, by decide, by decide, rfl, by decide, rfl, rfl, rfl, by decide⟩
theorem meets_SetRowOrders : AtHead (ordered [1, 0, 255, 0] base) 0 [] 1
    ∧ orderWord (ordered [1, 0, 255, 0] base) 0 2 ≤ 255 ∧ orderWord (ordered [1, 0, 255, 0] base) 0 3 = 0
    ∧ orderWord (ordered [1, 0, 255, 1] base) 0 3 = 1 ∧ orderWord (ordered [1, 0, 255, 2] base) 0 3 = 2
    ∧ 2 < orderWord (ordered [1, 0, 255, 3] base) 0 3 :=
  ⟨atHead _ _ (by decide), by decide, by decide, by decide, by decide, by decide⟩

/-- Robot 0 in another activity, slot 0 taken from those words. -/
def robotIn (a : Activity) (ws : List Word) : State := setRobot (fun b => { b with activity := a }) (takenOf ws)
/-- Shuttle 0 in another state. -/
def shuttleIn (x : ShuttleState) (ws : List Word) : State := setShuttle (fun y => { y with state := x }) (takenOf ws)
theorem meets_StationsWithdrawn : AtHead (ordered [2, 0, 47, 0] base) 0 [] 2
    ∧ orderWord (ordered [2, 0, 47, 0] base) 0 2 = (47 : RobotId).1 ∧ orderWord (ordered [2, 0, 47, 0] base) 0 3 = 0
    ∧ ((takenOf [2, 0, 47, 0]).robotConfig 47).registered = false
    ∧ (((robotIn .withdrawn []).robotConfig 0).registered = true ∧ ((robotIn .withdrawn []).robot 0).activity = .withdrawn)
    ∧ (serviceOf (inStage .fetch .fetch (takenOf [])) 0).isSome = true
    ∧ (serviceOf (takenOf []) 0 = none ∧ queueOf (takenOf []) 0 = none ∧ ((takenOf []).robot 0).pass = none
      ∧ ((takenOf []).robot 0).context = none ∧ inSomeSet (takenOf []) 0 = false
      ∧ ∀ k, ((takenOf []).robot 0).place ≠ .shuttle k)
    ∧ (∀ cls ∈ [TransferClass.host, .round], queueOf (requestedIn cls (takenOf [])) 0 = some 0
      ∧ request cls ∈ ((requestedIn cls (takenOf [])).shuttle 0).queue ∧ (request cls).robot = 0)
    ∧ ((request .host).origin = some 0 ∧ Memory.wf (takenOf []).memory = true)
    ∧ ((inStage .fetch .fetch (takenOf [])).shuttle 0).inService.map (fun t => t.origin) = some (some 1)
    ∧ orderWord (ordered [2, 0, 55, 0] base) 0 2 = 48 + (7 : ShuttleIx).1
    ∧ ((takenOf []).shuttleConfig 7).registered = false ∧ ((takenOf []).shuttleConfig 0).registered = true
    ∧ ((shuttleIn .board []).shuttle 0).state = .board
    ∧ ¬(((takenOf []).shuttle 0).state = .withdrawn ∨ ((takenOf []).shuttle 0).state = .board
      ∨ ((takenOf []).shuttle 0).state = .carry ∨ ((takenOf []).shuttle 0).state = .alight
      ∨ ((takenOf []).shuttle 0).carried ≠ none) :=
  ⟨atHead _ _ (by decide), by decide +kernel⟩
theorem meets_StationsReturned : AtHead (ordered [2, 0, 0, 1] base) 0 [] 2 ∧ AtHead (ordered [2, 0, 48, 1] base) 0 [] 2
    ∧ orderWord (ordered [2, 0, 0, 1] base) 0 2 = (0 : RobotId).1 ∧ orderWord (ordered [2, 0, 0, 1] base) 0 3 = 1
    ∧ orderWord (ordered [2, 0, 48, 1] base) 0 2 = 48 + (0 : ShuttleIx).1
    ∧ ((takenOf []).shuttleConfig 7).registered = false ∧ ((takenOf []).shuttleConfig 0).registered = true
    ∧ (((takenOf []).shuttle 0).state ≠ .withdrawn ∧ ((takenOf []).shuttle 0).state ≠ .fault)
    ∧ (((shuttleIn .withdrawn []).shuttle 0).state = .withdrawn ∧ ((shuttleIn .withdrawn []).shuttle 0).carried = none) :=
  ⟨atHead _ _ (by decide), atHead _ _ (by decide), by decide +kernel⟩
theorem meets_RobotDeclared : AtHead (ordered [2, 0, 0, 2, 255] base) 0 [] 2
    ∧ orderWord (ordered [2, 0, 0, 2, 255] base) 0 2 = (0 : RobotId).1
    ∧ orderWord (ordered [2, 0, 0, 2, 255] base) 0 3 = 2 ∧ orderWord (ordered [2, 0, 0, 2, 255] base) 0 4 ≤ 255 :=
  ⟨atHead _ _ (by decide), by decide, by decide, by decide⟩
theorem meets_ScanOrders : AtHead (ordered [3, 0, 1] base) 0 [] 3 ∧ orderWord (ordered [3, 0, 1] base) 0 2 ≠ 0
    ∧ (∃ m, maskHas (0x8000 : Word) m = true ∧ ((takenOf []).stationConfig m).used = false)
    ∧ (∀ m, maskHas (1 : Word) m = true → ((takenOf []).stationConfig m).used = true)
    ∧ (takenOf []).scanner.scan = none
    ∧ ((takenAt (ordered [3, 0, 1] (scanning [0] [])) 0 []).scanner.scan).isSome = true :=
  ⟨atHead _ _ (by decide), by decide, by decide +kernel⟩
theorem meets_WipeOrders : AtHead (ordered [4, 0, 1] base) 0 [] 4 ∧ orderWord (ordered [4, 0, 0] base) 0 2 = 0
    ∧ orderWord (ordered [4, 0, 1] base) 0 2 ≠ 0
    ∧ (∃ m, maskHas (0x8000 : Word) m = true ∧ ((takenOf []).stationConfig m).used = false)
    ∧ (∀ m, maskHas (1 : Word) m = true → ((takenOf []).stationConfig m).used = true)
    ∧ (takenOf []).scanner.scan = none
    ∧ ((takenAt (ordered [4, 0, 1] (scanning [0] [])) 0 []).scanner.scan).isSome = true :=
  ⟨atHead _ _ (by decide), by decide, by decide, by decide +kernel⟩

/-- The account unit has still to be told of the scan that the DAY CLOSE in slot 0 waits for. -/
def telling : State :=
  { closeHeld with scanner := { Scanner.afterReset with
      scan := some { requested := 1, measured := 1, channels := [], raw := [], telling := true } } }

theorem meets_DayCloses : AtHead (ordered [5] base) 0 [] 5 ∧ (takenOf [5]).farm.closeSlot = none
    ∧ (takenOf [5]).scanner.scan = none ∧ closeHeld.farm.closeSlot ≠ none ∧ (scanning [0] []).scanner.scan ≠ none
    ∧ (telling.resetHeld = false ∧ telling.modes.mode = .run ∧ telling.farm.closeSlot = some 0
      ∧ telling.scanner.scan.map (fun x => x.telling) = some true)
    ∧ ((base.stationConfig 0).used = true ∧ (base.stationConfig 1).used = false)
    ∧ ((base.site 5).present = true ∧ (base.site 255).present = false) ∧ base.farm.totalLoss ≤ 0xFFFFFFFF :=
  ⟨atHead _ _ (by decide), by decide +kernel⟩
theorem meets_RoundsOpened : AtHead (ordered [6, 0, 255] base) 0 [] 6 ∧ orderWord (ordered [6, 0, 255] base) 0 2 ≠ 0
    ∧ orderWord (ordered [6, 0, 255] base) 0 2 ≤ 255 ∧ (takenOf []).round.state = .idle ∧ inRound.round.state ≠ .idle
    ∧ Memory.wf base.memory = true ∧ base.round.held = false
    ∧ (let s := modEntry 0 (fun e => { e with doze := true }) base
      (s.robotConfig 0).registered = true ∧ (255 : BitVec 8).getLsbD (s.robotConfig 0).block = true
      ∧ (s.robot 0).activity ≠ .withdrawn ∧ (s.entry (robotLink 0)).doze = true)
    ∧ (setRound (fun x => { x with held := true }) base).round.held = true :=
  ⟨atHead _ _ (by decide), by decide, by decide, by decide +kernel⟩

theorem meets_AbortWrites_telling : (∀ o ∈ telling.scanner.orders, o.slot ≠ 0) ∧ telling.farm.closeSlot = some 0
    ∧ telling.scanner.scan.map (fun sc => sc.telling) = some true := by decide +kernel

/-- The round is RECALLING. -/
def recalling : State := setRound (fun x => { x with state := .recalling }) inRound

theorem meets_StopOrders : AtHead (ordered [7, 0, 0] base) 0 [] 7 ∧ orderWord (ordered [7, 0, 0] base) 0 2 = 0
    ∧ orderWord (ordered [7, 0, 1] base) 0 2 = 1 ∧ (takenOf []).round.state = .idle ∧ inRound.round.state = .active
    ∧ winding.round.state = .winding ∧ recalling.round.state = .recalling :=
  ⟨atHead _ _ (by decide), by decide +kernel⟩
theorem meets_CleanRowOrders : AtHead (ordered [8, 0, 256] base) 0 [] 8 := atHead _ _ (by decide)
theorem meets_MoveOrders : AtHead (ordered [9, 0, 0, 255] base) 0 [] 9
    ∧ orderWord (ordered [9, 0, 0, 255] base) 0 2 = (0 : RobotId).1 ∧ orderWord (ordered [9, 0, 0, 255] base) 0 3 ≤ 255
    ∧ ((takenOf []).robot 0).context = none :=
  ⟨atHead _ _ (by decide), by decide, by decide, by decide +kernel⟩
theorem meets_StormOrders : AtHead (ordered [10, 0, 255, 0, 0] base) 0 [] 10 ∧ AtHead (ordered [11, 0, 255, 0] base) 0 [] 11
    ∧ orderWord (ordered [10, 0, 255, 0, 0] base) 0 2 = (0xFF : Byte).toNat
    ∧ orderWord (ordered [10, 0, 255, 0, 0] base) 0 3 = (0 : Byte).toNat
    ∧ orderWord (ordered [10, 0, 255, 0, 0] base) 0 4 = 0 ∧ orderWord (ordered [10, 0, 255, 0, 1] base) 0 4 = 1 :=
  ⟨atHead _ _ (by decide), atHead _ _ (by decide), by decide, by decide, by decide, by decide⟩

/-! #### FieldLink -/

/-- The urgent queue holds these entries. -/
def queued (xs : List Urgent) (s : State) : State := { s with link := { s.link with urgent := xs } }
/-- No station is polled. -/
def unpolled : State := { base with link := LinkUnit.afterReset }
/-- What TURN_START chooses from. -/
def choosing (s : State) : State := moveHeld { s with agenda := [] }

theorem meets_TurnBegins : base.resetHeld = false ∧ base.modes.mode = .run ∧ base.modes.setupWaiting = false
    ∧ base.link.phase = .idle
    ∧ (let u := choosing (queued [.station 3, .park 4 6 0xFF] base);
      chooseUrgent u u.link.urgent = some (.park 4 6 0xFF, []))
    ∧ (let u := choosing (queued [.station 48] base); chooseUrgent u u.link.urgent = some (.station 48, []))
    ∧ (chooseUrgent (choosing base) (choosing base).link.urgent = none ∧ nextPoll (choosing base) = some (0, 0))
    ∧ (chooseUrgent (choosing unpolled) (choosing unpolled).link.urgent = none
      ∧ ∀ i, ((choosing unpolled).entry i).inPollList = false)
    ∧ ((base.entry 0).inPollList = true ∧ eligible (base.entry 0) base.link.cycle = true ∧ base.link.cursor = none
      ∧ base.link.urgent.length ≤ 16)
    ∧ (let s : State := { base with link := { base.link with cursor := some 48 } }
      (s.entry 0).inPollList = true ∧ eligible (s.entry 0) ((s.link.cycle + 1) % 65536) = true
      ∧ ∀ j : LinkId, 48 < j → (s.entry j).inPollList = false) := by decide +kernel
theorem meets_LineEvents : base.resetHeld = false ∧ (inTurn (.keyLead turn)).link.phase = .keyLead turn
    ∧ ((inTurn (.sending turn)).link.phase = .sending turn
      ∧ ¬((inTurn (.sending turn)).modes.mode = .run ∧ (inTurn (.sending turn)).modes.setupWaiting = true))
    ∧ (waitingInFrame.modes.mode = .run ∧ waitingInFrame.modes.setupWaiting = true
      ∧ waitingInFrame.link.phase = .sending turn)
    ∧ (inTurn .broadcastGap).link.phase = .broadcastGap
    ∧ ((inTurn (.replyWindow turn)).resetHeld = false ∧ (inTurn (.replyWindow turn)).link.phase = .replyWindow turn
      ∧ turn.station = some 0)
    ∧ ((inTurn (.replyWindow turn)).entry 0).inPollList = true
    ∧ (({ unpolled with link := { unpolled.link with phase := .replyWindow turn } } : State).entry 0).inPollList = false
    ∧ (received reply ≠ [] ∧ goodPayload 0 turn.sequence (received reply) = some statusBytes)
    ∧ (received noise ≠ [] ∧ goodPayload 0 turn.sequence (received noise) = none) := by decide +kernel

/-- Robot 0's entry, changed. -/
def withEntry (f : LinkEntry → LinkEntry) : State := modEntry 0 f base

/-- A HALT of the planner, with this sequence and this many sends. -/
def pendingHalt (q : Option Byte) (sends : Nat) : PendingCommand :=
  { cmd := .halt, owner := .planner, sequence := q, sends := sends }
/-- Robot 0's STATUS whose echo is 4. -/
def echoing : List Byte := [1, 5, 0, 0, 0, 80, 0, 3, 0xE8, 4, 0]

theorem meets_PendingCommands : (unpolled.entry 0).inPollList = false
    ∧ ((base.entry 0).inPollList = true ∧ (base.entry 0).command = none)
    ∧ (let e := (withEntry fun e => { e with command := some (pendingHalt (some 4) 8), synchronised := true }).entry 0;
      e.inPollList = true ∧ e.command = some (pendingHalt (some 4) 8) ∧ e.errorCount < 256 ∧ e.synchronised = true)
    ∧ ((pendingHalt none 0).cmd = .halt ∧ (pendingHalt none 0).owner = .planner ∧ Cmd.halt ≠ .gotoDock)
    ∧ ((robotReport echoing).echo = 4 ∧ (robotReport statusBytes).echo = 0)
    ∧ ((pendingHalt (some 4) 8).sequence = some 4 ∧ (pendingHalt (some 4) 8).sequence ≠ some 0)
    ∧ (let e := (withEntry fun e => { e with command := some (pendingHalt none 0) }).entry 0;
      e.command = some (pendingHalt none 0) ∧ e.synchronised = false)
    ∧ (base.params.repeatLimit ≤ (pendingHalt (some 4) 8).sends
      ∧ (pendingHalt (some 4) 7).sends < base.params.repeatLimit) := by decide +kernel
theorem meets_LinkHealth :
    (let p : PendingCommand := { cmd := .halt, owner := .planner, sequence := some 7, sends := 8 };
      ((withEntry fun e => { e with command := some p }).entry 0).command = some p
      ∧ ({ turn with sentCommand := some 7 } : Turn).sentCommand = some 7 ∧ p.sequence = some 7
      ∧ base.params.repeatLimit ≤ p.sends)
    ∧ ((base.entry 0).command = none ∧ (base.entry 0).errorCount < 256)
    ∧ (let e := (withEntry fun e => { e with errorCount := 256 }).entry 0;
      256 ≤ e.errorCount ∧ e.recovery < 7)
    ∧ (let e := (withEntry fun e => { e with errorCount := 256, recovery := 7 }).entry 0;
      256 ≤ e.errorCount ∧ 7 ≤ e.recovery)
    ∧ (0 : LinkId) = robotLink 0 ∧ (48 : LinkId) = shuttleLink 0 ∧ (1 : LinkId) ≠ 0
    ∧ 16777215 < 16777216 := by decide +kernel
theorem meets_StatusReceived : ((47 : LinkId).1 < 48 ∧ statusBytes.length = 11)
    ∧ ((0 : LinkId).1 < 48 ∧ (statusBytes ++ [1, 2]).length = 13)
    ∧ (48 ≤ (48 : LinkId).1 ∧ (List.replicate 9 (0 : Byte)).length = 9) := by decide

/-! #### Scanner, instruments and accounts -/

/-- The scan of station 0 has taken these counts. -/
def counted (k c : Nat) : Scan :=
  { requested := 1, measured := 1, channels := [], raw := [(0, k), (1, c)], telling := false }

theorem meets_ScanCompletes :
    (base.resetHeld = false ∧ base.modes.mode = .run
      ∧ (scanning [0, 1] []).scanner.scan.map (fun x => (x.telling, x.channels)) = some (false, [0, 1])
      ∧ (scanning [1] []).scanner.scan.map (fun x => (x.telling, x.channels)) = some (false, [1]))
    ∧ ({ base with scanner := { Scanner.afterReset with periodicDue := some 600 } } : State).scanner.periodicDue
      = some 600
    ∧ (scanning [] []).scanner.scan.isSome = true ∧ base.scanner.scan = none ∧ (1 : Word) ≠ 0
    ∧ (base.farm.closeSlot = none ∧ base.scanner.pendingMask = 0) ∧ closeHeld.farm.closeSlot = some 0
    ∧ (∃ o ∈ scanHeld.scanner.orders, o.covered = true
      ∧ ∀ o' ∈ scanHeld.scanner.orders, o'.covered = true → o'.slot = o.slot → o' = o)
    ∧ Memory.wf scanHeld.memory = true
    ∧ (base.params.resolution = 14 ∧ base.params.darkFloor = 4096
      ∧ (base.stationConfig 0).clean = 0 ∧ (base.stationConfig 0).soiled = 1)
    ∧ maskHas (counted 0 0).measured 1 = false ∧ maskHas (counted 0 0).measured 0 = true
    ∧ rawCount (counted 16383 0).raw 0 = 2 ^ 14 - 1
    ∧ (rawCount (counted 1023 5).raw 0 ≠ 2 ^ 14 - 1 ∧ rawCount (counted 1023 5).raw 1 ≠ 2 ^ 14 - 1
      ∧ rawCount (counted 1023 5).raw 0 * 2 ^ (16 - 14) < 4096)
    ∧ (rawCount (counted 1024 5).raw 0 ≠ 2 ^ 14 - 1 ∧ 4096 ≤ rawCount (counted 1024 5).raw 0 * 2 ^ (16 - 14)) := by
  decide +kernel
theorem meets_FieldInstruments :
    ((modStation 0 (fun x => { x with pulseEnd := some 20 }) base).resetHeld = false
      ∧ ((modStation 0 (fun x => { x with pulseEnd := some 20 }) base).station 0).pulseEnd = some 20)
    ∧ (base.resetHeld = false ∧ base.modes.mode = .run)
    ∧ (let x := tget (modAnemometer 0 (fun x => { x with pulses := 601, windowDue := some 3 }) base).anemometers 0;
      x.windowDue = some 3 ∧ 600 < x.pulses)
    ∧ (tget base.anemometers 0).pulses ≤ 600
    ∧ ((base.alert 4).state = .free ∧ ((stormy .watch).alert 4).state = .watch
      ∧ ((stormy .releasing).alert 4).state = .releasing ∧ ((stormy .parked).alert 4).state = .parked)
    ∧ (let p := AnemometerParams.default;
      (p.parkGust ≤ 180 ∨ p.parkMean ≤ 0) ∧ ¬(p.parkGust ≤ 179 ∨ p.parkMean ≤ 139) ∧ p.watchGust ≤ 120
      ∧ 119 < p.watchGust ∧ 79 < p.releaseMean)
    ∧ (base.alert 4).calm + 1 < 100 ∧ 100 ≤ 99 + 1
    ∧ (base.alert 4).fault = false ∧ ((modAlert 4 (fun a => { a with fault := true }) base).alert 4).fault = true := by
  decide +kernel
/-- A pass of robot 0 on row 5. -/
def pass (kind : PassKind) (phase : PassPhase) (leg : Leg) (covered : Nat) : Pass :=
  { row := 5, kind := kind, phase := phase, covered := covered, furthestLeg := leg, furthestPosition := 0, energy := 0 }
/-- Robot 0 is CLEANING on it. -/
def cleaning (p : Pass) : State := setRobot (fun b => { b with activity := .cleaning, pass := some p }) inRound
/-- A robot's report. -/
def report (a : Activity) (surface : Option Nat) (leg : Leg) : RobotReport :=
  { activity := a, row := 5, position := 10, leg := leg, soc := 80, meter := 0, echo := 0, faultCode := 0,
    surface := surface }

theorem meets_AccountUnit : (1 ≤ (base.site 5).length ∧ base.params.efficiency ≤ 255) ∧
    (let s := cleaning (pass .fresh .onRail .out 3);
      (s.robot 0).activity = .cleaning ∧ (s.robot 0).pass = some (pass .fresh .onRail .out 3)
      ∧ (s.robot 0).surfaceTaken = false)
    ∧ (base.robot 0).activity ≠ .cleaning
    ∧ (report .cleaning none .out).surface = none
    ∧ ((report .cleaning (some 40000) .out).surface = some 40000 ∧ (report .cleaning (some 40000) .out).leg = .out)
    ∧ (report .cleaning (some 1) .back).leg = .back := by decide +kernel

/-! #### Rounds, transfers, storms -/

theorem meets_RoundStops : (inRound.resetHeld = false ∧ inRound.modes.mode = .run ∧ inRound.round.state = .active)
    ∧ inRound.round.graceMinutes = 0
    ∧ (setRound (fun x => { x with graceMinutes := 5 }) inRound).round.graceMinutes ≠ 0
    ∧ winding.round.state = .winding
    ∧ ((cleaning (pass .fresh .onRail .out 3)).robot 0).pass ≠ none ∧ (inRound.robot 0).pass = none
    ∧ Memory.wf winding.memory = true
    ∧ (winding.round.state = .winding ∧ ∀ r, (winding.robot r).pass = none ∧ (winding.robot r).homingMark = false)
    ∧ (inRound.round.state ≠ .winding ∧ inRound.round.state ≠ .recalling)
    ∧ 0 ∈ (setRound (fun x => { x with recalls := [0] }) winding).round.recalls
    ∧ (∀ p ∈ [pass .fresh .onRail .out 3, pass (.resume 3) .issued .out 0],
      ((cleaning p).robot 0).pass = some p ∧ ((cleaning p).robot 0).storm.target = .none
      ∧ ((cleaning p).robot 0).context = none ∧ (cleaning p).pool.head = some 0 ∧ (cleaning p).pool.freeCount ≠ 0)
    ∧ ((setRobot (fun b => { b with storm := { b.storm with target := .dock } }) (cleaning (pass .fresh .onRail .out 3))).robot
      0).storm.target ≠ .none := by decide +kernel

/-- A round in which robot 0 has a context, a target at its own row, or row 5 or row 6 is a candidate. -/
def withContext : State := setRobot (fun b => { b with context := some 3 }) inRound
def withTarget : State := setRobot (fun b => { b with target := some 5 }) inRound
def withCandidate (r : RowId) : State := setRound (fun x => { x with candidates := [(r, true)] }) inRound
/-- What the first conditions of R127 ask of robot 0, but for its doze flag. -/
def readyIn (s : State) : Bool :=
  let b := s.robot 0
  (s.robotConfig 0).registered && b.activity == .docked && s.round.blocks.getLsbD (s.robotConfig 0).block
    && !b.placementMark && b.place == .row 5 && s.robotLinkState 0 == .linked && decide (s.params.passReserve ≤ b.soc)
    && !hasRequest s 0 && b.pass.isNone && !b.noEchoBar && s.round.state == .active && !s.round.held

theorem meets_Examinations : base.round.state ≠ .active ∧ (base.robotConfig 1).registered = false
    ∧ (∀ s ∈ [inRound, withContext, withTarget, withCandidate 5, withCandidate 6], readyIn s = true
      ∧ (s.entry (robotLink 0)).doze = false ∧ (s.row 5).sheltered = false ∧ (s.row 5).watch = false)
    ∧ ((modRow 5 (fun x => { x with watch := true }) inRound).row 5).watch = true
    ∧ (withContext.robot 0).context = some 3
    ∧ ((withTarget.robot 0).context = none ∧ (withTarget.robot 0).target = some 5 ∧ (withTarget.row 5).enabled = true)
    ∧ ((modRow 5 (fun x => { x with enabled := false }) withTarget).row 5).enabled = false
    ∧ (((withCandidate 5).robot 0).target ≠ some 5 ∧ isCandidate (withCandidate 5) 5 = true)
    ∧ (isCandidate (withCandidate 6) 5 = false ∧ (withCandidate 6).round.candidates = [] ++ ((6 : RowId), true) :: []
      ∧ ((withCandidate 6).site 6).block = 2 ∧ ((withCandidate 6).row 6).occupant = none
      ∧ ((withCandidate 6).row 6).reserved = none ∧ ((withCandidate 6).row 6).contested = false
      ∧ shuttleOf (withCandidate 6) 2 = some 0 ∧ ((withCandidate 6).shuttle 0).state = .idle
      ∧ ((withCandidate 6).shuttle 0).queue.length < 8)
    ∧ (inRound.round.candidates = [] ∧ (inRound.entry (robotLink 0)).inPollList = true)
    ∧ ((modEntry 0 (fun e => { e with doze := true }) (withCandidate 5)).entry (robotLink 0)).doze = true := by
  decide +kernel
theorem meets_PassReports :
    (let p := pass .fresh .onRail .out 3;
      ((cleaning p).robot 0).pass = some p ∧ ((cleaning p).robot 0).activity = .cleaning
      ∧ ((cleaning p).robot 0).context = none ∧ ¬(p.kind = .fresh ∧ (p.phase = .issued ∨ p.covered = 0))
      ∧ (cleaning p).pool.head = some 0 ∧ (cleaning p).pool.freeCount ≠ 0
      ∧ ((cleaning p).robot 0).storm.target = .none ∧ ((cleaning p).row 5).sheltered = false
      ∧ p.phase = .onRail ∧ p.furthestLeg = .out ∧ p.kind = .fresh)
    ∧ ((setRobot (fun b => { b with storm := { StormMarks.clear with target := .clamp } }) base).robot 0).storm.target
      ≠ .none
    ∧ (report .cleaning none .out).activity = .cleaning ∧ (report .docked none .out).activity = .docked
    ∧ (report .returning none .back).activity = .returning ∧ (report .clamped none .back).activity = .clamped
    ∧ (pass .fresh .issued .out 0).phase = .issued
    ∧ ((pass .fresh .onRail .back 360).phase = .onRail ∧ (pass .fresh .onRail .back 360).furthestLeg = .back
      ∧ 1 ≤ (base.site 5).length) := by decide +kernel

/-- Robot 0 owns context 3 and has a pass that resumes it. -/
def resuming : State :=
  setRobot (fun b => { b with context := some 3, pass := some (pass (.resume 3) .issued .out 3) }) inRound
/-- Row 6 could join the list of the round. -/
def reinsertable : State := modRow 6 (fun x => { x with tr := 29438, lastScore := 8184 }) inRound

/-- The CLEAN of a pass on row 5, not sent yet. -/
def pendingClean : PendingCommand := { cmd := .clean 5 .out 0, owner := .planner, sequence := none, sends := 0 }

theorem meets_PlannerTold : (resuming.robot 0).context = some 3
    ∧ (resuming.robot 0).pass = some (pass (.resume 3) .issued .out 3)
    ∧ ((inRound.robot 0).context = none ∧ (inRound.robot 0).pass = none)
    ∧ (pass .fresh .onRail .out 3).kind = .fresh ∧ (pass (.resume 3) .issued .out 3).kind ≠ .fresh
    ∧ (let s := cleaning (pass .fresh .onRail .out 3);
      (s.robot 0).pass = some (pass .fresh .onRail .out 3) ∧ (s.robot 0).context = none ∧ s.pool.head = some 0
      ∧ s.pool.freeCount ≠ 0)
    ∧ (let s := modEntry 0 (fun e => { e with command := some pendingClean }) resuming;
      (s.robot 0).pass ≠ none ∧ (s.entry (robotLink 0)).command = some pendingClean)
    ∧ (pass (.resume 3) .issued .out 3).row ∈ [(5 : RowId)]
    ∧ (let u := reinsertable; let x := u.row 6;
      u.round.state = .active ∧ (u.site 6).present = true ∧ x.enabled = true ∧ x.contested = false ∧ x.reserved = none
      ∧ (∀ q, (u.robot q).pass = none) ∧ x.occupant = none ∧ u.round.leastLoss ≤ 32768 - x.tr ∧ 0 < x.lastScore
      ∧ ∀ p ∈ u.round.candidates, p.1 ≠ 6)
    ∧ base.round.state ≠ .active := by decide +kernel

/-- A context for robot 0 on row 5 is asked for. -/
def asked : SaveRequest :=
  { robot := 0, row := 5, leg := .out, position := 10, covered := 10, energy := 0, cause := .halted }
/-- Robot 0 owns record 3. -/
def owning : State :=
  let records := tset base.pool.records 3 { base.context 3 with owner := some 0, row := 5 }
  { resuming with pool := { base.pool with records := records } }

theorem meets_ContextPool :
    ((base.robot asked.robot).context = none ∧ base.pool.head = some 0 ∧ base.pool.freeCount ≠ 0)
    ∧ ({ base with pool := { base.pool with freeCount := 0, head := none } } : State).pool.freeCount = 0
    ∧ (owning.robot asked.robot).context = some 3 ∧ (owning.context 3).owner = some 0 ∧ (owning.context 4).owner = none
    ∧ 1 ≤ (owning.site (owning.context 3).rowId).length
    ∧ (∀ p ∈ [pass .fresh .issued .out 0, pass .fresh .onRail .out 3, pass (.resume 3) .onRail .out 3],
      ((cleaning p).robot 0).pass = some p ∧ ((cleaning p).robot 0).context = none)
    ∧ (let s := setRobot (fun b => { b with pass := some (pass (.resume 3) .onRail .out 3) }) owning
      (s.robot 0).pass = some (pass (.resume 3) .onRail .out 3) ∧ (s.robot 0).context = some 3) := by decide +kernel

/-! #### Places and transfers -/

/-- Robot 0's mark is set, and row 5 is another robot's. -/
def marked : State := setRobot (fun b => { b with placementMark := true, place := .unknown }) base
def occupied : State := modRow 6 (fun x => { x with occupant := some 1 }) base
/-- The reports of a robot that stands at row 6, and of one that is on the move. -/
def reportAt (a : Activity) (row : RowId) : RobotReport := { report a none .out with row := row }

/-- The pool is lawful where the robots of `base` stand otherwise. -/
theorem base_contexts_unowned : ∀ x, (tget base.pool.records x).owner = none := by decide +kernel
theorem base_robots_no_context : ∀ r, (tget base.robots r).context = none := by decide +kernel

/-- The free list, walked. -/
def walks (records : Table 96 Context) : Option CtxIx → List CtxIx → Bool
  | head, [] => head == none
  | head, x :: rest => head == some x && walks records (tget records x).link rest

theorem freeChain_of_walks (records : Table 96 Context) (xs : List CtxIx) (head : Option CtxIx)
    (h : walks records head xs = true) : freeChain records head xs := by
  induction xs generalizing head with
  | nil => simpa [walks, freeChain] using h
  | cons x rest ih =>
    simp only [walks, Bool.and_eq_true, beq_iff_eq] at h
    exact ⟨h.1, ih _ h.2⟩

theorem base_poolLawful : PoolLawful base :=
  ⟨⟨List.finRange 96, List.nodup_finRange 96, freeChain_of_walks _ _ _ (by decide +kernel), by decide +kernel,
    fun x => by simp [base_contexts_unowned]⟩,
   fun x r => by simp [base_contexts_unowned, base_robots_no_context]⟩

/-- `base` with row 6 the place of robot 1. -/
theorem meets_PlacesReported : (base.robot 0).placementMark = false ∧ (marked.robot 0).placementMark = true
    ∧ ((reportAt .aboard 6).activity = .aboard ∧ (base.site 255).present = false)
    ∧ (let r := reportAt .docked 6;
      r.activity = .docked ∧ (base.site r.row).present = true ∧ (base.site r.row).block = (base.robotConfig 0).block
      ∧ (base.row r.row).contested = false ∧ serviceOf base 0 = none ∧ (base.robot 0).place ≠ .row r.row)
    ∧ serviceOf (inStage .carry .carry base) 0 ≠ none
    ∧ ((base.row 6).occupant = none ∧ (base.robot 0).place = .row 5 ∧ (5 : RowId) ≠ 6)
    ∧ (let s := modRow 6 (fun x => { x with reserved := some 1 }) base;
      (s.row 6).reserved = some 1 ∧ (1 : RobotId) ≠ 0)
    ∧ ((occupied.row 6).occupant = some 1 ∧ (1 : RobotId) ≠ 0 ∧ (occupied.robot 0).place ≠ .row 6) := by decide +kernel
theorem meets_PlacesReported_conflict : PoolLawful occupied := ⟨base_poolLawful.chain, base_poolLawful.owners⟩

theorem meets_TransferStarts : nextRequest base 0 = none
    ∧ (∀ cls ∈ [TransferClass.host, .round], nextRequest (requestedIn cls base) 0 = some (request cls)
      ∧ request cls ∈ ((requestedIn cls base).shuttle 0).queue
      ∧ eligibleRequest (requestedIn cls base) (request cls) = true)
    ∧ (((requestedIn .host base).shuttle 0).state = .idle ∧ ((requestedIn .host base).shuttleConfig 0).registered = true
      ∧ blockSheltered (requestedIn .host base) 2 = false)
    ∧ ((requestedIn .host base).entry (shuttleLink 0)).inPollList = true
    ∧ (shuttleOf base 0 = none ∧ shuttleOf base 2 = some 0)
    ∧ (∀ x ∈ [ShuttleState.toShelter, .sheltered],
      let s := setShuttle (fun y => { y with state := x }) base
      (s.shuttle 0).state = x ∧ shuttleOf s 2 = some 0 ∧ blockSheltered s 2 = false) := by decide +kernel
theorem meets_StageFailures :
    (base.resetHeld = false ∧ base.modes.mode = .run ∧ ((inStage .carry .carry base).shuttle 0).deadline = some 70)
    ∧ (∀ x ∈ [Stage.fetch, .board, .carry, .alight],
      ((inStage x .carry base).shuttle 0).inService.map (fun t => (t.stage, t.origin)) = some (x, some 1)
      ∧ serviceOf (inStage x .carry base) 0 = some 0)
    ∧ Memory.wf base.memory = true
    ∧ (blockSheltered base 2 = false ∧ blockSheltered (stormy .parked) 9 = false)
    ∧ (∀ q ∈ ((inStage .carry .carry base).shuttle 0).queue, q.origin ≠ some 1)
    ∧ (Purpose.fetch = .fetch ∧ ((inStage .fetch .fetch base).shuttle 0).state = .fetch)
    ∧ ¬(Purpose.fetch = .carry) ∧ (base.shuttle 0).state ≠ .fetch
    ∧ (Told.noEcho ≠ .delivered ∧ (serving .board none).stage = .board ∧ (serving .board (some 0)).aborting ≠ none
      ∧ (serving .alight none).stage = .alight ∧ (serving .alight none).destination = 6) := by decide +kernel

/-- A shuttle's report. -/
def shuttleAt (state : ShuttleReported) (road : Nat) (carried : Option RobotId) : ShuttleReport :=
  { state := state, road := road, carried := carried, meter := 0, echo := 0, faultCode := 0 }
/-- Shuttle 0 stands at this road position, its SHUTTLE GO acknowledged. -/
def arrivedAt (road : Nat) (s : State) : State := setShuttle (fun x => { x with road := some road, goAcknowledged := true }) s

theorem meets_StageReports :
    ((base.shuttle 0).state = .idle ∧ ((setShuttle (fun x => { x with state := .fault }) base).shuttle 0).state = .fault)
    ∧ (let s := arrivedAt 1 (setShuttle (fun x => { x with state := .toShelter }) base);
      (s.shuttle 0).state = .toShelter ∧ (shuttleAt .stopped 1 none).state = .stopped ∧ (s.shuttle 0).goAcknowledged = true
      ∧ (s.shuttle 0).road = some 1 ∧ 1 ≤ (s.shuttleConfig 0).shelter + 1 ∧ (s.shuttleConfig 0).shelter ≤ 1 + 1)
    ∧ ((shuttleAt .halted 0 none).state = .halted ∧ (shuttleAt .fault 0 none).state = .fault
      ∧ (shuttleAt .driving 0 none).carried = none ∧ (shuttleAt .stopped 0 (some 3)).carried ≠ none)
    ∧ (let s := arrivedAt 99 (inStage .fetch .fetch base);
      (s.shuttle 0).state = .fetch ∧ (s.shuttle 0).inService.isSome = true ∧ (s.shuttle 0).goAcknowledged = true
      ∧ (s.shuttle 0).road = some 99 ∧ (s.site 5).road = 100)
    ∧ (let s := arrivedAt 341 (inStage .carry .carry base);
      (s.shuttle 0).state = .carry ∧ (s.shuttle 0).inService.isSome = true ∧ (s.shuttle 0).road = some 341
      ∧ (s.site 6).road = 340)
    ∧ (∀ x ∈ [Stage.fetch, .board, .carry, .alight], serviceOf (moveHeldBy x none base) 0 = some 0
      ∧ ((moveHeldBy x none base).shuttle 0).inService = some (serving x none))
    ∧ serviceOf (moveHeldBy .board (some 1) base) 0 = some 0
    ∧ ((reportAt .docked 5).activity = .docked ∧ (reportAt .docked 5).row = (serving .fetch none).source
      ∧ (reportAt .docked 6).row = (serving .carry none).destination ∧ (reportAt .halted 6).activity = .halted
      ∧ (base.robot 0).placementMark = false)
    ∧ (serviceOf base 0 = none ∧ queueOf (requestedIn .host base) 0 = some 0 ∧ queueOf base 0 = none)
    ∧ Memory.wf base.memory = true := by decide +kernel

/-- A failure left robot 0 aboard shuttle 0. -/
def stranded : State :=
  let t : Transfer := { serving .carry none with stranded := true }
  setRobot (fun b => { b with place := .shuttle 0 })
    (setShuttle (fun x => { x with state := .fault, carried := some 0, transfer := some t }) base)

theorem meets_TransfersWithdrawn :
    (∀ x ∈ [Stage.fetch, .board, .carry, .alight], ((moveHeldBy x none base).shuttle 0).inService = some (serving x none)
      ∧ ∀ q ∈ ((moveHeldBy x none base).shuttle 0).queue, q.origin ≠ some 0)
    ∧ Memory.wf base.memory = true
    ∧ (shuttleOf base 0 = none ∧ shuttleOf base 2 = some 0)
    ∧ (request .host ∈ ((requestedIn .host (modRow 6 (fun x => { x with sheltered := true }) base)).shuttle 0).queue
      ∧ ((modRow 6 (fun x => { x with sheltered := true }) base).row (request .host).destination).sheltered = true)
    ∧ ((base.shuttle 0).state = .idle ∧ ((moveHeldBy .fetch none base).shuttle 0).state = .fetch
      ∧ ((moveHeldBy .board none base).shuttle 0).state = .board ∧ ((moveHeldBy .carry none base).shuttle 0).state = .carry)
    ∧ (strandedOf stranded 0 = some 0 ∧ serviceOf stranded 0 = none
      ∧ (stranded.shuttle 0).transfer = some { serving .carry none with stranded := true }
      ∧ (stranded.robot 0).place = .shuttle 0) := by decide +kernel

/-! #### Storms -/

theorem meets_ParkingEntered : base.link.urgent.length ≤ 13
    ∧ (let s := cleaning (pass .fresh .onRail .out 3);
      standsIn s 4 0 = true ∧ (s.robot 0).activity = .cleaning ∧ (s.robot 0).passOnRail = true)
    ∧ ((modRow 5 (fun x => { x with sheltered := true }) (setRobot (fun b => { b with activity := .clamped }) base)).row
      5).sheltered = true := by decide +kernel
theorem meets_StormExpiries : base.resetHeld = false ∧ base.modes.mode = .run
    ∧ ((stormy .parking).alert 4).state = .parking ∧ ((stormy .releasing).alert 4).state = .releasing
    ∧ (parkHeld.alert 4).heldSlot = some 0 ∧ Memory.wf parkHeld.memory = true
    ∧ ((List.finRange 48).filter fun r => decide
      (((modAlert 4 (fun a => { a with members := tset a.members 0 .unsecured }) base).alert 4).member r = .unsecured))
        = [0] := by decide +kernel

/-- Robot 0 has this activity and these storm marks, as an unsecured member of record 4 or as none. -/
def storming (a : Activity) (m : StormMarks) (member : Member) : State :=
  modAlert 4 (fun x => { x with members := tset x.members 0 member, toSecure := 1 })
    (setRobot (fun b => { b with activity := a, storm := m }) (stormy .parking))

theorem meets_StormReports :
    (let s := storming .docked { StormMarks.clear with target := .dock } .unsecured;
      (s.alert 4).member 0 = .unsecured ∧ (s.robot 0).storm.target ≠ .none ∧ (reportAt .docked 5).activity = .docked
      ∧ (s.alert 4).state = .parking ∧ (s.alert 4).secured + 1 = (s.alert 4).toSecure)
    ∧ (let s := storming .clamped { StormMarks.clear with target := .clamp } .unsecured;
      (s.robot 0).storm.target = .clamp ∧ (reportAt .clamped 5).activity = .clamped)
    ∧ (let s := storming .returning { StormMarks.clear with target := .dock, acknowledged := true } .unsecured;
      (reportAt .returning 5).activity = .returning ∧ (s.robot 0).storm.target = .dock
      ∧ (s.robot 0).storm.acknowledged = true ∧ ∀ n, ¬((s.alert n).state = .parking ∧ (s.alert n).member 0 = .out))
    ∧ (storming .cleaning { StormMarks.clear with retry := true } .unsecured).robot 0 ≠ base.robot 0
    ∧ (let s := storming .clamped { StormMarks.clear with retry := true, release := true } .secured;
      (s.robot 0).storm.retry = true ∧ (s.robot 0).storm.release = true ∧ ∀ n, (s.alert n).member 0 ≠ .unsecured)
    ∧ (let s := storming .cleaning StormMarks.clear .out;
      (s.robot 0).placementMark = false ∧ (s.alert 4).state = .parking ∧ (s.robot 0).place = .row 5
      ∧ ((BitVec.ofNat 8 5) ^^^ (s.alert 4).code) &&& (s.alert 4).mask = 0 ∧ (s.alert 4).member 0 = .out
      ∧ ∀ m, m ≠ 4 → (s.alert m).state = .free)
    ∧ ((setRobot (fun b => { b with activity := .clamped }) base).robot 0).activity = .clamped := by decide +kernel

/-- R188, R192: what a merge finds, and a member that no longer reaches its dock by a deadline of 20. -/
theorem meets_StormOrders_merge :
    (∀ x ∈ [AlertState.watch, .releasing, .parking, .parked, .free], ((stormy x).alert 4).state = x)
    ∧ ((stormy .parking).alert 4).deadline = 50 ∧ (stormy .parking).siteSecond = 0
    ∧ (let s := modAlert 4 (fun a => { a with deadline := 20 })
        (storming .cleaning { StormMarks.clear with target := .dock } .unsecured)
      (s.alert 4).member 0 = .unsecured ∧ (s.robot 0).storm.target = .dock
      ∧ ¬(s.siteSecond < (s.alert 4).deadline
        ∧ ((s.robot 0).position * 60 + (s.robotConfig 0).speed - 1) / (s.robotConfig 0).speed + s.params.parkMargin
          ≤ (s.alert 4).deadline - s.siteSecond)) := by decide +kernel

/-- R49: a robot with a saved context, and one left aboard. -/
theorem meets_RobotDeclared_places :
    (let s := setRobot (fun b => { b with pass := none }) owning;
      (s.robot 0).pass = none ∧ (s.robot 0).context = some 3)
    ∧ ((owning.context 3).rowId = 5 ∧ (owning.context 3).owner = some 0 ∧ 1 ≤ (owning.site 5).length)
    ∧ ((owning.robot 0).place = .row 5 ∧ (5 : RowId) ≠ 6)
    ∧ (strandedOf stranded 0 = some 0 ∧ (stranded.robot 0).place = .shuttle 0
      ∧ (stranded.shuttle 0).transfer = some { serving .carry none with stranded := true }) := by decide +kernel

/-! #### What every command keeps: commands that complete, in states that have the property -/

theorem base_turnStart : ∃ t, exec .turnStart base = .next t := completes_of_after (by decide +kernel)

theorem meets_BoundsKept : (BoardLawful (ordered [] base).board ∧ ∃ t, exec .turnStart (ordered [] base) = .next t)
    ∧ RatiosBounded base ∧ LinkLawful base.link ∧ ListLawful [((5 : RowId), true), (6, false)]
    ∧ QueuesLawful base ∧ AlertsLawful base :=
  ⟨⟨⟨by decide, by decide +kernel, by decide +kernel⟩, completes_of_after (by decide +kernel)⟩,
   ⟨by decide +kernel, by decide +kernel⟩,
   ⟨fun i => ⟨(by decide +kernel : ∀ i, (tget base.link.entries i).errorCount ≤ 256) i,
      (by decide +kernel : ∀ i, (tget base.link.entries i).recovery < 8) i,
      (by decide +kernel : ∀ i, (tget base.link.entries i).noise ≤ 255) i⟩, by decide, by decide +kernel⟩,
   ⟨by decide, by decide⟩, by unfold QueuesLawful; decide +kernel,
   fun n => ⟨(by decide +kernel : ∀ n, (tget base.alerts n).toSecure ≤ 48) n,
     (by decide +kernel : ∀ n, (tget base.alerts n).secured ≤ 48) n,
     (by decide +kernel : ∀ n, (tget base.alerts n).late ≤ 48) n⟩⟩

theorem meets_MemoryKept : (base.agenda = [] ∧ ∃ t, exec .turnStart base = .next t) ∧ RewritesLawful base
    ∧ Memory.wf base.memory = true ∧ hostWritten 0 = true
    ∧ Instr.turnStart ≠ .powerOnReset ∧ ∀ v, Instr.turnStart ≠ .hostMemoryWrite 0 v :=
  ⟨⟨rfl, base_turnStart⟩, fun m ws h => by
    have none_ : (mirrorOf base m).rewrite = none := by
      cases m <;> simp [mirrorOf, base, State.reset, Mirrors.afterReset, Mirror.afterReset]
    simp [none_] at h, by decide, by decide, nofun, fun _ => nofun⟩
theorem meets_AccountsKept : Instr.turnStart ≠ .powerOnReset ∧ (∃ t, exec .powerOnReset base = .next t)
    ∧ (∃ t, exec .setupAtFrameEnd waiting = .next t)
    ∧ (base.board.silent = false ∧ ∃ t, exec (.setupRequest false) base = .next t) :=
  ⟨nofun, completes_of_after (by decide +kernel), completes_of_after (by decide +kernel), by decide +kernel,
   completes_of_after (by decide +kernel)⟩
theorem meets_ModesAndNoticesKept : ¬Instr.turnStart.mayReset ∧ ¬Instr.turnStart.writes .notice
    ∧ (let s := modBoard (fun b => { b with notice := 1 }) base;
      s.board.notice.getLsbD 0 = true ∧ ∃ t, exec .turnStart s = .next t) :=
  ⟨by simp [Instr.mayReset, Instr.softResets], id, by decide +kernel, completes_of_after (by decide +kernel)⟩
theorem meets_MarksKept : (mirrorOf base .farm).pending = true ∧ (∃ t, exec .turnStart base = .next t)
    ∧ ¬Instr.turnStart.mayReset ∧ Instr.turnStart ≠ .mirrorRewriteStart .farm
    ∧ Instr.turnStart ≠ .mirrorRewriteEnd .farm :=
  ⟨by decide +kernel, base_turnStart, by simp [Instr.mayReset, Instr.softResets], nofun, nofun⟩
/-- Robot 0 cleans row 5, and row 6 stands in the list. -/
def working : State :=
  setRound (fun x => { x with candidates := [(6, false)] }) (cleaning (pass .fresh .onRail .out 3))

theorem working_turnStart : ∃ t, exec .turnStart working = .next t := completes_of_after (by decide +kernel)

theorem meets_PlacesKept : PlacesLawful working ∧ ∃ t, exec .turnStart working = .next t :=
  ⟨{ atRow := by decide +kernel
     aboard := by decide +kernel
     unreserved := by decide +kernel
     queued := by decide +kernel
     serving := fun k t h => by simp [(by decide +kernel : ∀ k, (working.shuttle k).transfer = none) k] at h
     requested := fun row r h => by simp [(by decide +kernel : ∀ row, (working.row row).reserved = none) row] at h
     once := by decide +kernel
     stages := fun k t h => by simp [(by decide +kernel : ∀ k, (working.shuttle k).transfer = none) k] at h
     stranded := fun k t h => by simp [(by decide +kernel : ∀ k, (working.shuttle k).transfer = none) k] at h
     loaded := fun k r h => by simp [(by decide +kernel : ∀ k, (working.shuttle k).carried = none) k] at h
     carrying := fun k t r h => by simp [(by decide +kernel : ∀ k, (working.shuttle k).transfer = none) k] at h
     withdrawn := by decide +kernel },
   working_turnStart⟩

theorem meets_PoolKept : PlacesLawful working ∧ PoolLawful working ∧ WorkLawful working
    ∧ ∃ t, exec .turnStart working = .next t :=
  ⟨meets_PlacesKept.1, ⟨base_poolLawful.chain, fun x r =>
    ⟨fun h => by simp [working, cleaning, inRound, setRound, modRound, setRobot, base_contexts_unowned] at h,
     fun h => by simp [(by decide +kernel : ∀ r, (tget working.robots r).context = none) r] at h⟩⟩,
   { passes := fun r p h => by
       have only : ∀ r, (working.robot r).pass ≠ none → r = 0 := by decide +kernel
       have zero : (working.robot 0).pass = some (pass .fresh .onRail .out 3) := by decide +kernel
       obtain rfl := only r (by simp [h])
       rw [zero] at h
       cases h
       decide +kernel
     contexts := fun r c h => by simp [(by decide +kernel : ∀ r, (working.robot r).context = none) r] at h
     queued := by decide +kernel
     serving := fun k t h => by simp [(by decide +kernel : ∀ k, (working.shuttle k).inService = none) k] at h
     withdrawn := by decide +kernel
     idle := by decide +kernel
     listed := fun p h => by
       obtain rfl : p = (6, false) := by simpa [working, setRound, modRound] using h
       exact ⟨by decide +kernel, by decide +kernel, by decide +kernel, by decide +kernel,
         fun o h => by simp [(by decide +kernel : (working.row 6).occupant = none)] at h⟩ },
   working_turnStart⟩

end Sys2Proof.Tests
end

section
/-!
SUPPORT. What a command that answers a next state can have done, as one case analysis.
-/

namespace Sys2Proof.Machine

/-! ### The forms of a command -/

/-- The ways in which a command answers a next state. -/
inductive Ran (c : Instr) (s : State) : State → Prop
  /-- The event does not happen, or the reset pin is asserted. -/
  | stood : Ran c s s
  | performed (f : State → State) : Ran c s (perform f s)
  | powered (h : c = .powerOnReset) : Ran c s (powerOn s)
  | asserted (h : c = .pinResetAssert) : Ran c s (assertPin s)
  | released (h : c = .pinResetRelease) : Ran c s (releasePin s)
  | stored (a : Nat) (v : Word) (h : c = .hostMemoryWrite a v) : Ran c s (writeMemory a v s)

theorem act_ran {c : Instr} {f : State → State} {s t : State} (h : act f s = .next t) : Ran c s t := by
  unfold act at h
  injection h with h
  subst h
  split
  · exact .stood
  · exact .performed f

theorem actWhen_ran {c : Instr} {due : State → Bool} {f : State → State} {s t : State}
    (h : actWhen due f s = .next t) : Ran c s t := by
  unfold actWhen at h
  injection h with h
  subst h
  split
  · exact .stood
  · exact .performed f

theorem exec_ran {c : Instr} {s t : State} (h : exec c s = .next t) : Ran c s t := by
  cases c <;> simp only [exec] at h
  case powerOnReset => injection h with h; exact h ▸ .powered rfl
  case pinResetAssert => injection h with h; exact h ▸ .asserted rfl
  case pinResetRelease => injection h with h; exact h ▸ .released rfl
  case hostMemoryWrite a v =>
    unfold execHostMemoryWrite at h
    split at h
    · cases h
    · split at h
      · exact act_ran h
      · injection h with h
        exact h ▸ .stored a v rfl
  case softReset | runRequest | setupRequest | statusPageSelect | post | abort | answeredCollect | noticeClear
    | noticeEnableWrite | registerWriteOther => exact act_ran h
  all_goals exact actWhen_ran h

end Sys2Proof.Machine
end

section
/-!
SUPPORT. Which words of the exchange memory are host-written, and where the words of a record lie (R1, R206).
-/

namespace Sys2Proof.Machine

/-! ### Host-written words and the words of a record -/

theorem hostWritten_eq_false_iff (a : Nat) : hostWritten a = false ↔
    ¬(a < 0x200 ∧ a % 32 ≤ 15) ∧ ¬(0x200 ≤ a ∧ a < 0x240) ∧ ¬(0x2A0 ≤ a ∧ a < 0x320 ∧ (a - 0x2A0) % 8 ≤ 2)
    ∧ ¬(0x320 ≤ a ∧ a < 0x3A0 ∧ 12 ≤ (a - 0x320) % 16) ∧ ¬(0x3A0 ≤ a ∧ a < 0x6A0 ∧ 11 ≤ (a - 0x3A0) % 16)
    ∧ ¬(0x6A0 ≤ a ∧ a < 0xEA0) ∧ ¬(0x25A0 ≤ a ∧ a ≤ 0x7FF7) := by
  simp only [hostWritten, inRecords, Bool.or_eq_false_iff, Bool.and_eq_false_iff, decide_eq_false_iff_not]
  omega

/-- How many words a mirror's record holds behind its change count (R206). -/
def recordLength : MirrorId → Nat
  | .farm => 31
  | .alert _ => 7
  | .station _ => 4
  | .shuttle _ => 11
  | .robot _ => 10
  | .row _ | .context _ => 15

theorem transferImage_length (t : Option Transfer) : (transferImage t).length = 3 := by
  cases t <;> rfl

theorem shuttleImage_length (s : State) (k : ShuttleIx) : (shuttleImage s k).length = 11 := by
  simp [shuttleImage, transferImage_length]

theorem candidateImage_length (s : State) : (candidateImage s).length = 256 := by
  simp [candidateImage]

/-- R206: the words of a rewrite lie behind the change count in the record, and for the farm in the candidate view. -/
theorem mirrorImage_address {s : State} {m : MirrorId} {p : Nat × Word} (h : p ∈ mirrorImage s m) :
    (countAddress m < p.1 ∧ p.1 ≤ countAddress m + recordLength m)
      ∨ m = .farm ∧ 0x24A0 ≤ p.1 ∧ p.1 < 0x25A0 := by
  unfold mirrorImage at h
  dsimp only at h
  rw [List.mem_append] at h
  rcases h with h | h
  · left
    have hp := addressed_mem h
    cases m <;> simp only [recordLength, shuttleImage_length] at hp ⊢
    case shuttle => omega
    case row => exact ⟨hp.1, by have := hp.2; simp only [rowImage, List.length_cons, List.length_nil] at this; omega⟩
    all_goals
      have h2 := hp.2
      simp only [farmImage, alertImage, stationImage, robotImage, contextImage, List.length_cons, List.length_nil] at h2
      omega
  · right
    split at h
    · rename_i hm
      have hp := addressed_mem h
      rw [candidateImage_length] at hp
      exact ⟨hm, hp⟩
    · cases h

/-- R1: no word of a record from its change count on is host-written. -/
theorem hostWritten_record {m : MirrorId} {a : Nat} (hl : countAddress m ≤ a)
    (hu : a ≤ countAddress m + recordLength m) : hostWritten a = false := by
  rw [hostWritten_eq_false_iff]
  cases m with
  | farm => simp only [countAddress, recordLength, Config.farmBase] at hl hu; omega
  | alert n => simp only [countAddress, recordLength, Config.alertBase] at hl hu; omega
  | station n => simp only [countAddress, recordLength, Config.stationBase] at hl hu; omega
  | shuttle n => simp only [countAddress, recordLength, Config.shuttleBase] at hl hu; omega
  | robot n => simp only [countAddress, recordLength, Config.robotBase] at hl hu; omega
  | row n => simp only [countAddress, recordLength, Config.rowBase] at hl hu; omega
  | context n => simp only [countAddress, recordLength, Config.contextBase] at hl hu; omega

theorem hostWritten_countAddress (m : MirrorId) : hostWritten (countAddress m) = false :=
  hostWritten_record (Nat.le_refl _) (Nat.le_add_right _ _)

/-- R4: a rewrite writes only part-written words. -/
theorem hostWritten_mirrorImage {s : State} {m : MirrorId} {p : Nat × Word} (h : p ∈ mirrorImage s m) :
    hostWritten p.1 = false := by
  rcases mirrorImage_address h with ⟨hl, hu⟩ | ⟨-, hl, hu⟩
  · exact hostWritten_record (Nat.le_of_lt hl) hu
  · rw [hostWritten_eq_false_iff]; omega

/-- R1, R5: words 16 to 31 of an order slot are the part's. -/
theorem hostWritten_answerWord {n : SlotIx} {a : Nat} (hl : slotBase n + 16 ≤ a) (hu : a < slotBase n + 32) :
    hostWritten a = false := by
  simp only [slotBase, Config.orderBoardBase] at hl hu
  rw [hostWritten_eq_false_iff]
  omega

end Sys2Proof.Machine
end

section
/-!
What the small moves do to the memory and the mirrors, and from it that every command keeps the memory (O53).
-/

namespace Sys2Proof.Machine

variable {c : Instr} {s t : State}

/-! ### Frames of the operations that branch -/

theorem closeStation_frame (n : StationIx) (s : State) :
    closeStation n s = { s with stations := (closeStation n s).stations } := by
  unfold closeStation
  split <;> rfl

theorem freeRecord_frame (x : CtxIx) (s : State) :
    freeRecord x s = { s with robots := (freeRecord x s).robots, pool := (freeRecord x s).pool } := by
  unfold freeRecord
  split <;> rfl

theorem endRewrite_frame (m : MirrorId) (s : State) :
    endRewrite m s = { s with memory := (endRewrite m s).memory, mirrors := (endRewrite m s).mirrors } := by
  unfold endRewrite
  split <;> rfl

theorem assertPin_held (h : s.resetHeld = true) : assertPin s = s := by simp [assertPin, h]

theorem assertPin_free (h : s.resetHeld = false) :
    assertPin s = { warmReset s.board.resetCause s with memory := s.memory, resetHeld := true } := by
  simp [assertPin, h]

theorem releasePin_held (h : s.resetHeld = true) : releasePin s = { warmReset .pin s with resetHeld := false } := by
  simp [releasePin, h]

theorem releasePin_free (h : s.resetHeld = false) : releasePin s = s := by simp [releasePin, h]

theorem assertPin_eq (s : State) : assertPin s = s
    ∨ assertPin s = { warmReset s.board.resetCause s with memory := s.memory, resetHeld := true } := by
  cases h : s.resetHeld
  · exact .inr (assertPin_free h)
  · exact .inl (assertPin_held h)

theorem releasePin_eq (s : State) : releasePin s = s ∨ releasePin s = { warmReset .pin s with resetHeld := false } := by
  cases h : s.resetHeld
  · exact .inl (releasePin_free h)
  · exact .inr (releasePin_held h)

theorem raceChecking_frame (a : Nat) (s : State) :
    raceChecking a s
      = { s with
          freeCount := (raceChecking a s).freeCount
          modes := { s.modes with checkRead := (raceChecking a s).modes.checkRead } } := by
  unfold raceChecking
  dsimp only
  split
  · split <;> rfl
  · rfl

theorem raceRewrite_frame (a : Nat) (s : State) :
    raceRewrite a s
      = { s with freeCount := (raceRewrite a s).freeCount, mirrors := (raceRewrite a s).mirrors } := by
  unfold raceRewrite
  split
  · rfl
  · dsimp only; split <;> rfl

/-- R2: a host write of a memory word changes the memory, and beside it only the model's race fields (assumptions 9
and 10). -/
theorem writeMemory_frame (a : Nat) (v : Word) (s : State) :
    writeMemory a v s
      = { s with
          memory := Memory.write s.memory a v
          freeCount := (writeMemory a v s).freeCount
          mirrors := (writeMemory a v s).mirrors
          modes := { s.modes with checkRead := (writeMemory a v s).modes.checkRead } } := by
  unfold writeMemory
  dsimp only
  rw [raceRewrite_frame, raceChecking_frame]

/-! ### Mirrors -/

theorem mirrorOf_congr (h : t.mirrors = s.mirrors) (m : MirrorId) : mirrorOf t m = mirrorOf s m := by
  cases m <;> simp only [mirrorOf, h]

theorem mirrorOf_afterReset (h : s.mirrors = Mirrors.afterReset) (m : MirrorId) :
    mirrorOf s m = Mirror.afterReset := by
  cases m <;> simp [mirrorOf, h, Mirrors.afterReset]

theorem mirrorOf_beginRewrite (m m' : MirrorId) (s : State) :
    mirrorOf (beginRewrite m s) m'
      = if m' = m then { count := nextCount (mirrorOf s m).count, pending := false, rewrite := some (mirrorImage s m) }
        else mirrorOf s m' :=
  mirrorOf_replace s m m' _

theorem mirrorOf_endRewrite {m : MirrorId} {ws : List (Nat × Word)} (h : (mirrorOf s m).rewrite = some ws)
    (m' : MirrorId) :
    mirrorOf (endRewrite m s) m'
      = if m' = m then { mirrorOf s m with count := nextCount (mirrorOf s m).count, rewrite := none }
        else mirrorOf s m' := by
  unfold endRewrite
  rw [h]
  exact mirrorOf_replace s m m' _

theorem endRewrite_none {m : MirrorId} (h : (mirrorOf s m).rewrite = none) : endRewrite m s = s := by
  unfold endRewrite
  rw [h]

/-- What the mirror `y` can become, from `x`, where neither a reset nor a rewrite of it takes place: its count stands,
a mark stands, and of the words still to be written none is new. -/
structure MirrorStands (x y : Mirror) : Prop where
  count : y.count = x.count
  pending : x.pending = true → y.pending = true
  rewrite : ∀ ws, y.rewrite = some ws → ∃ vs, x.rewrite = some vs ∧ ∀ p ∈ ws, p ∈ vs

theorem MirrorStands.refl (x : Mirror) : MirrorStands x x := ⟨rfl, id, fun ws h => ⟨ws, h, fun _ hp => hp⟩⟩

theorem MirrorStands.of_mirrors (h : t.mirrors = s.mirrors) (m : MirrorId) :
    MirrorStands (mirrorOf s m) (mirrorOf t m) := mirrorOf_congr h m ▸ .refl _

/-- What a small move does to a mirror. -/
inductive MirrorMove (c : Instr) (s t : State) (m : MirrorId) : Prop
  | stands (h : MirrorStands (mirrorOf s m) (mirrorOf t m))
  | reset (hc : c.mayReset) (h : mirrorOf t m = Mirror.afterReset)
  | begins (hc : c = .mirrorRewriteStart m)
      (h : mirrorOf t m
        = { count := nextCount (mirrorOf s m).count, pending := false, rewrite := some (mirrorImage s m) })
  | ends (hc : c = .mirrorRewriteEnd m)
      (h : mirrorOf t m = { mirrorOf s m with count := nextCount (mirrorOf s m).count, rewrite := none })

theorem Small.mirror (h : Small c s t) (m : MirrorId) : MirrorMove c s t m := by
  cases h with
  | marks ms h => exact .stands ⟨(h m).1, (h m).2.1, (h m).2.2⟩
  | rewriteStart m' hc =>
    have hm := mirrorOf_beginRewrite m' m s
    split at hm
    · rename_i e; subst e; exact .begins hc hm
    · exact .stands (hm ▸ .refl _)
  | rewriteEnd m' hc =>
    cases hr : (mirrorOf s m').rewrite with
    | none => rw [endRewrite_none hr]; exact .stands (.refl _)
    | some ws =>
      have hm := mirrorOf_endRewrite hr m
      split at hm
      · rename_i e; subst e; exact .ends hc hm
      · exact .stands (hm ▸ .refl _)
  | powerOn hc => exact .reset (.inl hc) (mirrorOf_afterReset rfl m)
  | pinAssert hc =>
    rcases assertPin_eq s with h | h <;> rw [h]
    · exact .stands (.refl _)
    · exact .reset (.inr (.inl hc)) (mirrorOf_afterReset rfl m)
  | pinRelease hc =>
    rcases releasePin_eq s with h | h <;> rw [h]
    · exact .stands (.refl _)
    · exact .reset (.inr (.inr (.inl hc))) (mirrorOf_afterReset rfl m)
  | soft hc => exact .reset (.inr (.inr (.inr hc))) (mirrorOf_afterReset rfl m)
  | closeStation n => exact .stands (.of_mirrors (by rw [closeStation_frame]) m)
  | release x r => exact .stands (.of_mirrors (by rw [freeRecord_frame]) m)
  | _ => exact .stands (.of_mirrors rfl m)

/-! ### The memory -/

theorem wf_zeroCounts {mem : List (Nat × Word)} (h : Memory.wf mem = true) : Memory.wf (zeroCounts mem) = true :=
  Memory.wf_writeAll h _

/-- R3: the resets write the change counts and nothing else. -/
theorem read_zeroCounts {mem : List (Nat × Word)} (h : Memory.wf mem = true) {a : Nat}
    (ha : ∀ m, a ≠ countAddress m) : Memory.read (zeroCounts mem) a = Memory.read mem a := by
  refine Memory.read_writeAll_ne h _ fun p hp => ?_
  obtain ⟨m, -, rfl⟩ := List.mem_map.1 hp
  exact (ha m).symm

theorem warmReset_memory (cause : ResetCause) (s : State) : (warmReset cause s).memory = zeroCounts s.memory := by
  simp only [warmReset]

theorem Small.memory_wf (h : Small c s t) (hs : Memory.wf s.memory = true) : Memory.wf t.memory = true := by
  cases h with
  | answer n cls d ws => rw [answer_memory]; exact Memory.wf_writeAll hs _
  | rewriteStart m => exact Memory.wf_write hs _ _
  | rewriteEnd m =>
    unfold endRewrite
    split
    · exact hs
    · exact Memory.wf_write (Memory.wf_writeAll hs _) _ _
  | hostWrite a v => exact Memory.wf_write hs a v
  | powerOn => rfl
  | pinAssert => rcases assertPin_eq s with h | h <;> rw [h] <;> exact hs
  | pinRelease =>
    rcases releasePin_eq s with h | h <;> rw [h]
    · exact hs
    · rw [warmReset_memory]; exact wf_zeroCounts hs
  | soft => rw [warmReset_memory]; exact wf_zeroCounts hs
  | closeStation n => rw [closeStation_frame]; exact hs
  | release x r => rw [freeRecord_frame]; exact hs
  | _ => exact hs

theorem Small.pending_eq (h : Small c s t) : t.pending = s.pending := by
  cases h with
  | pinAssert => rcases assertPin_eq s with h | h <;> rw [h]; rfl
  | pinRelease => rcases releasePin_eq s with h | h <;> rw [h]; rfl
  | rewriteEnd m => rw [endRewrite_frame]
  | closeStation n => rw [closeStation_frame]
  | release x r => rw [freeRecord_frame]
  | _ => rfl

theorem ne_countAddress {a : Nat} (h : hostWritten a = true) (m : MirrorId) : a ≠ countAddress m := by
  rintro rfl
  rw [hostWritten_countAddress] at h
  cases h

/-- R1, R2: a small move of a command other than power-on and a host write of the word leaves a host-written word
alone. -/
theorem Small.read_hostWritten (h : Small c s t) (hwf : Memory.wf s.memory = true) (hr : RewritesLawful s) {a : Nat}
    (ha : hostWritten a = true) (hp : c ≠ .powerOnReset) (hw : ∀ v, c ≠ .hostMemoryWrite a v) : t.mem a = s.mem a := by
  cases h with
  | answer n cls d ws =>
    unfold State.mem
    rw [answer_memory]
    refine Memory.read_writeAll_ne hwf _ fun p hp => ?_
    rintro rfl
    have hb := addressed_mem hp
    simp only [List.length_cons, padResults, List.length_map, List.length_range] at hb
    rw [hostWritten_answerWord (n := n) hb.1 (by omega)] at ha
    cases ha
  | rewriteStart m =>
    exact (Memory.read_write hwf _ _ a).trans (if_neg (ne_countAddress ha m))
  | rewriteEnd m =>
    cases hm : (mirrorOf s m).rewrite with
    | none => rw [endRewrite_none hm]
    | some ws =>
      have hws : ∀ p ∈ ws, p.1 ≠ a := by
        rintro p hp rfl
        rw [hr m ws hm p hp] at ha
        cases ha
      unfold endRewrite
      rw [hm]
      exact (Memory.read_write (Memory.wf_writeAll hwf _) _ _ a).trans
        ((if_neg (ne_countAddress ha m)).trans (Memory.read_writeAll_ne hwf ws hws))
  | hostWrite b v hc =>
    refine (Memory.read_write hwf b v a).trans (if_neg ?_)
    rintro rfl
    exact hw v hc
  | powerOn hc => exact absurd hc hp
  | pinAssert => rcases assertPin_eq s with h | h <;> rw [h]; rfl
  | pinRelease =>
    rcases releasePin_eq s with h | h <;> rw [h]
    unfold State.mem
    rw [warmReset_memory]
    exact read_zeroCounts hwf (ne_countAddress ha)
  | soft =>
    unfold State.mem
    rw [warmReset_memory]
    exact read_zeroCounts hwf (ne_countAddress ha)
  | closeStation n => rw [closeStation_frame]; rfl
  | release x r => rw [freeRecord_frame]; rfl
  | _ => rfl

theorem Small.rewritesLawful (h : Small c s t) (hs : RewritesLawful s) : RewritesLawful t := by
  intro m ws hw p hp
  cases h.mirror m with
  | stands hm =>
    obtain ⟨vs, hv, hsub⟩ := hm.rewrite ws hw
    exact hs m vs hv p (hsub p hp)
  | reset _ hm => rw [hm] at hw; cases hw
  | begins _ hm =>
    rw [hm] at hw
    cases hw
    exact hostWritten_mirrorImage hp
  | ends _ hm => rw [hm] at hw; cases hw

/-- No command leaves a notice undelivered (assumption 12). -/
theorem Ran.agenda (h : Ran c s t) (hs : s.agenda = []) : t.agenda = [] := by
  cases h with
  | stood => exact hs
  | performed f => exact drain_agenda _
  | powered => rfl
  | asserted => rcases assertPin_eq s with h | h <;> rw [h]; exacts [hs, rfl]
  | released => rcases releasePin_eq s with h | h <;> rw [h]; exacts [hs, rfl]
  | stored a v => rw [writeMemory_frame]; exact hs

/-- Settles O53: the memory is followed through the small moves that make up a command. -/
theorem memoryKept : Obligations.MemoryKept := by
  unfold Obligations.MemoryKept
  refine ⟨fun c s t h => ?_, fun c s t h hr => ⟨?_, fun a hwf ha hp hw => ?_⟩⟩
  · exact ⟨(exec_moves c h).keeps (P := fun u => Memory.wf u.memory = true) fun _ _ hm => hm.memory_wf,
      (exec_moves c h).keeps (P := fun u => u.pending = s.pending) (fun _ _ hm hu => hm.pending_eq.trans hu) rfl,
      (exec_ran h).agenda⟩
  · exact (exec_moves c h).keeps (fun _ _ hm => hm.rewritesLawful) hr
  · have kept := (exec_moves c h).keeps
      (P := fun u => Memory.wf u.memory = true ∧ RewritesLawful u ∧ u.mem a = s.mem a)
      (fun _ _ hm ⟨hwf', hr', ha'⟩ =>
        ⟨hm.memory_wf hwf', hm.rewritesLawful hr', (hm.read_hostWritten hwf' hr' ha hp hw).trans ha'⟩)
      ⟨hwf, hr, rfl⟩
    exact kept.2.2

end Sys2Proof.Machine
end

section
/-!
The marks of R4: every step of the part's work marks what it changes, and a mark stands (O58).
-/

namespace Sys2Proof.Machine

variable {c : Instr} {s t u : State}

/-! ### Marks (R4) -/

/-- What R4 and assumption 11 count as a change of a master. -/
theorem masterChanged_iff (s t : State) (m : MirrorId) : masterChanged s t m = true ↔
    mirrorImage s m ≠ mirrorImage t m ∨ (∃ n, m = .station n ∧ (s.station n).lastValid ≠ (t.station n).lastValid)
      ∨ m = .farm ∧ s.round.assigned ≠ t.round.assigned := by
  cases m <;> simp [masterChanged, masterBeyond]

theorem masterChanged_self (s : State) (m : MirrorId) : masterChanged s s m = false := by
  simp [masterChanged]

theorem masterChanged_trans {m : MirrorId} (h : masterChanged s t m = true) :
    masterChanged s u m = true ∨ masterChanged u t m = true := by
  by_contra hn
  simp only [masterChanged, Bool.or_eq_true, bne_iff_ne, ne_eq, not_or, not_not] at h hn
  obtain ⟨⟨hi, hb⟩, hi', hb'⟩ := hn
  exact h.elim (fun h => h (hi.trans hi')) fun h => h (hb.trans hb')

/-- Marks and the agenda are no part of a master. -/
theorem masterChanged_frame (s t : State) (ms : Mirrors) (js : List Job) (m : MirrorId) :
    masterChanged s { t with mirrors := ms, agenda := js } m = masterChanged s t m := by
  cases m <;> rfl

theorem mirrorOf_commit (s t : State) (m : MirrorId) :
    mirrorOf (commit s t) m = (mirrorOf t m).marked (masterChanged s t m) := by
  cases m <;> simp [mirrorOf, markedMirrors]

theorem Mirror.marked_pending (x : Mirror) (b : Bool) :
    (x.marked b).pending = true ↔ x.pending = true ∨ b = true := by
  simp [Mirror.marked]

/-- A mark stands through every small move but the start of a rewrite of its mirror. -/
theorem Small.mark_stands (h : Small c s t) {m : MirrorId} (hc : c ≠ .mirrorRewriteStart m)
    (hs : (mirrorOf s m).pending = true) : (mirrorOf t m).pending = true := by
  cases h.mirror m with
  | stands h => exact h.pending hs
  | reset _ h => rw [h]; rfl
  | begins h => exact absurd h hc
  | ends _ h => rw [h]; exact hs

theorem Small.count_stands (h : Small c s t) {m : MirrorId} (hr : ¬c.mayReset) (hb : c ≠ .mirrorRewriteStart m)
    (he : c ≠ .mirrorRewriteEnd m) : (mirrorOf t m).count = (mirrorOf s m).count := by
  cases h.mirror m with
  | stands h => exact h.count
  | reset h => exact absurd h hr
  | begins h => exact absurd h hb
  | ends h => exact absurd h he

/-- Every mirror whose master differs from what it was in `s` is marked in `t`. -/
def MarkedSince (s t : State) : Prop := ∀ m, masterChanged s t m = true → (mirrorOf t m).pending = true

theorem MarkedSince.refl (s : State) : MarkedSince s s := fun m h => by rw [masterChanged_self] at h; cases h

theorem MarkedSince.agenda (h : MarkedSince s t) (js : List Job) : MarkedSince s { t with agenda := js } := h

theorem commit_markedSince (s t : State) : MarkedSince s (commit s t) := fun m h => by
  rw [mirrorOf_commit, Mirror.marked_pending]
  exact .inr ((masterChanged_frame s t _ t.agenda m).symm.trans h)

/-- A step of the part's work that lets marks stand, with the marks of what it changes. -/
theorem MarkedSince.step (h : MarkedSince s u) (hp : ∀ m, (mirrorOf u m).pending = true → (mirrorOf t m).pending = true) :
    MarkedSince s (commit u t) := fun m hc => by
  rcases masterChanged_trans (u := u) hc with hsu | hut
  · rw [mirrorOf_commit, Mirror.marked_pending]
    exact .inl (hp m (h m hsu))
  · exact commit_markedSince u t m hut

/-- A notice between the blocks lets every mark stand. -/
theorem handle_mark_stands (j : Job) {m : MirrorId} (h : (mirrorOf s m).pending = true) :
    (mirrorOf (handle j { s with agenda := [] }) m).pending = true :=
  (handle_moves j ((Moves.refl s).agenda [])).keeps
    (P := fun u => (mirrorOf u m).pending = true) (fun _ _ hm => hm.mark_stands (c := .turnStart) nofun) h

theorem drainLoop_markedSince (n : Nat) (h : MarkedSince s t) : MarkedSince s (drainLoop n t) := by
  induction n generalizing t with
  | zero => exact h
  | succ n ih =>
    cases ha : t.agenda with
    | nil => rw [drainLoop_nil _ ha]; exact h
    | cons j rest =>
      rw [drainLoop_cons n ha]
      exact ih ((h.step fun _ => handle_mark_stands j).agenda _)

theorem perform_markedSince (f : State → State) (s : State) : MarkedSince s (perform f s) :=
  (drainLoop_markedSince Config.cascadeFuel (commit_markedSince s _)).agenda []

theorem markedSince_afterReset (h : t.mirrors = Mirrors.afterReset) : MarkedSince s t := fun m _ => by
  rw [mirrorOf_afterReset h]; rfl

/-- A host write of a memory word changes no master. -/
theorem masterChanged_writeMemory (a : Nat) (v : Word) (s : State) (m : MirrorId) :
    masterChanged s (writeMemory a v s) m = false := by
  rw [writeMemory_frame]
  refine Eq.trans ?_ (masterChanged_self s m)
  cases m <;> rfl

theorem Ran.markedSince (h : Ran c s t) : MarkedSince s t := by
  cases h with
  | stood => exact .refl s
  | performed f => exact perform_markedSince f s
  | powered => exact markedSince_afterReset rfl
  | asserted =>
    rcases assertPin_eq s with h | h <;> rw [h]
    exacts [.refl s, markedSince_afterReset rfl]
  | released =>
    rcases releasePin_eq s with h | h <;> rw [h]
    exacts [.refl s, markedSince_afterReset rfl]
  | stored a v =>
    intro m hm
    rw [masterChanged_writeMemory] at hm
    cases hm

/-- Settles O58: each step of a command marks what it changes, and marks and counts are followed through the small
moves. -/
theorem marksKept : Obligations.MarksKept := by
  unfold Obligations.MarksKept
  intro c s t m h
  refine ⟨fun hch => (exec_ran h).markedSince m ((masterChanged_iff s t m).2 hch), fun hp => ?_, fun hr hb he => ?_⟩
  · by_cases hc : c = .mirrorRewriteStart m
    · exact .inr hc
    · exact .inl ((exec_moves c h).keeps (P := fun u => (mirrorOf u m).pending = true)
        (fun _ _ hm => hm.mark_stands hc) hp)
  · exact (exec_moves c h).keeps (P := fun u => (mirrorOf u m).count = (mirrorOf s m).count)
      (fun _ _ hm hu => (hm.count_stands hr hb he).trans hu) rfl

end Sys2Proof.Machine
end

section
/-!
The mode and the notices: how a command changes the mode, and which commands clear a notice (O57).
-/

namespace Sys2Proof.Machine

variable {c : Instr} {s t u : State}

/-! ### The commands that write CONTROL -/

theorem registerAt_none {a : Nat} (h : Config.addressSpace ≤ a) : registerAt a = none := by
  have hspace : Config.addressSpace = Config.registerBase + 8 := by decide
  unfold registerAt
  split <;> first | rfl | omega

theorem registerAt_lt {a : Nat} {reg : Register} (h : registerAt a = some reg) : a < Config.addressSpace :=
  Nat.lt_of_not_le fun hn => by rw [registerAt_none hn] at h; cases h

theorem exec_hostMemoryWrite_register {a : Nat} {reg : Register} (h : registerAt a = some reg) (v : Word) (s : State) :
    exec (.hostMemoryWrite a v) s = act (writeRegister reg v) s := by
  simp only [exec, execHostMemoryWrite, h, if_neg (Nat.not_le.2 (registerAt_lt h))]

theorem writeRegister_control (v : Word) : writeRegister .control v
    = if v.getLsbD 1 then warmReset .soft else registerWrite (controlWrite (v.getLsbD 0) (v.getLsbD 2)) := by
  funext s
  simp only [writeRegister]
  split <;> rfl

theorem exec_softResets (h : c.softResets) (s : State) : exec c s = act (warmReset .soft) s := by
  cases c <;> simp only [Instr.softResets] at h
  case softReset => rfl
  case registerWriteOther reg v =>
    obtain ⟨rfl, hv⟩ := h
    simp only [exec, execRegisterWriteOther, writeRegister_control, if_pos hv]
  case hostMemoryWrite a v =>
    obtain ⟨ha, hv⟩ := h
    rw [exec_hostMemoryWrite_register ha, writeRegister_control, if_pos hv]

theorem exec_controlWrite (h : c.writes .control) (hs : ¬c.softResets) :
    ∃ request page, ∀ s, exec c s = act (registerWrite (controlWrite request page)) s := by
  cases c <;> simp only [Instr.writes, reduceCtorEq] at h
  case softReset => exact absurd trivial hs
  case runRequest p => exact ⟨true, p, fun _ => rfl⟩
  case setupRequest p => exact ⟨false, p, fun _ => rfl⟩
  case statusPageSelect r p => exact ⟨r, p, fun _ => rfl⟩
  case registerWriteOther reg v =>
    subst h
    have hv : ¬v.getLsbD 1 = true := fun hv => hs ⟨rfl, hv⟩
    refine ⟨v.getLsbD 0, v.getLsbD 2, fun s => ?_⟩
    simp only [exec, execRegisterWriteOther, writeRegister_control, if_neg hv]
  case hostMemoryWrite a v =>
    have hv : ¬v.getLsbD 1 = true := fun hv => hs ⟨h, hv⟩
    refine ⟨v.getLsbD 0, v.getLsbD 2, fun s => ?_⟩
    rw [exec_hostMemoryWrite_register h, writeRegister_control, if_neg hv]

/-! ### The mode -/

/-- What a small move does to the mode. -/
theorem Small.mode_cases (h : Small c s t) : t.modes.mode = s.modes.mode ∨ c.mayReset ∧ t.modes.mode = .setup
    ∨ c.ModeMove s.modes.mode t.modes.mode := by
  cases h with
  | modes f h => exact .inl (h _)
  | mode f h => exact .inr (.inr h)
  | powerOn hc => exact .inr (.inl ⟨.inl hc, rfl⟩)
  | pinAssert hc =>
    rcases assertPin_eq s with h | h <;> rw [h]
    exacts [.inl rfl, .inr (.inl ⟨.inr (.inl hc), rfl⟩)]
  | pinRelease hc =>
    rcases releasePin_eq s with h | h <;> rw [h]
    exacts [.inl rfl, .inr (.inl ⟨.inr (.inr (.inl hc)), rfl⟩)]
  | soft hc => exact .inr (.inl ⟨.inr (.inr (.inr hc)), rfl⟩)
  | rewriteEnd m => rw [endRewrite_frame]; exact .inl rfl
  | closeStation n => rw [closeStation_frame]; exact .inl rfl
  | release x r => rw [freeRecord_frame]; exact .inl rfl
  | _ => exact .inl rfl

theorem not_mayReset_turnStart : ¬Instr.turnStart.mayReset := by simp [Instr.mayReset, Instr.softResets]

theorem not_modeMove (hw : ¬c.writes .control) (hr : c ≠ .runEntryChecks) (hf : c ≠ .frameSent)
    (he : c ≠ .setupAtFrameEnd) (x y : Mode) : ¬c.ModeMove x y := by
  rintro (h | h | h | (h | h | h))
  exacts [hw h, hr h, hr h, hw h, hf h, he h]

/-- What the part does of its own accord in the course of a command leaves the mode alone. -/
theorem Moves.internal_mode (h : Moves .turnStart s t) : t.modes.mode = s.modes.mode :=
  h.keeps (P := fun u => u.modes.mode = s.modes.mode)
    (fun _ _ hm hu => by
      rcases hm.mode_cases with h | ⟨h, -⟩ | h
      · exact h.trans hu
      · exact absurd h not_mayReset_turnStart
      · exact absurd h (not_modeMove (c := .turnStart) id nofun nofun nofun _ _))
    rfl

theorem perform_mode (f : State → State) (s : State) :
    (perform f s).modes.mode = (f { s with agenda := [] }).modes.mode :=
  (drain_moves (.refl (commit s (f { s with agenda := [] })))).internal_mode

theorem afterWrite_mode (s : State) : (afterWrite s).modes.mode = s.modes.mode :=
  (drain_moves (restartSilence_moves ((Moves.refl s).agenda []))).internal_mode

theorem leaveRun_mode (s : State) : (leaveRun s).modes.mode = .setup := rfl

theorem requestSetup_mode (s : State) :
    (requestSetup s).modes.mode = s.modes.mode ∨ (requestSetup s).modes.mode = .setup := by
  unfold requestSetup
  split
  · exact .inl rfl
  · split
    · exact .inl rfl
    · split
      · exact .inl rfl
      · exact .inr (leaveRun_mode s)

theorem controlWrite_mode (request page : Bool) (s : State) :
    (controlWrite request page s).modes.mode = s.modes.mode
      ∨ s.modes.mode = .setup ∧ (controlWrite request page s).modes.mode = .checking
      ∨ s.modes.mode = .run ∧ (controlWrite request page s).modes.mode = .setup := by
  unfold controlWrite
  dsimp only
  split
  · rename_i hm
    exact .inr (.inl ⟨hm, rfl⟩)
  · rename_i hm
    exact (requestSetup_mode _).imp id fun h => .inr ⟨hm, h⟩
  all_goals exact .inl rfl

theorem startRunning_mode (s : State) : (startRunning s).modes.mode = .run := rfl

theorem enterRun_mode (p : Plant) (s : State) : (enterRun p s).modes.mode = .run := by
  unfold enterRun
  rw [Moves.internal_mode (shelterIdle_moves (noteStorm_moves _ (setFlags_moves (expirePassed_moves
    (markPool_moves (.refl _)))))), startRunning_mode]

theorem finishChecking_mode (s : State) :
    (finishChecking s).modes.mode = .setup ∨ (finishChecking s).modes.mode = .run := by
  unfold finishChecking
  dsimp only
  split
  · exact .inl rfl
  · exact .inr (enterRun_mode _ _)

theorem dropKey_mode (s : State) : (dropKey s).modes.mode = s.modes.mode
    ∨ s.modes.mode = .run ∧ (dropKey s).modes.mode = .setup := by
  unfold dropKey
  split
  · exact .inl rfl
  · split
    · rename_i h
      exact .inr ⟨h.1, leaveRun_mode s⟩
    · exact .inl rfl

theorem act_cases {f : State → State} (h : act f s = .next t) : t = s ∨ t = perform f s := by
  unfold act at h
  injection h with h
  subst h
  split
  · exact .inl rfl
  · exact .inr rfl

theorem actWhen_cases {due : State → Bool} {f : State → State} (h : actWhen due f s = .next t) :
    t = s ∨ due s = true ∧ t = perform f s := by
  unfold actWhen at h
  injection h with h
  subst h
  cases hd : due s <;> cases hr : s.resetHeld <;> simp

/-- R20, R31 to R35, R77: how a command changes the mode. -/
theorem exec_mode (h : exec c s = .next t) : t.modes.mode = s.modes.mode ∨ c.mayReset ∧ t.modes.mode = .setup
    ∨ c.ModeMove s.modes.mode t.modes.mode := by
  by_cases hsoft : c.softResets
  · rw [exec_softResets hsoft] at h
    rcases act_cases h with rfl | rfl
    · exact .inl rfl
    · exact .inr (.inl ⟨.inr (.inr (.inr hsoft)), perform_mode _ _⟩)
  by_cases hw : c.writes .control
  · obtain ⟨request, page, he⟩ := exec_controlWrite hw hsoft
    rw [he] at h
    rcases act_cases h with rfl | rfl
    · exact .inl rfl
    · rw [perform_mode, registerWrite_eq]
      rcases controlWrite_mode request page (afterWrite s) with hm | ⟨hm, hm'⟩ | ⟨hm, hm'⟩
        <;> rw [afterWrite_mode] at hm
      · exact .inl hm
      · rw [hm, hm']; exact .inr (.inr (.check hw))
      · rw [hm, hm']; exact .inr (.inr (.leave (.inl hw)))
  by_cases hr : c = .runEntryChecks
  · subst hr
    simp only [exec] at h
    rcases actWhen_cases h with rfl | ⟨hd, rfl⟩
    · exact .inl rfl
    · have hm : s.modes.mode = .checking := by simpa using hd
      rw [perform_mode, hm]
      rcases finishChecking_mode { s with agenda := [] } with hm' | hm' <;> rw [hm']
      exacts [.inr (.inr (.refuse rfl)), .inr (.inr (.enter rfl))]
  by_cases hf : c = .frameSent
  · subst hf
    simp only [exec] at h
    rcases actWhen_cases h with rfl | ⟨-, rfl⟩
    · exact .inl rfl
    · rw [perform_mode]
      rcases dropKey_mode { s with agenda := [] } with hm | ⟨hm, hm'⟩
      · exact .inl hm
      · rw [hm', show s.modes.mode = .run from hm]; exact .inr (.inr (.leave (.inr (.inl rfl))))
  by_cases he : c = .setupAtFrameEnd
  · subst he
    simp only [exec] at h
    rcases actWhen_cases h with rfl | ⟨hd, rfl⟩
    · exact .inl rfl
    · have hm : s.modes.mode = .run := by simp_all
      rw [perform_mode, leaveRun_mode, hm]
      exact .inr (.inr (.leave (.inr (.inr rfl))))
  · have kept := (exec_moves c h).keeps
      (P := fun u => u.modes.mode = s.modes.mode ∨ c.mayReset ∧ u.modes.mode = .setup)
      (fun _ _ hm hu => by
        rcases hm.mode_cases with h | h | h
        · rw [h]; exact hu
        · exact .inr h
        · exact absurd h (not_modeMove hw hr hf he _ _))
      (.inl rfl)
    exact kept.imp id .inl

/-! ### Notices -/

/-- R16: a small move of a command that neither resets nor writes NOTICE clears no notice. -/
theorem Small.notice_stands (h : Small c s t) (hr : ¬c.mayReset) (hn : ¬c.writes .notice) {i : Nat}
    (hs : s.board.notice.getLsbD i = true) : t.board.notice.getLsbD i = true := by
  cases h with
  | notice n => simp [hs]
  | clearNotices _ h => exact absurd h hn
  | answer n cls d ws => rw [answer_board]; simp [hs]
  | powerOn hc => exact absurd (.inl hc) hr
  | pinAssert hc => exact absurd (.inr (.inl hc)) hr
  | pinRelease hc => exact absurd (.inr (.inr (.inl hc))) hr
  | soft hc => exact absurd (.inr (.inr (.inr hc))) hr
  | rewriteEnd m => rw [endRewrite_frame]; exact hs
  | closeStation n => rw [closeStation_frame]; exact hs
  | release x r => rw [freeRecord_frame]; exact hs
  | _ => exact hs

/-- R17: a small move of a command that neither resets nor writes NOTICE ENABLE leaves that register alone. -/
theorem Small.enable_stands (h : Small c s t) (hr : ¬c.mayReset) (hn : ¬c.writes .noticeEnable) :
    t.board.enable = s.board.enable := by
  cases h with
  | enable _ h => exact absurd h hn
  | answer n cls d ws => rw [answer_board]
  | powerOn hc => exact absurd (.inl hc) hr
  | pinAssert hc => exact absurd (.inr (.inl hc)) hr
  | pinRelease hc => exact absurd (.inr (.inr (.inl hc))) hr
  | soft hc => exact absurd (.inr (.inr (.inr hc))) hr
  | rewriteEnd m => rw [endRewrite_frame]
  | closeStation n => rw [closeStation_frame]
  | release x r => rw [freeRecord_frame]
  | _ => rfl

/-- Settles O57: the mode command by command, the notices through the small moves. -/
theorem modesAndNoticesKept : Obligations.ModesAndNoticesKept := by
  unfold Obligations.ModesAndNoticesKept
  intro c s t h
  exact ⟨exec_mode h, fun hr hn i hi => (exec_moves c h).keeps
    (P := fun u => u.board.notice.getLsbD i = true) (fun _ _ hm hu => hm.notice_stands hr hn hu) hi⟩

end Sys2Proof.Machine
end

section
/-!
The order board, the ratios, the link counters, the list, the queues and the alert counts under the small moves (O54).
-/

namespace Sys2Proof.Machine

variable {c : Instr} {s t u : State}

/-! ### The order board (R6, R8, R14) -/

theorem BoardLawful.congr {b d : Board} (h : BoardLawful b) (hs : d.slots = b.slots) (hi : d.intake = b.intake) :
    BoardLawful d :=
  ⟨hi ▸ h.once, fun n hn => hs ▸ h.held n (hi ▸ hn), fun n hn => hi ▸ hs ▸ h.requests n (hs ▸ hn)⟩

theorem BoardLawful.afterReset (cause : ResetCause) : BoardLawful (Board.afterReset cause) :=
  ⟨List.nodup_nil, nofun, fun n h => by simp [Board.afterReset, Slot.empty] at h⟩

/-- R8: the slot at the head of the queue is taken. -/
theorem BoardLawful.take {b : Board} (h : BoardLawful b) {n : SlotIx} {rest : List SlotIx} (hi : b.intake = n :: rest)
    (ws : List Word) : BoardLawful { b with intake := rest, orderRegister := ws } := by
  have hsub : ∀ m ∈ rest, m ∈ b.intake := fun m hm => hi ▸ List.mem_cons_of_mem n hm
  refine ⟨(List.nodup_cons.1 (hi ▸ h.once)).2, fun m hm => h.held m (hsub m hm), fun m hm => ?_⟩
  obtain ⟨hheld, hout⟩ := h.requests m hm
  exact ⟨hheld, fun hin => hout (hsub m hin)⟩

/-- One slot's tag or abort request changes, a request only at a HELD slot outside the queue. -/
theorem BoardLawful.slot {b : Board} (h : BoardLawful b) (n : SlotIx) (x : Slot)
    (hx : x.state = (tget b.slots n).state)
    (hr : x.abortRequested = true → (tget b.slots n).state = .held ∧ n ∉ b.intake) :
    BoardLawful { b with slots := tset b.slots n x } := by
  have hstate : ∀ m, (tget (tset b.slots n x) m).state = (tget b.slots m).state := fun m => by
    rw [tget_tset]; split
    · rename_i e; rw [e, hx]
    · rfl
  refine ⟨h.once, fun m hm => (hstate m).trans (h.held m hm), fun m hm => ?_⟩
  dsimp only at hm ⊢
  rw [hstate]
  rw [tget_tset] at hm
  split at hm
  · rename_i e; exact e ▸ hr hm
  · exact h.requests m hm

/-- R7: a FREE slot is posted. -/
theorem BoardLawful.post {b : Board} (h : BoardLawful b) {n : SlotIx} (hf : (tget b.slots n).state = .free) :
    BoardLawful
      { b with slots := tset b.slots n { tget b.slots n with state := .held }, intake := b.intake ++ [n] } := by
  have hout : n ∉ b.intake := fun hn => by rw [h.held n hn] at hf; cases hf
  refine ⟨?_, fun m hm => ?_, fun m hm => ?_⟩
  · exact List.nodup_append.2 ⟨h.once, List.nodup_singleton n, fun x hx y hy => by
      rw [List.mem_singleton.1 hy]; rintro rfl; exact hout hx⟩
  · dsimp only
    rw [tget_tset]
    split
    · rfl
    · rename_i e
      exact h.held m ((List.mem_append.1 hm).resolve_right fun hm' => e (List.mem_singleton.1 hm'))
  · dsimp only at hm ⊢
    rw [tget_tset] at hm ⊢
    split at hm
    · have := (h.requests n hm).1
      rw [hf] at this
      cases this
    · rename_i e
      rw [if_neg e]
      obtain ⟨hheld, hm'⟩ := h.requests m hm
      exact ⟨hheld, fun hin => (List.mem_append.1 hin).elim hm' fun hin => e (List.mem_singleton.1 hin)⟩

/-- R11, R13, R14: a slot leaves HELD, and the queue with it, and its request is cleared. -/
theorem BoardLawful.leave {b : Board} (h : BoardLawful b) (n : SlotIx) (x : Slot) (hx : x.abortRequested = false) :
    BoardLawful
      { b with slots := tset b.slots n x, intake := b.intake.filter fun m => decide (m ≠ n) } := by
  have hmem : ∀ m, m ∈ b.intake.filter (fun m => decide (m ≠ n)) ↔ m ∈ b.intake ∧ m ≠ n := fun _ => by simp
  refine ⟨h.once.filter _, fun m hm => ?_, fun m hm => ?_⟩
  · obtain ⟨hm, hne⟩ := (hmem m).1 hm
    dsimp only
    rw [tget_tset_ne _ hne]
    exact h.held m hm
  · dsimp only at hm ⊢
    rw [tget_tset] at hm
    split at hm
    · rw [hx] at hm; cases hm
    · rename_i hne
      rw [tget_tset_ne _ hne]
      obtain ⟨hheld, hout⟩ := h.requests m hm
      exact ⟨hheld, fun hin => hout ((hmem m).1 hin).1⟩

theorem filter_ne_of_not_mem {n : SlotIx} {xs : List SlotIx} (h : n ∉ xs) :
    xs.filter (fun m => decide (m ≠ n)) = xs :=
  List.filter_eq_self.2 fun _ hm => decide_eq_true fun e => h (e ▸ hm)

/-- R13: an ANSWERED slot is collected. -/
theorem BoardLawful.collect {b : Board} (h : BoardLawful b) {n : SlotIx} (ha : (tget b.slots n).state = .answered) :
    BoardLawful { b with slots := tset b.slots n { tget b.slots n with state := .free } } := by
  have hout : n ∉ b.intake := fun hn => by rw [h.held n hn] at ha; cases ha
  have hreq : (tget b.slots n).abortRequested = false := by
    cases hr : (tget b.slots n).abortRequested
    · rfl
    · have := (h.requests n hr).1
      rw [ha] at this
      cases this
  exact (h.leave n { tget b.slots n with state := .free } hreq).congr rfl (filter_ne_of_not_mem hout).symm

theorem Small.boardLawful (h : Small c s t) (hs : BoardLawful s.board) : BoardLawful t.board := by
  cases h with
  | take n rest ws h => exact hs.take h ws
  | tag n w => exact hs.slot n _ rfl fun h => hs.requests n h
  | abortRequest n h hq => exact hs.slot n _ rfl fun _ => ⟨h, hq⟩
  | post n h => exact hs.post h
  | collect n h => exact hs.collect h
  | answer n cls d ws => rw [answer_board]; exact (hs.leave n _ rfl).congr rfl rfl
  | silence | control | enable | notice | clearNotices => exact hs.congr rfl rfl
  | powerOn => exact .afterReset _
  | pinAssert => rcases assertPin_eq s with h | h <;> rw [h]; exacts [hs, .afterReset _]
  | pinRelease => rcases releasePin_eq s with h | h <;> rw [h]; exacts [hs, .afterReset _]
  | soft => exact .afterReset _
  | rewriteEnd m => rw [endRewrite_frame]; exact hs
  | closeStation n => rw [closeStation_frame]; exact hs
  | release x r => rw [freeRecord_frame]; exact hs
  | _ => exact hs

/-! ### Ratios (R97, R101) -/

theorem filterStep_le {k d : Nat} (hk : 0 < k) : filterStep k d ≤ d := by
  obtain ⟨j, rfl⟩ := Nat.exists_eq_succ_of_ne_zero hk.ne'
  unfold filterStep
  rw [Nat.succ_sub_one, Nat.pow_succ]
  have hp : 0 < 2 ^ j := Nat.two_pow_pos j
  rcases Nat.eq_zero_or_pos d with rfl | hd
  · rw [Nat.zero_add, Nat.div_eq_of_lt (by omega)]
  · apply Nat.div_le_of_le_mul
    have h1 : d ≤ 2 ^ j * d := Nat.le_mul_of_pos_left d hp
    have h2 : 2 ^ j ≤ 2 ^ j * d := Nat.le_mul_of_pos_right _ hd
    calc d + 2 ^ j ≤ 2 ^ j * d + 2 ^ j * d := Nat.add_le_add h1 h2
      _ = 2 ^ j * 2 * d := by ring

/-- R99: the filter stays between the old ratio and the sample. -/
theorem filtered_le {k srf sr cap : Nat} (reseed : Bool) (h1 : srf ≤ cap) (h2 : sr ≤ cap) :
    filtered k reseed srf sr ≤ cap := by
  unfold filtered
  split
  · exact h2
  · rename_i hk
    have hstep := filterStep_le (k := k) (d := sr - srf) (by simp at hk; omega)
    split <;> omega

/-- R97: the two ratios of a station are at most 1.0. -/
def StationBounded (x : Station) : Prop := x.srf ≤ 32768 ∧ x.ts ≤ 32768

theorem RatiosBounded.congr (h : RatiosBounded s) (hr : ∀ r, (tget t.rows r).tr = (tget s.rows r).tr)
    (hs : t.stations = s.stations) : RatiosBounded t :=
  ⟨fun r => (hr r).symm ▸ h.1 r, hs ▸ h.2⟩

/-- One station changes, its ratios in range. -/
theorem RatiosBounded.station (h : RatiosBounded s) (n : StationIx) (f : Station → Station)
    (hf : StationBounded (tget s.stations n) → StationBounded (f (tget s.stations n))) :
    RatiosBounded (modStation n f s) := by
  refine ⟨h.1, fun m => ?_⟩
  rw [modStation_stations, tget_tset]
  split
  · exact hf (h.2 n)
  · exact h.2 m

theorem RatiosBounded.row (h : RatiosBounded s) (r : RowId) (f : Row → Row) (hf : (f (tget s.rows r)).tr ≤ 32768) :
    RatiosBounded (modRow r f s) := by
  refine ⟨fun q => ?_, h.2⟩
  rw [modRow_rows, tget_tset]
  split
  · exact hf
  · exact h.1 q

theorem RatiosBounded.warmReset (h : RatiosBounded s) (cause : ResetCause) : RatiosBounded (warmReset cause s) := by
  refine ⟨fun r => ?_, fun n => ?_⟩
  · simpa [Machine.warmReset, Row.keptByReset] using h.1 r
  · simpa [Machine.warmReset, Station.keptByReset] using h.2 n

theorem ratiosBounded_reset : RatiosBounded State.reset :=
  ⟨fun r => by simp [State.reset, Row.powerOn], fun n => by simp [State.reset, Station.powerOn]⟩

theorem Station.atRunEntry_bounded {x : Station} (used : Bool) (h : StationBounded x) :
    StationBounded (x.atRunEntry used) := by
  unfold Station.atRunEntry
  split
  · split <;> exact h
  · exact h

theorem Small.ratiosBounded (h : Small c s t) (hs : RatiosBounded s) : RatiosBounded t := by
  cases h with
  | row r f h => exact hs.row r f ((h _).1.le.trans (hs.1 r))
  | flags => exact hs.congr (fun r => by simp [setFlags]) rfl
  | transmission r tr h =>
    have h1 : RatiosBounded (modRow r (fun x => { x with tr := tr }) s) := hs.row r _ (h hs)
    exact h1.row r _ (h1.1 r)
  | station n f h => exact hs.station n f fun hb => ⟨(h _).1.le.trans hb.1, (h _).2.le.trans hb.2⟩
  | sample n sr h => exact hs.station n _ fun hb => ⟨filtered_le _ hb.1 h, hb.2⟩
  | closeStation n =>
    unfold Machine.closeStation
    split
    · refine hs.station n _ fun hb => ⟨hb.1, ?_⟩
      dsimp only
      split
      exacts [hb.1, hb.2]
    · exact hs
  | runEntry p =>
    refine ⟨fun r => ?_, fun n => ?_⟩
    · simpa [enterPlant, Row.atRunEntry] using hs.1 r
    · simp only [enterPlant, tget_tabulate]
      exact Station.atRunEntry_bounded _ (hs.2 n)
  | powerOn => exact ratiosBounded_reset
  | pinAssert => rcases assertPin_eq s with h | h <;> rw [h]; exacts [hs, hs.warmReset s.board.resetCause]
  | pinRelease => rcases releasePin_eq s with h | h <;> rw [h]; exacts [hs, hs.warmReset .pin]
  | soft => exact hs.warmReset _
  | rewriteEnd m => rw [endRewrite_frame]; exact hs
  | release x r => rw [freeRecord_frame]; exact hs
  | _ => exact hs

/-! ### FieldLink (R60, R63) -/

theorem EntryLawful.afterReset : EntryLawful LinkEntry.afterReset := ⟨Nat.zero_le _, Nat.zero_lt_succ _, Nat.zero_le _⟩

theorem LinkLawful.afterReset : LinkLawful LinkUnit.afterReset :=
  ⟨fun i => by simpa [LinkUnit.afterReset] using EntryLawful.afterReset, Nat.zero_le _,
   fun n => by simp [LinkUnit.afterReset]⟩

theorem LinkEntry.entered_lawful {e : LinkEntry} (registered withdrawn : Bool) (h : EntryLawful e) :
    EntryLawful (e.entered registered withdrawn) := by
  unfold LinkEntry.entered
  split
  · exact .afterReset
  · split
    · exact ⟨h.errorCount, Nat.zero_lt_succ _, h.noise⟩
    · exact ⟨Nat.zero_le _, Nat.zero_lt_succ _, h.noise⟩

theorem Small.linkLawful (h : Small c s t) (hs : LinkLawful s.link) : LinkLawful t.link := by
  cases h with
  | link f h => exact h hs
  | runEntry p =>
    refine ⟨fun i => ?_, Nat.zero_le _, fun n => ?_⟩
    · simp only [enterPlant, tget_tabulate]
      exact LinkEntry.entered_lawful _ _ (hs.entries i)
    · simp [enterPlant]
  | powerOn => exact .afterReset
  | pinAssert => rcases assertPin_eq s with h | h <;> rw [h]; exacts [hs, .afterReset]
  | pinRelease => rcases releasePin_eq s with h | h <;> rw [h]; exacts [hs, .afterReset]
  | soft => exact .afterReset
  | rewriteEnd m => rw [endRewrite_frame]; exact hs
  | closeStation n => rw [closeStation_frame]; exact hs
  | release x r => rw [freeRecord_frame]; exact hs
  | _ => exact hs

/-! ### The candidate list and the request queues (R123, R147) -/

theorem Small.listLawful (h : Small c s t) (hs : ListLawful s.round.candidates) :
    ListLawful t.round.candidates := by
  cases h with
  | round f h => exact h hs
  | powerOn => exact .nil
  | pinAssert => rcases assertPin_eq s with h | h <;> rw [h]; exacts [hs, .nil]
  | pinRelease => rcases releasePin_eq s with h | h <;> rw [h]; exacts [hs, .nil]
  | soft => exact .nil
  | rewriteEnd m => rw [endRewrite_frame]; exact hs
  | closeStation n => rw [closeStation_frame]; exact hs
  | release x r => rw [freeRecord_frame]; exact hs
  | _ => exact hs

theorem queuesLawful_of_empty (h : ∀ k, (tget s.shuttles k).queue = []) : QueuesLawful s := fun k => by
  rw [h k]; exact Nat.zero_le _

theorem Shuttle.atRunEntry_queue (x : Shuttle) (p : ShuttleConfig) : (x.atRunEntry p).queue = [] := by
  unfold Shuttle.atRunEntry
  split <;> rfl

theorem reset_queue (k : ShuttleIx) : (tget State.reset.shuttles k).queue = [] := by
  simp [State.reset, Shuttle.afterReset]

theorem Small.queuesLawful (h : Small c s t) (hs : QueuesLawful s) : QueuesLawful t := by
  cases h with
  | shuttle k f h =>
    intro j
    rw [modShuttle_shuttles, tget_tset]
    split
    · exact h (hs k)
    · exact hs j
  | runEntry p => exact queuesLawful_of_empty fun k => by simp [enterPlant, Shuttle.atRunEntry_queue]
  | leave => exact queuesLawful_of_empty fun k => by simp [Shuttle.atLeave]
  | powerOn => exact queuesLawful_of_empty reset_queue
  | pinAssert => rcases assertPin_eq s with h | h <;> rw [h]; exacts [hs, queuesLawful_of_empty reset_queue]
  | pinRelease => rcases releasePin_eq s with h | h <;> rw [h]; exacts [hs, queuesLawful_of_empty reset_queue]
  | soft => exact queuesLawful_of_empty reset_queue
  | rewriteEnd m => rw [endRewrite_frame]; exact hs
  | closeStation n => rw [closeStation_frame]; exact hs
  | release x r => rw [freeRecord_frame]; exact hs
  | _ => exact hs

/-! ### Alert records (R183) -/

theorem alertsLawful_reset : AlertsLawful State.reset := fun n => by
  rw [show State.reset.alerts = tfill 8 Alert.afterReset from rfl, tget_tfill]
  exact ⟨Nat.zero_le _, Nat.zero_le _, Nat.zero_le _⟩

theorem alertAtRunEntry_lawful (p : Params) (n : AlertIx) {a : Alert} (h : AlertLawful a) :
    AlertLawful (alertAtRunEntry p n a) := by
  unfold alertAtRunEntry
  dsimp only
  split <;> exact ⟨h.toSecure, h.secured, h.late⟩

theorem Alert.atLeave_lawful {a : Alert} (h : AlertLawful a) : AlertLawful a.atLeave := by
  refine ⟨h.toSecure, h.secured, ?_⟩
  have hlen : (allRobots.filter fun r => a.member r == .unsecured).length ≤ 48 :=
    (List.length_filter_le _ _).trans (by simp [allRobots])
  simp only [Alert.atLeave]
  split
  exacts [hlen, h.late]

theorem Small.alertsLawful (h : Small c s t) (hs : AlertsLawful s) : AlertsLawful t := by
  cases h with
  | alert n f h =>
    intro m
    rw [modAlert_alerts, tget_tset]
    split
    · exact h _ (hs n)
    · exact hs m
  | runEntry p =>
    intro n
    simp only [enterPlant, tget_tabulate]
    exact alertAtRunEntry_lawful _ n (hs n)
  | leave =>
    intro n
    dsimp only
    rw [tget_tabulate]
    exact Alert.atLeave_lawful (hs n)
  | powerOn => exact alertsLawful_reset
  | pinAssert => rcases assertPin_eq s with h | h <;> rw [h]; exacts [hs, alertsLawful_reset]
  | pinRelease => rcases releasePin_eq s with h | h <;> rw [h]; exacts [hs, alertsLawful_reset]
  | soft => exact alertsLawful_reset
  | rewriteEnd m => rw [endRewrite_frame]; exact hs
  | closeStation n => rw [closeStation_frame]; exact hs
  | release x r => rw [freeRecord_frame]; exact hs
  | _ => exact hs

/-- Settles O54: each bound is kept by every small move. -/
theorem boundsKept : Obligations.BoundsKept := by
  unfold Obligations.BoundsKept
  refine ⟨fun c s t h hs => ?_, fun c s t h => ⟨fun hs => ?_, fun hs => ?_⟩,
    fun c s t h => ⟨fun hs => ?_, fun hs => ?_⟩, fun c s t h hs => ?_⟩
  · exact (exec_moves c h).keeps (P := fun u => BoardLawful u.board) (fun _ _ hm => hm.boardLawful) hs
  · exact (exec_moves c h).keeps (fun _ _ hm => hm.ratiosBounded) hs
  · exact (exec_moves c h).keeps (P := fun u => LinkLawful u.link) (fun _ _ hm => hm.linkLawful) hs
  · exact (exec_moves c h).keeps (P := fun u => ListLawful u.round.candidates) (fun _ _ hm => hm.listLawful) hs
  · exact (exec_moves c h).keeps (fun _ _ hm => hm.queuesLawful) hs
  · exact (exec_moves c h).keeps (fun _ _ hm => hm.alertsLawful) hs

end Sys2Proof.Machine
end

section
/-!
The state after power-on is lawful (O60), the answers (O11) and the rewrites of the mirrors (O13).
-/

namespace Sys2Proof.Machine

variable {s t u : State}

/-! ### The state after power-on -/

/-- R170: from record `k` on, the free list of the re-formed pool runs through the records in order. -/
theorem freeChain_reformed (d k : Nat) (h : k + d = 96) :
    freeChain Pool.reformed.records (if h : k < 96 then some ⟨k, h⟩ else none) ((List.finRange 96).drop k) := by
  induction d generalizing k with
  | zero =>
    obtain rfl : k = 96 := h
    rw [List.drop_of_length_le (by simp)]
    exact dif_neg (by omega)
  | succ d ih =>
    have hk : k < 96 := by omega
    rw [List.drop_eq_getElem_cons (by simpa using hk), dif_pos hk, List.getElem_finRange]
    refine ⟨rfl, ?_⟩
    have hlink : (tget Pool.reformed.records ⟨k, hk⟩).link = if h : k + 1 < 96 then some ⟨k + 1, h⟩ else none := by
      simp [Pool.reformed, Context.reformed]
    exact hlink ▸ ih (k + 1) (by omega)

theorem poolLawful_reset : PoolLawful State.reset := by
  refine ⟨⟨List.finRange 96, List.nodup_finRange 96, freeChain_reformed 96 0 rfl, by simp [State.reset, Pool.reformed],
    fun x => ?_⟩, fun x r => ?_⟩
  · simp [State.reset, Pool.reformed, Context.reformed]
  · simp [State.reset, Pool.reformed, Context.reformed, Robot.afterReset]

theorem rewritesLawful_reset : RewritesLawful State.reset := fun m ws h => by
  rw [mirrorOf_afterReset rfl m] at h
  cases h

theorem requestRobots_eq_nil (h : ∀ k, (s.shuttle k).queue = [] ∧ (s.shuttle k).transfer = none) :
    requestRobots s = [] := by
  simp [requestRobots, h]

theorem reset_robot (r : RobotId) : State.reset.robot r = Robot.afterReset := tget_tfill _ _
theorem reset_row (r : RowId) : State.reset.row r = Row.powerOn := tget_tfill _ _
theorem reset_shuttle (k : ShuttleIx) : State.reset.shuttle k = Shuttle.afterReset := tget_tfill _ _

theorem placesLawful_reset : PlacesLawful State.reset where
  atRow r row := by simp [reset_robot, reset_row, Robot.afterReset, Row.powerOn]
  aboard r k := by simp [reset_robot, reset_shuttle, Robot.afterReset, Shuttle.afterReset]
  unreserved row h := by simp [reset_row, Row.powerOn] at h
  queued k q h := by simp [reset_shuttle, Shuttle.afterReset] at h
  serving k t h := by simp [reset_shuttle, Shuttle.afterReset] at h
  requested row r h := by simp [reset_row, Row.powerOn] at h
  once := by
    rw [requestRobots_eq_nil fun k => by simp [reset_shuttle, Shuttle.afterReset]]
    exact List.nodup_nil
  stages k t h := by simp [reset_shuttle, Shuttle.afterReset] at h
  stranded k t h := by simp [reset_shuttle, Shuttle.afterReset] at h
  loaded k r h := by simp [reset_shuttle, Shuttle.afterReset] at h
  carrying k t r h := by simp [reset_shuttle, Shuttle.afterReset] at h
  withdrawn r h := by simp [reset_robot, Robot.afterReset] at h

theorem workLawful_reset : WorkLawful State.reset where
  passes r p h := by simp [reset_robot, Robot.afterReset] at h
  contexts r c h := by simp [reset_robot, Robot.afterReset] at h
  queued k q h := by simp [reset_shuttle, Shuttle.afterReset] at h
  serving k t h := by simp [reset_shuttle, Shuttle.afterReset, Shuttle.inService] at h
  withdrawn r h := by simp [reset_robot, Robot.afterReset] at h
  idle _ := ⟨rfl, fun r => by simp [reset_robot, Robot.afterReset]⟩
  listed p h := nomatch h

/-- Settles O60, one property at a time. -/
theorem resetIsLawful : Obligations.ResetIsLawful :=
  ⟨rfl, .afterReset _, ratiosBounded_reset, .afterReset, .nil, queuesLawful_of_empty reset_queue, poolLawful_reset,
   rewritesLawful_reset, rfl, placesLawful_reset, workLawful_reset, alertsLawful_reset⟩

/-! ### Answers (R11) -/

theorem padResults_length (ws : List Word) : (padResults ws).length = 13 := by simp [padResults]

theorem padResults_getD (ws : List Word) {i : Nat} (h : i < 13) : (padResults ws).getD i 0 = ws.getD i 0 := by
  simp [padResults, h]

/-- R11: the words 16 to 31 of a slot after its answer, and every other word as before. -/
theorem answer_mem (n : SlotIx) (cls : AnswerClass) (d : Nat) (ws : List Word) (hwf : Memory.wf s.memory = true)
    (a : Nat) : (answer n cls d ws s).mem a
      = if slotBase n + 16 ≤ a ∧ a < slotBase n + 32 then
          (word cls.code :: word d :: (s.slot n).tag :: padResults ws).getD (a - (slotBase n + 16)) 0
        else s.mem a := by
  unfold State.mem
  rw [answer_memory, Memory.read_writeBlock hwf]
  simp only [List.length_cons, padResults_length]

theorem answer_mem_other (n : SlotIx) (cls : AnswerClass) (d : Nat) (ws : List Word) (hwf : Memory.wf s.memory = true)
    {a : Nat} (ha : a < slotBase n + 16 ∨ slotBase n + 32 ≤ a) : (answer n cls d ws s).mem a = s.mem a := by
  rw [answer_mem n cls d ws hwf, if_neg (by omega)]

/-- R11: word 16 + i of the answer. -/
theorem answer_mem_word (n : SlotIx) (cls : AnswerClass) (d : Nat) (ws : List Word) (hwf : Memory.wf s.memory = true)
    {i : Nat} (hi : i < 16) : (answer n cls d ws s).mem (slotBase n + 16 + i)
      = (word cls.code :: word d :: (s.slot n).tag :: padResults ws).getD i 0 := by
  rw [answer_mem n cls d ws hwf, if_pos (by omega), Nat.add_sub_cancel_left]

/-- R11: what an answer does to the board, in the terms of the statements. -/
theorem answer_eq (n : SlotIx) (cls : AnswerClass) (d : Nat) (ws : List Word) (s : State) :
    answer n cls d ws s
      = { s with
          memory := (answer n cls d ws s).memory
          board :=
            { s.board with
              slots := tset s.board.slots n { s.slot n with state := .answered, abortRequested := false }
              intake := s.board.intake.filter fun m => decide (m ≠ n)
              notice := s.board.notice ||| 1#13 } } := by
  conv_lhs => rw [answer_frame, answer_board]
  rfl

/-- Settles O11 by the frame of an answer and the block of words that it writes. -/
theorem answerWritten : Obligations.AnswerWritten := by
  unfold Obligations.AnswerWritten
  intro n cls d ws s hwf
  have hword {i : Nat} (hi : i < 16) := answer_mem_word n cls d ws hwf hi
  refine ⟨answer_eq n cls d ws s, hword (i := 0) (by decide), hword (i := 1) (by decide), hword (i := 2) (by decide),
    fun i hi => ?_, fun a ha => answer_mem_other n cls d ws hwf ha⟩
  have h := hword (i := i + 3) (by omega)
  rw [show slotBase n + 16 + (i + 3) = slotBase n + 19 + i by omega] at h
  exact h.trans (padResults_getD ws hi)

/-! ### The rewrites of a mirror (R3, R4) -/

theorem addressed_map_fst (a : Nat) (ws : List Word) : (addressed a ws).map Prod.fst = List.range' a ws.length := by
  induction ws generalizing a with
  | nil => rfl
  | cons w rest ih => simp [addressed, ih, List.range'_succ]

/-- R206: the words that a rewrite writes lie at distinct addresses. -/
theorem mirrorImage_nodup (s : State) (m : MirrorId) : ((mirrorImage s m).map Prod.fst).Nodup := by
  by_cases hm : m = .farm
  · subst hm
    show ((addressed (countAddress .farm + 1) (farmImage s)
      ++ addressed Config.candidateBase (candidateImage s)).map Prod.fst).Nodup
    rw [List.map_append, addressed_map_fst, addressed_map_fst]
    refine List.nodup_append.2 ⟨List.nodup_range', List.nodup_range', fun x hx y hy => ?_⟩
    rw [List.mem_range'_1] at hx hy
    have hlen : (farmImage s).length = 31 := rfl
    simp only [countAddress, Config.farmBase, hlen, Config.candidateBase] at hx hy
    omega
  · unfold mirrorImage
    rw [if_neg hm, List.append_nil, addressed_map_fst]
    exact List.nodup_range'

theorem mirrorImage_ne_countAddress {s : State} {m : MirrorId} {p : Nat × Word} (h : p ∈ mirrorImage s m) :
    p.1 ≠ countAddress m := by
  rcases mirrorImage_address h with ⟨hl, -⟩ | ⟨rfl, hl, -⟩
  · omega
  · simp only [countAddress, Config.farmBase]; omega

/-- Several writes at distinct addresses read back. -/
theorem Memory.read_writeAll_mem {mem : List (Nat × Word)} (h : Memory.wf mem = true) {ws : List (Nat × Word)}
    (hd : (ws.map Prod.fst).Nodup) {p : Nat × Word} (hp : p ∈ ws) :
    Memory.read (Memory.writeAll mem ws) p.1 = p.2 := by
  induction ws generalizing mem with
  | nil => cases hp
  | cons q rest ih =>
    obtain ⟨hq, hd'⟩ := List.nodup_cons.1 hd
    show Memory.read (Memory.writeAll (Memory.write mem q.1 q.2) rest) p.1 = p.2
    rcases List.mem_cons.1 hp with rfl | hp
    · rw [Memory.read_writeAll_ne (Memory.wf_write h _ _) rest fun r hr e => hq (List.mem_map.2 ⟨r, hr, e⟩),
        Memory.read_write h, if_pos rfl]
    · exact ih (Memory.wf_write h _ _) hd' hp

theorem Mirror.marked_false (x : Mirror) : x.marked false = x := by
  simp [Mirror.marked]

/-- A command that changes no master and raises no notice: its effect stands as it is, and no mirror is marked. -/
theorem mirrorOf_commit_unchanged {m : MirrorId} (h : masterChanged s t m = false) :
    mirrorOf (commit s t) m = mirrorOf t m := by
  rw [mirrorOf_commit, h, Mirror.marked_false]

theorem masterChanged_beginRewrite (m : MirrorId) (s : State) (m' : MirrorId) :
    masterChanged s (beginRewrite m { s with agenda := [] }) m' = false := by
  refine Eq.trans ?_ (masterChanged_self s m')
  cases m' <;> rfl

theorem masterChanged_endRewrite (m : MirrorId) (s : State) (m' : MirrorId) :
    masterChanged s (endRewrite m { s with agenda := [] }) m' = false := by
  rw [endRewrite_frame]
  refine Eq.trans ?_ (masterChanged_self s m')
  cases m' <;> rfl

theorem endRewrite_memory {m : MirrorId} {ws : List (Nat × Word)} (h : (mirrorOf s m).rewrite = some ws) :
    (endRewrite m s).memory
      = Memory.write (Memory.writeAll s.memory ws) (countAddress m) (word (nextCount (mirrorOf s m).count)) := by
  unfold endRewrite
  rw [h]

theorem exec_mirrorRewriteStart {m : MirrorId} (h : s.resetHeld = false) (hp : (mirrorOf s m).pending = true)
    (hr : (mirrorOf s m).rewrite = none) :
    exec (.mirrorRewriteStart m) s = .next (commit s (beginRewrite m { s with agenda := [] })) :=
  actWhen_quiet _ h (by simp [rewriteDue, hp, hr]) rfl

theorem exec_mirrorRewriteEnd {m : MirrorId} {ws : List (Nat × Word)} (h : s.resetHeld = false)
    (hr : (mirrorOf s m).rewrite = some ws) :
    exec (.mirrorRewriteEnd m) s = .next (commit s (endRewrite m { s with agenda := [] })) := by
  simp only [exec, execMirrorRewriteEnd]
  exact actWhen_quiet _ h (by simp [hr]) (by rw [endRewrite_frame])

theorem commit_frame (s t : State) : commit s t = { t with mirrors := (commit s t).mirrors } := rfl

/-- Settles O13: the marks of a step, the addresses of a record, and the two ends of a rewrite. -/
theorem mirrorRewrites : Obligations.MirrorRewrites := by
  unfold Obligations.MirrorRewrites
  refine ⟨fun s t m => ?_, fun s m => ?_, fun s m h hp hr hwf => ?_, fun s m ws h hr hwf hd hne => ?_⟩
  · refine ⟨?_, ?_, ?_, commit_frame s t⟩
    · rw [mirrorOf_commit]; rfl
    · rw [mirrorOf_commit]; rfl
    · rw [mirrorOf_commit, Mirror.marked_pending, masterChanged_iff]
  · exact ⟨mirrorImage_nodup s m, fun p hp => ⟨mirrorImage_ne_countAddress hp, hostWritten_mirrorImage hp,
      hostWritten_countAddress m⟩⟩
  · have hm (m') := (mirrorOf_commit_unchanged (masterChanged_beginRewrite m s m')).trans
      (mirrorOf_beginRewrite m m' { s with agenda := [] })
    refine ⟨_, exec_mirrorRewriteStart h hp hr, rfl, ?_, fun m' hne => ?_, fun a => Memory.read_write hwf _ _ a⟩
    · exact (hm m).trans (if_pos rfl)
    · exact (hm m').trans (if_neg hne)
  · have hr' : (mirrorOf { s with agenda := [] } m).rewrite = some ws := hr
    have hm (m') := (mirrorOf_commit_unchanged (masterChanged_endRewrite m s m')).trans (mirrorOf_endRewrite hr' m')
    have hmem : (commit s (endRewrite m { s with agenda := [] })).memory = _ := endRewrite_memory hr'
    have hread (a) := (congrArg (Memory.read · a) hmem).trans (Memory.read_write (Memory.wf_writeAll hwf ws) _ _ a)
    refine ⟨_, exec_mirrorRewriteEnd h hr, ?_, ?_, fun m' hne => ?_, ?_, fun p hp => ?_, fun a ha hout => ?_⟩
    · rw [commit_frame, endRewrite_frame]
    · rw [hm m, if_pos rfl]; rfl
    · exact (hm m').trans (if_neg hne)
    · exact (hread _).trans (if_pos rfl)
    · exact (hread _).trans ((if_neg (hne p hp)).trans (Memory.read_writeAll_mem hwf hd hp))
    · exact (hread _).trans ((if_neg ha).trans (Memory.read_writeAll_ne hwf ws hout))

end Sys2Proof.Machine
end

section
/-!
The masks that the board's registers read, and what the resets leave (O2).
-/

namespace Sys2Proof.Machine

variable {s t : State}

/-! ### The masks that POST, ABORT and ANSWERED read -/

theorem slotMask_fold (s : State) (p : Slot → Bool) (xs : List SlotIx) (acc : Word) (n : SlotIx) :
    (xs.foldl (fun acc n => if p (s.slot n) then acc ||| (1#16 <<< n.1) else acc) acc).getLsbD n.1
      = (acc.getLsbD n.1 || decide (n ∈ xs) && p (s.slot n)) := by
  induction xs generalizing acc with
  | nil => simp
  | cons x rest ih =>
    rw [List.foldl_cons, ih]
    have hbit : (1#16 <<< x.1).getLsbD n.1 = decide (n = x) := by
      rw [Bool.eq_iff_iff]
      simp [Fin.ext_iff]
      omega
    by_cases hx : n = x
    · subst hx
      cases hp : p (s.slot n)
      · simp
      · rw [if_pos rfl, BitVec.getLsbD_or, hbit]; simp
    · cases hp : p (s.slot x)
      · simp [hx]
      · rw [if_pos rfl, BitVec.getLsbD_or, hbit]; simp [hx]

/-- Bit n of a mask says whether slot n satisfies the condition. -/
theorem slotMask_getLsbD (s : State) (p : Slot → Bool) (n : SlotIx) : (slotMask s p).getLsbD n.1 = p (s.slot n) := by
  unfold slotMask
  rw [slotMask_fold]
  simp [allSlots]

theorem slotMask_eq_zero {p : Slot → Bool} (h : ∀ n, p (s.slot n) = false) : slotMask s p = 0 := by
  refine BitVec.eq_of_getLsbD_eq fun i hi => ?_
  rw [slotMask_getLsbD s p ⟨i, hi⟩, h]
  simp

/-! ### The state after a reset -/

theorem stormSummary_calm (h : ∀ n, (s.alert n).state = .free) : stormSummary s = .calm :=
  List.foldl_fixed' (fun n => by rw [h]; rfl) _

/-- R23: what a reset must leave for the board, the registers and the mirrors to be at their reset values. -/
theorem ResetBoard.of_fields {cause : ResetCause} (hb : t.board = Board.afterReset cause)
    (hm : t.modes = ModeUnit.afterReset) (hmir : ∀ m, mirrorOf t m = Mirror.afterReset) (hround : t.round = Round.afterReset)
    (ha : t.alerts = tfill 8 Alert.afterReset) (hc : ∀ m, t.mem (countAddress m) = 0) : ResetBoard t := by
  have hslot (n) : t.slot n = Slot.empty := by simp [State.slot, hb, Board.afterReset]
  have hcalm : stormSummary t = .calm := stormSummary_calm fun n => by simp [State.alert, ha, Alert.afterReset]
  have hzero : statusPage0 t = 0 := by
    simp [statusPage0, hcalm, hm, hround, hb, ModeUnit.afterReset, Round.afterReset, Board.afterReset, Mode.code,
      StormSummary.code, RoundState.code, RefusalCode.code, bitOf, word]
  have hone : statusPage1 t = 0 := by simp [statusPage1, hm, ModeUnit.afterReset, word]
  exact
    { slots := fun n => by rw [hslot]; exact ⟨rfl, rfl⟩
      intake := by rw [hb]; exact ⟨rfl, rfl⟩
      masks := ⟨slotMask_eq_zero fun n => by rw [hslot]; rfl, slotMask_eq_zero fun n => by rw [hslot]; rfl,
        slotMask_eq_zero fun n => by rw [hslot]; rfl⟩
      notices := by rw [interruptAsserted, hb]; exact ⟨rfl, rfl, by simp [Board.afterReset]⟩
      control := by rw [readControl, hb]; rfl
      status := ⟨hzero, hone, by unfold readStatus; split <;> assumption⟩
      mode := by rw [hm]; exact ⟨rfl, rfl, rfl, rfl⟩
      silence := by rw [hb]; exact ⟨rfl, rfl⟩
      mirrors := fun m => by rw [hmir]; exact ⟨rfl, rfl, hc m⟩ }

theorem readId_afterReset {cause : ResetCause} (hb : t.board = Board.afterReset cause) :
    readId t = word (0x148 + 4096 * cause.code) := by
  rw [readId, hb]; rfl

theorem mem_allMirrors (m : MirrorId) : m ∈ allMirrors := by
  cases m <;> simp [allMirrors, allAlerts, allStations, allShuttles, allRobots, allRows]

/-- Words all written with one value read it back. -/
theorem Memory.read_writeAll_const {mem : List (Nat × Word)} (h : Memory.wf mem = true) {ws : List (Nat × Word)}
    {v : Word} (hv : ∀ p ∈ ws, p.2 = v) {a : Nat} (ha : ∃ p ∈ ws, p.1 = a) :
    Memory.read (Memory.writeAll mem ws) a = v := by
  induction ws generalizing mem with
  | nil => simp at ha
  | cons q rest ih =>
    show Memory.read (Memory.writeAll (Memory.write mem q.1 q.2) rest) a = v
    have hwf := Memory.wf_write h q.1 q.2
    by_cases hr : ∃ p ∈ rest, p.1 = a
    · exact ih hwf (fun p hp => hv p (List.mem_cons_of_mem q hp)) hr
    · have hq : q.1 = a := by
        obtain ⟨p, hp, hpa⟩ := ha
        rcases List.mem_cons.1 hp with rfl | hp
        · exact hpa
        · exact absurd ⟨p, hp, hpa⟩ hr
      rw [Memory.read_writeAll_ne hwf rest fun p hp hpa => hr ⟨p, hp, hpa⟩, Memory.read_write h, if_pos hq.symm]
      exact hv q List.mem_cons_self

theorem read_zeroCounts_countAddress {mem : List (Nat × Word)} (h : Memory.wf mem = true) (m : MirrorId) :
    Memory.read (zeroCounts mem) (countAddress m) = 0 := by
  refine Memory.read_writeAll_const h (fun p hp => ?_) ⟨(countAddress m, 0), ?_, rfl⟩
  · obtain ⟨x, -, rfl⟩ := List.mem_map.1 hp
    rfl
  · exact List.mem_map.2 ⟨m, mem_allMirrors m, rfl⟩

theorem warmReset_mem (cause : ResetCause) (s : State) (a : Nat) :
    (warmReset cause s).mem a = Memory.read (zeroCounts s.memory) a := by
  rw [State.mem, warmReset_memory]

theorem resetBoard_powerOn (s : State) : ResetBoard (powerOn s) :=
  .of_fields rfl rfl (mirrorOf_afterReset rfl) rfl rfl fun _ => rfl

theorem resetBoard_warmReset (cause : ResetCause) (hwf : Memory.wf s.memory = true) : ResetBoard (warmReset cause s) :=
  .of_fields rfl rfl (mirrorOf_afterReset rfl) rfl rfl fun m =>
    (warmReset_mem cause s _).trans (read_zeroCounts_countAddress hwf m)

/-- R22, R23: what a pin and a soft reset do to ID and to the words other than the change counts. -/
theorem warmReset_keeps (cause : ResetCause) (hwf : Memory.wf s.memory = true) :
    readId (warmReset cause s) = word (0x148 + 4096 * cause.code)
      ∧ ∀ a, (∀ m, a ≠ countAddress m) → (warmReset cause s).mem a = s.mem a :=
  ⟨readId_afterReset rfl, fun a ha => (warmReset_mem cause s a).trans (read_zeroCounts hwf ha)⟩

/-- SOFT_RESET outside the assertion of the pin. -/
theorem exec_softReset (request page : Bool) (h : s.resetHeld = false) :
    exec (.softReset request page) s = .next (commit s (warmReset .soft { s with agenda := [] })) :=
  act_quiet _ h rfl

theorem exec_pinResetRelease (h : s.resetHeld = true) :
    exec .pinResetRelease s = .next { warmReset .pin s with resetHeld := false } :=
  congrArg Host.Outcome.next (releasePin_held h)

theorem exec_pinResetAssert (h : s.resetHeld = false) :
    exec .pinResetAssert s = .next { warmReset s.board.resetCause s with memory := s.memory, resetHeld := true } :=
  congrArg Host.Outcome.next (assertPin_free h)

/-- Every mirror is marked by a reset, so that the marks of the step add nothing. -/
theorem mirrorOf_commit_softReset (s : State) (m : MirrorId) :
    mirrorOf (commit s (warmReset .soft { s with agenda := [] })) m = Mirror.afterReset := by
  rw [mirrorOf_commit, mirrorOf_afterReset rfl]
  rfl

theorem commit_mem (s t : State) (a : Nat) : (commit s t).mem a = t.mem a := rfl

theorem resetHeld_mem (s : State) (b : Bool) (a : Nat) : ({ s with resetHeld := b } : State).mem a = s.mem a := rfl

theorem resetBoard_softReset (hwf : Memory.wf s.memory = true) :
    ResetBoard (commit s (warmReset .soft { s with agenda := [] })) :=
  .of_fields rfl rfl (mirrorOf_commit_softReset s) rfl rfl fun m => by
    rw [commit_mem, warmReset_mem]
    exact read_zeroCounts_countAddress hwf m

/-! ### While the reset pin is asserted (R23, R208) -/

theorem exec_held_write {c : Instr} {reg : Register} (h : s.resetHeld = true) (hw : c.writes reg) :
    exec c s = .next s := by
  cases c <;> simp only [Instr.writes] at hw
  case hostMemoryWrite a v => rw [exec_hostMemoryWrite_register hw]; exact act_held _ h
  all_goals exact act_held _ h

theorem registerAt_memory {a : Nat} (h : a < 0x7FF8) : registerAt a = none := by
  have hz : a - Config.registerBase = 0 := Nat.sub_eq_zero_of_le (Nat.le_of_lt h)
  unfold registerAt
  rw [hz]
  exact if_neg (Nat.ne_of_lt h)

/-- R2: a host write of a memory word, in reset as well. -/
theorem exec_hostMemoryWrite_memory {a : Nat} (h : a < 0x7FF8) (v : Word) (s : State) :
    exec (.hostMemoryWrite a v) s = .next (writeMemory a v s) := by
  have ha : ¬Config.addressSpace ≤ a := Nat.not_le.2 (Nat.lt_trans h (by decide))
  simp only [exec, execHostMemoryWrite, if_neg ha, registerAt_memory h]

theorem writeMemory_mem (a : Nat) (v : Word) (hwf : Memory.wf s.memory = true) (x : Nat) :
    (writeMemory a v s).mem x = if x = a then v else s.mem x := by
  rw [State.mem, writeMemory_frame]
  exact Memory.read_write hwf a v x

theorem writeMemory_resetHeld (a : Nat) (v : Word) (s : State) : (writeMemory a v s).resetHeld = s.resetHeld := by
  rw [writeMemory_frame]

theorem txd_held (h : s.resetHeld = true) (bit : Nat) : txd s bit = true := if_pos h

theorem blockClear_setup (h : s.modes.mode = .setup) (b : Nat) : blockClear s b = false := by
  simp [blockClear, h]

theorem wiperOutput_warmReset (cause : ResetCause) (s : State) (n : StationIx) :
    wiperOutput (warmReset cause s) n = false := by
  simp [wiperOutput, State.station, warmReset, Station.keptByReset, Station.powerOn]

/-- Settles O2, reset by reset, and then the asserted pin. -/
theorem resetsBoard : Obligations.ResetsBoard := by
  unfold Obligations.ResetsBoard
  refine ⟨⟨fun s => ⟨_, rfl, resetBoard_powerOn s, readId_afterReset (cause := .powerOn) rfl⟩, fun s h hwf => ?_,
    fun s request page h hwf => ?_⟩, fun s h => ?_, fun s h => ?_, fun s c reg h hw => exec_held_write h hw,
    fun s a v h ha hwf => ?_⟩
  · refine ⟨_, exec_pinResetRelease h, rfl, ?_, readId_afterReset (cause := .pin) rfl, fun a ha => ?_⟩
    · refine .of_fields rfl rfl (mirrorOf_afterReset rfl) rfl rfl fun m => ?_
      rw [resetHeld_mem, warmReset_mem]
      exact read_zeroCounts_countAddress hwf m
    · rw [resetHeld_mem]
      exact (warmReset_keeps .pin hwf).2 a ha
  · refine ⟨_, exec_softReset request page h, resetBoard_softReset hwf, readId_afterReset (cause := .soft) rfl,
      fun a ha => ?_⟩
    rw [commit_mem]
    exact (warmReset_keeps .soft hwf).2 a ha
  · have board : ResetBoard (warmReset s.board.resetCause { s with memory := [] }) := resetBoard_warmReset _ rfl
    exact ⟨_, exec_pinResetAssert h, rfl, rfl, rfl, txd_held rfl, board.slots, rfl, board.masks.1, board.masks.2.1,
      board.masks.2.2, rfl, rfl, board.control, board.status.1, board.status.2.1, board.notices.2.2, rfl,
      blockClear_setup rfl, wiperOutput_warmReset s.board.resetCause s⟩
  · exact congrArg Host.Outcome.next (assertPin_held h)
  · exact ⟨_, exec_hostMemoryWrite_memory ha v s, (writeMemory_resetHeld a v s).trans h, writeMemory_mem a v hwf⟩

end Sys2Proof.Machine
end

section
/-!
What the resets keep of the masters (O3), and the host silence monitor (O4).
-/

namespace Sys2Proof.Machine

variable {s t : State}

/-- Settles O3: power-on column by column, and the columns of the pin and soft resets. -/
theorem resetsMasters : Obligations.ResetsMasters := by
  unfold Obligations.ResetsMasters
  refine ⟨fun s => rfl, ?_, fun s t request page h => ?_⟩
  · refine ⟨reset_row, reset_robot, reset_shuttle, fun i => tget_tfill _ _, fun n => tget_tfill _ _,
      fun n => tget_tfill _ _, fun c => tget_tabulate _ _, rfl, rfl, rfl, rfl, rfl, rfl,
      ⟨rfl, fun n => tget_tfill _ _, rfl, rfl, rfl, rfl, rfl⟩, rfl, fun a => tget_tfill _ _, rfl, rfl⟩
  · rcases h with ⟨hheld, h⟩ | ⟨hheld, h⟩
    · rw [exec_pinResetRelease hheld] at h
      injection h with h
      subst h
      simp only [warmReset]
      rfl
    · rw [exec_softReset request page hheld] at h
      injection h with h
      subst h
      rw [commit_frame]
      simp only [warmReset]
      rw [hheld]
      rfl

/-! ### The silence monitor (R18, R19, R142) -/

theorem restartSilence_stopped (h : ¬(s.modes.mode = .run ∧ s.params.silenceLimit ≠ 0)) : restartSilence s = s :=
  if_neg h

/-- R18: the timer restarts. -/
theorem restartSilence_quiet (h : s.modes.mode = .run ∧ s.params.silenceLimit ≠ 0) (hs : s.board.silent = false) :
    restartSilence s = modBoard (fun b => { b with silenceStart := some s.siteSecond }) s := by
  unfold restartSilence
  rw [if_pos h]
  exact if_neg (by simp [hs])

/-- R19: the timer restarts and a silence ends. -/
theorem restartSilence_silent (h : s.modes.mode = .run ∧ s.params.silenceLimit ≠ 0) (hs : s.board.silent = true) :
    restartSilence s = endSilence (modBoard (fun b => { b with silenceStart := some s.siteSecond }) s) := by
  unfold restartSilence
  rw [if_pos h]
  exact if_pos hs

/-- R19, R142, R152: the end of a silence as one update. -/
theorem endSilence_eq (s : State) : endSilence s =
    { s with
      board := { s.board with silent := false }
      round := { s.round with held := false }
      agenda := s.agenda
        ++ (if s.round.state = .active then (robotsOfMask s).map Job.examine else []) ++ allShuttles.map Job.startRule } := by
  unfold endSilence
  dsimp only
  split <;> rename_i hr
  · rw [if_pos (show s.round.state = .active from hr)]; rfl
  · rw [if_neg (show ¬s.round.state = .active from hr), List.append_nil]; rfl

/-- Settles O4: the write that finds no silence, the one that ends one, and the expiry. -/
theorem hostSilence : Obligations.HostSilence := by
  unfold Obligations.HostSilence
  refine ⟨fun s h => ?_, fun s hs hm hl => ?_, fun s start h hm hl hst => ?_⟩
  · by_cases hrun : s.modes.mode = .run ∧ s.params.silenceLimit ≠ 0
    · have hs : s.board.silent = false :=
        h.resolve_right fun h => h.elim (fun h => h hrun.1) fun h => hrun.2 h
      rw [afterWrite, restartSilence_quiet (s := { s with agenda := [] }) hrun hs, drain_nil rfl, if_pos hrun]
      rfl
    · rw [afterWrite, restartSilence_stopped (s := { s with agenda := [] }) hrun, drain_nil rfl, if_neg hrun]
  · rw [afterWrite, restartSilence_silent (s := { s with agenda := [] }) ⟨hm, hl⟩ hs, endSilence_eq]
    rfl
  · simp only [exec, execHostSilenceExpiry]
    rw [actWhen_quiet _ h (by simp [hm, hst, hl]) rfl, hst]
    rfl

end Sys2Proof.Machine
end

section
/-!
Writes to POST, ANSWERED, NOTICE and NOTICE ENABLE (O6, O8), and the taking of orders (O18).
-/

namespace Sys2Proof.Machine

variable {s t : State}

/-! ### POST (R7) -/

/-- The slots of a list that a POST write posts: those that are FREE. -/
def postable (s : State) (xs : List SlotIx) : List SlotIx := xs.filter fun n => decide ((s.slot n).state = .free)

/-- The board after the slots of `xs` have been named by a POST write. -/
def postedBoard (s : State) (xs : List SlotIx) : Board :=
  { s.board with
    slots := tabulate fun n => if n ∈ postable s xs then { s.slot n with state := .held } else s.slot n
    intake := s.board.intake ++ postable s xs
    notice := if xs.any fun n => decide ((s.slot n).state ≠ .free) then s.board.notice ||| 2#13 else s.board.notice }

theorem postable_cons_free {x : SlotIx} (rest : List SlotIx) (h : (s.slot x).state = .free) :
    postable s (x :: rest) = x :: postable s rest := by
  simp [postable, h]

theorem postable_cons_other {x : SlotIx} (rest : List SlotIx) (h : (s.slot x).state ≠ .free) :
    postable s (x :: rest) = postable s rest := by
  simp [postable, h]

theorem postSlot_free {n : SlotIx} (h : (s.slot n).state = .free) :
    postSlot n s = { s with board := { s.board with
      slots := tset s.board.slots n { s.slot n with state := .held }, intake := s.board.intake ++ [n] } } :=
  if_pos h

theorem postSlot_other {n : SlotIx} (h : (s.slot n).state ≠ .free) :
    postSlot n s = { s with board := { s.board with notice := s.board.notice ||| 2#13 } } :=
  if_neg h

/-- R7: the bits of a POST write in ascending order come to one update of the board. -/
theorem forEach_postSlot {xs : List SlotIx} (hx : xs.Nodup) (s : State) :
    forEach xs postSlot s = { s with board := postedBoard s xs } := by
  induction xs generalizing s with
  | nil =>
    have hslots : (tabulate fun n => s.slot n) = s.board.slots := table_ext fun n => by simp [State.slot]
    simp [forEach, postedBoard, postable, hslots]
  | cons x rest ih =>
    obtain ⟨hout, hrest⟩ := List.nodup_cons.1 hx
    show forEach rest postSlot (postSlot x s) = _
    rw [ih hrest]
    by_cases hf : (s.slot x).state = .free
    · have hslot (n) : (postSlot x s).slot n = if n = x then { s.slot x with state := .held } else s.slot n := by
        rw [postSlot_free hf]; exact tget_tset _ _ _ _
      have hsame {n : SlotIx} (hn : n ∈ rest) : (postSlot x s).slot n = s.slot n := by
        rw [hslot, if_neg fun e : n = x => hout (e ▸ hn)]
      have hpost : postable (postSlot x s) rest = postable s rest :=
        List.filter_congr fun n hn => by rw [hsame hn]
      have hany : (rest.any fun n => decide (((postSlot x s).slot n).state ≠ .free))
          = rest.any fun n => decide ((s.slot n).state ≠ .free) :=
        by
          rw [Bool.eq_iff_iff, List.any_eq_true, List.any_eq_true]
          exact exists_congr fun n => and_congr_right fun hn => by rw [hsame hn]
      have hin : x ∉ postable s rest := fun h => hout (List.mem_of_mem_filter h)
      have hslots : (tabulate fun n => if n ∈ postable s rest then { (postSlot x s).slot n with state := .held }
            else (postSlot x s).slot n)
          = tabulate fun n => if n ∈ postable s (x :: rest) then { s.slot n with state := .held } else s.slot n :=
        table_ext fun n => by
          simp only [tget_tabulate, hslot, postable_cons_free rest hf, List.mem_cons]
          by_cases e : n = x
          · subst e; simp [hin]
          · simp [e]
      unfold postedBoard
      rw [hpost, hany, hslots, postable_cons_free rest hf]
      simp [postSlot_free hf, hf]
    · have hslot (n) : (postSlot x s).slot n = s.slot n := by rw [postSlot_other hf]; rfl
      have hpost : postable (postSlot x s) rest = postable s (x :: rest) := by
        rw [postable_cons_other rest hf]
        simp only [postable, hslot]
      unfold postedBoard
      simp only [hpost, hslot]
      simp [postSlot_other hf, hf, BitVec.or_assoc]

theorem slotsOf_nodup (mask : Word) : (slotsOf mask).Nodup := (List.nodup_finRange 16).filter _

theorem mem_slotsOf {mask : Word} {n : SlotIx} : n ∈ slotsOf mask ↔ mask.getLsbD n.1 = true := by
  simp [slotsOf, allSlots]

/-- A register write outside reset whose register raises no notice. -/
theorem registerWrite_quiet (f : State → State) (h : s.resetHeld = false) (hq : (f (afterWrite s)).agenda = []) :
    act (registerWrite f) s = .next (commit s (f (afterWrite s))) :=
  act_quiet _ h hq

/-! ### ANSWERED (R13) -/

/-- R13: the bits of an ANSWERED write come to one update of the slots. -/
theorem forEach_collectSlot (xs : List SlotIx) (s : State) :
    forEach xs collectSlot s = { s with board := { s.board with
      slots := tabulate fun n =>
        if n ∈ xs ∧ (s.slot n).state = .answered then { s.slot n with state := .free } else s.slot n } } := by
  induction xs generalizing s with
  | nil =>
    have hslots : (tabulate fun n => s.slot n) = s.board.slots := table_ext fun n => by simp [State.slot]
    simp [forEach, hslots]
  | cons x rest ih =>
    show forEach rest collectSlot (collectSlot x s) = _
    rw [ih]
    have hslot (n) : (collectSlot x s).slot n
        = if n = x ∧ (s.slot n).state = .answered then { s.slot n with state := .free } else s.slot n := by
      unfold collectSlot
      by_cases ha : (s.slot x).state = .answered
      · rw [if_pos ha]
        by_cases e : n = x
        · subst e; simp [State.slot] at ha ⊢; simp [ha]
        · simp [State.slot, e]
      · rw [if_neg ha]
        exact (if_neg fun ⟨e, h⟩ => ha (e ▸ h)).symm
    have hrest : ∀ ts, ({ collectSlot x s with board := { (collectSlot x s).board with slots := ts } } : State)
        = { s with board := { s.board with slots := ts } } := fun ts => by
      unfold collectSlot; split <;> rfl
    rw [hrest]
    have hslots : (tabulate fun n => if n ∈ rest ∧ ((collectSlot x s).slot n).state = .answered
          then { (collectSlot x s).slot n with state := .free } else (collectSlot x s).slot n)
        = tabulate fun n => if n ∈ x :: rest ∧ (s.slot n).state = .answered then { s.slot n with state := .free }
          else s.slot n :=
      table_ext fun n => by
        simp only [tget_tabulate, hslot, List.mem_cons]
        by_cases e : n = x
        · subst e
          by_cases ha : (s.slot n).state = .answered <;> simp [ha]
        · simp [e]
    rw [hslots]

/-- Settles O6: each mask write comes to one update of the board. -/
theorem slotWrites : Obligations.SlotWrites := by
  unfold Obligations.SlotWrites
  refine ⟨fun s mask h => ?_, fun s mask h => ?_, fun s n => ?_⟩
  · have hpost := forEach_postSlot (slotsOf_nodup mask) (afterWrite s)
    refine (registerWrite_quiet (postMask mask) h (by rw [postMask, hpost]; rfl)).trans ?_
    rw [postMask, hpost, postedBoard]
    simp only [postable, slotsOf, List.filter_filter, List.any_filter, Bool.and_comm]
    rfl
  · have hcollect := forEach_collectSlot (slotsOf mask) (afterWrite s)
    refine (registerWrite_quiet (collectMask mask) h (by rw [collectMask, hcollect]; rfl)).trans ?_
    rw [collectMask, hcollect]
    simp only [mem_slotsOf]
  · exact ⟨slotMask_getLsbD s _ n, slotMask_getLsbD s _ n⟩

/-! ### NOTICE and NOTICE ENABLE (R16, R17) -/

theorem exec_noticeClear (v : Word) (h : s.resetHeld = false) :
    exec (.noticeClear v) s = .next (commit s (clearNotices v (afterWrite s))) :=
  registerWrite_quiet (clearNotices v) h rfl

theorem exec_noticeEnableWrite (v : Word) (h : s.resetHeld = false) :
    exec (.noticeEnableWrite v) s = .next (commit s (writeEnable v (afterWrite s))) :=
  registerWrite_quiet (writeEnable v) h rfl

theorem clearNotices_getLsbD (v : Word) (s : State) (i : Nat) :
    (clearNotices v s).board.notice.getLsbD i = (s.board.notice.getLsbD i && !v.getLsbD i) := by
  by_cases hi : i < 13
  · simp [clearNotices, hi]
  · simp [BitVec.getLsbD_of_ge _ i (Nat.le_of_not_lt hi)]

theorem writeEnable_getLsbD (v : Word) (s : State) (i : Nat) :
    (writeEnable v s).board.enable.getLsbD i = (decide (i < 13) && v.getLsbD i) := by
  simp [writeEnable, BitVec.getLsbD_setWidth]

/-- Settles O8. -/
theorem noticeWrites : Obligations.NoticeWrites := by
  unfold Obligations.NoticeWrites
  intro s v h
  exact ⟨⟨_, exec_noticeClear v h, rfl, clearNotices_getLsbD v (afterWrite s)⟩,
    ⟨_, exec_noticeEnableWrite v h, rfl, writeEnable_getLsbD v (afterWrite s)⟩,
    registerWrite_quiet (fun s => s) h rfl, registerWrite_quiet (fun s => s) h rfl⟩

/-! ### Orders (R8, R9) -/

/-- R8: every order command takes the head slot by its kind and its condition, and hands it to a job. -/
theorem exec_takesOrder {c : Instr} {k : OrderKind} {holds : List Word → Bool} (h : c.takesOrder = some (k, holds)) :
    ∃ job, ∀ s, exec c s = takeOrder k holds job s := by
  cases c <;> simp only [Instr.takesOrder, Option.some.injEq, Prod.mk.injEq, reduceCtorEq] at h
  all_goals
    obtain ⟨rfl, rfl⟩ := h
    exact ⟨_, fun _ => rfl⟩

/-- R9 steps 2 and 3: an order refused by the order engine is answered and gives rise to no notice. -/
theorem takeOrder_refused {n : SlotIx} {rest : List SlotIx} {k : OrderKind} {accepts : List Word → Bool}
    (job : SlotIx → List Word → State → State) (hr : s.resetHeld = false) (hi : s.board.intake = n :: rest)
    (ha : accepts (slotWords s n) = true) {cls : AnswerClass} {d : Nat}
    (hc : checkOrder k job n (slotWords s n) (takenAt s n rest) = answer n cls d [] (takenAt s n rest)) :
    takeOrder k accepts job s = .next (commit s (answer n cls d [] (takenAt s n rest))) := by
  unfold takeOrder
  rw [actWhen_quiet _ hr (by simp [orderDue, hi, ha]) (by rw [takeHead_eq _ hi, hc]; rfl), takeHead_eq _ hi, hc]

theorem orderKind_range {w : Word} {k : OrderKind} (h : orderKind w = some k) : 1 ≤ w.toNat ∧ w.toNat ≤ 11 := by
  unfold orderKind at h
  split at h <;> first | omega | cases h

theorem orderKind_none {w : Word} (h : w.toNat = 0 ∨ 12 ≤ w.toNat) : orderKind w = none := by
  cases hk : orderKind w with
  | none => rfl
  | some k =>
    have := orderKind_range hk
    omega

/-- Settles O18: the head slot's three refusals, and each kind's bounds. -/
theorem ordersRefused : Obligations.OrdersRefused := by
  unfold Obligations.OrdersRefused
  refine ⟨fun s n rest hr hi => ⟨fun hk => ?_, fun c k holds ht ha => ⟨fun hm => ?_, fun w hm hw => ?_⟩⟩, fun ws => ?_⟩
  · have hk' : (orderKind ((slotWords s n).getD 0 0)).isNone = true := by
      rw [slotWords_get s n (by decide), Nat.add_zero, hk]; rfl
    simp only [exec, execUnknownOrder]
    rw [actWhen_quiet _ hr (by simpa [orderDue, hi] using hk') (by rw [takeHead_eq _ hi]; rfl), takeHead_eq _ hi]
  · obtain ⟨job, hjob⟩ := exec_takesOrder ht
    rw [hjob]
    exact takeOrder_refused job hr hi ha (if_pos hm)
  · obtain ⟨job, hjob⟩ := exec_takesOrder ht
    rw [hjob]
    refine takeOrder_refused job hr hi ha ?_
    have hm' : (takenAt s n rest).modes.mode = .run := hm
    unfold checkOrder
    rw [if_neg (not_not.2 hm'), hw]
  · dsimp only
    refine ⟨?_, ?_, ?_, rfl, ?_, ?_, ?_, ?_, ?_, ?_, fun w => ⟨fun k => orderKind_range, orderKind_none⟩⟩
    case refine_3 => rintro k (rfl | rfl) <;> simp [rangeFailure, firstOutOfRange]
    all_goals
      simp only [rangeFailure, firstOutOfRange, Bool.and_eq_true, Bool.or_eq_true, decide_eq_true_eq]
      split_ifs <;> first | rfl | omega

end Sys2Proof.Machine
end

section
/-!
SUPPORT for the outputs and the register reads; what the outputs follow (O9), what the register addresses do (O10).
-/

namespace Sys2Proof.Machine

variable {s t : State}

/-! ### Outputs -/

theorem bitVec_and_ne_zero_iff {w : Nat} (x y : BitVec w) :
    (x &&& y != 0) = true ↔ ∃ i, x.getLsbD i = true ∧ y.getLsbD i = true := by
  rw [bne_iff_ne]
  constructor
  · intro h
    by_contra hn
    refine h (BitVec.eq_of_getLsbD_eq fun i _ => ?_)
    rw [BitVec.getLsbD_and, Bool.eq_false_iff.2 (fun hb => hn ⟨i, Bool.and_eq_true_iff.1 hb⟩)]
    simp
  · rintro ⟨i, hx, hy⟩ h
    have := congrArg (·.getLsbD i) h
    simp [hx, hy] at this

theorem mem_allRobots (r : RobotId) : r ∈ allRobots := List.mem_finRange r

/-- The first index in ascending order that satisfies a condition. -/
theorem find?_finRange_eq_some_iff {n : Nat} {p : Fin n → Bool} {i : Fin n} :
    (List.finRange n).find? p = some i ↔ p i = true ∧ ∀ j, j < i → ¬p j = true := by
  rw [← List.ofFn_id]
  exact List.find?_ofFn_eq_some_of_injective (f := id) Function.injective_id

/-- The registered shuttle of a block is the first whose block it is. -/
theorem shuttleOf_eq_some_iff {b : Nat} {k : ShuttleIx} : shuttleOf s b = some k ↔
    ((s.shuttleConfig k).registered = true ∧ (s.shuttleConfig k).block = b)
      ∧ ∀ j, j < k → (s.shuttleConfig j).registered = true → (s.shuttleConfig j).block ≠ b := by
  unfold shuttleOf allShuttles
  rw [find?_finRange_eq_some_iff]
  simp

theorem placeBlock_eq_some_iff {r : RobotId} {b : Nat} : placeBlock s r = some b ↔
    (∃ row, (s.robot r).place = .row row ∧ (s.site row).block = b)
      ∨ ∃ k, (s.robot r).place = .shuttle k ∧ (s.shuttleConfig k).block = b := by
  unfold placeBlock
  cases (s.robot r).place <;> simp [blockOf]

theorem inFleet_iff {r : RobotId} : inFleet s r = true ↔
    (s.robotConfig r).registered = true ∧ (s.robot r).activity ≠ .withdrawn := by
  simp [inFleet]

/-- R50: the robots' share of a block clear output. -/
theorem robotsClear_iff (s : State) (b : Nat) :
    (allRobots.all fun r => !(inFleet s r && placeBlock s r == some b) ||
        (((s.robot r).activity == .docked || (s.robot r).activity == .clamped) && s.robotLinkState r != .lost)) = true
      ↔ ∀ r, (s.robotConfig r).registered = true → (s.robot r).activity ≠ .withdrawn →
        ((∃ row, (s.robot r).place = .row row ∧ (s.site row).block = b)
          ∨ ∃ k, (s.robot r).place = .shuttle k ∧ (s.shuttleConfig k).block = b) →
        ((s.robot r).activity = .docked ∨ (s.robot r).activity = .clamped) ∧ s.robotLinkState r ≠ .lost := by
  rw [List.all_eq_true]
  refine forall_congr' fun r => ?_
  rw [← placeBlock_eq_some_iff, ← and_imp, ← inFleet_iff, ← and_imp]
  simp only [mem_allRobots, true_imp_iff, Bool.or_eq_true, Bool.and_eq_true, Bool.not_eq_true', Bool.and_eq_false_iff,
    beq_iff_eq, bne_iff_ne, beq_eq_false_iff_ne]
  rw [imp_iff_not_or, not_and_or, Bool.not_eq_true]

/-- R50: the block's shuttle carries no robot. -/
theorem shuttleClear_iff (s : State) (b : Nat) : (∀ k, shuttleOf s b = some k → (s.shuttle k).carried = none)
    ↔ ∀ k, (s.shuttleConfig k).registered = true → (s.shuttleConfig k).block = b →
      (∀ j, j < k → (s.shuttleConfig j).registered = true → (s.shuttleConfig j).block ≠ b) →
      (s.shuttle k).carried = none := by
  simp only [shuttleOf_eq_some_iff, and_imp]

/-- R50: when a block clear output is high. -/
theorem blockClear_iff (s : State) (b : Nat) : blockClear s b = true ↔
    s.modes.mode = .run ∧ s.resetHeld = false
    ∧ (∀ r, (s.robotConfig r).registered = true → (s.robot r).activity ≠ .withdrawn →
        ((∃ row, (s.robot r).place = .row row ∧ (s.site row).block = b)
          ∨ ∃ k, (s.robot r).place = .shuttle k ∧ (s.shuttleConfig k).block = b) →
        ((s.robot r).activity = .docked ∨ (s.robot r).activity = .clamped) ∧ s.robotLinkState r ≠ .lost)
    ∧ ∀ k, (s.shuttleConfig k).registered = true → (s.shuttleConfig k).block = b →
        (∀ j, j < k → (s.shuttleConfig j).registered = true → (s.shuttleConfig j).block ≠ b) →
        (s.shuttle k).carried = none := by
  unfold blockClear
  rw [Bool.and_eq_true, Bool.and_eq_true, Bool.and_eq_true, robotsClear_iff, beq_iff_eq, Bool.not_eq_true', and_assoc,
    and_assoc, ← shuttleClear_iff]
  refine and_congr_right fun _ => and_congr_right fun _ => and_congr_right fun _ => ?_
  cases shuttleOf s b <;> simp

theorem radioKey_iff (s : State) : radioKey s = true ↔ ∃ t, s.link.phase = .keyLead t ∨ s.link.phase = .sending t := by
  unfold radioKey
  cases s.link.phase <;> simp

theorem txd_eq_bits {c : TxChar} (h : s.resetHeld = false) (hc : s.link.transmitter.shift = some c) (bit : Nat) :
    txd s bit = c.bits.getD bit true := by
  simp [txd, h, hc]

/-- R51: the data bits of a character go out least significant first, behind the start bit. -/
theorem bits_data (c : TxChar) {i : Nat} (h : i < 8) : c.bits.getD (i + 1) true = c.value.getLsbD i := by
  unfold TxChar.bits
  rw [List.cons_append, List.getD_cons_succ, List.getD_append _ _ _ _ (by simpa using h)]
  simp [h]

/-- Settles O9, output by output. -/
theorem outputsFollow : Obligations.OutputsFollow := by
  unfold Obligations.OutputsFollow
  refine ⟨fun s => bitVec_and_ne_zero_iff _ _, fun s t v h he i => ?_, fun c s t h hr hw => ?_, blockClear_iff,
    fun s => ⟨radioKey_iff s, fun n => ?_⟩, fun s => ⟨fun h bit => ?_, fun h c hc => ?_⟩, fun s a => ⟨rfl, rfl⟩⟩
  · rw [exec_noticeEnableWrite v h] at he
    injection he with he
    subst he
    show ((writeEnable v (afterWrite s)).board.enable.setWidth 16).getLsbD i = _
    rw [BitVec.getLsbD_setWidth, writeEnable_getLsbD]
    by_cases hi : i < 13
    · simp [hi, Nat.lt_trans hi (by decide : 13 < 16)]
    · simp [hi]
  · exact (exec_moves c h).keeps (P := fun u => u.board.enable = s.board.enable)
      (fun _ _ hm hu => (hm.enable_stands hr hw).trans hu) rfl
  · rw [wiperOutput, Option.isSome_iff_ne_none]
  · unfold txd
    rcases h with h | h <;> rw [h]
    · rfl
    · exact ite_self true
  · have hbits (bit) := txd_eq_bits h hc bit
    exact ⟨hbits 0, fun i hi => (hbits (i + 1)).trans (bits_data c hi), hbits 9, hbits 10⟩

/-! ### The register addresses (R201, R202) -/

theorem word_toNat {n : Nat} (h : n < 65536) : (word n).toNat = n := by
  rw [word, BitVec.toNat_ofNat, Nat.mod_eq_of_lt h]

theorem bitOf_le (b : Bool) : bitOf b ≤ 1 := by cases b <;> decide
theorem Mode.code_le (x : Mode) : x.code ≤ 2 := by cases x <;> decide
theorem RoundState.code_le (x : RoundState) : x.code ≤ 3 := by cases x <;> decide
theorem StormSummary.code_le (x : StormSummary) : x.code ≤ 4 := by cases x <;> decide
theorem RefusalCode.code_le (x : RefusalCode) : x.code ≤ 10 := by cases x <;> decide

/-- R202: the fields of page 0 do not overlap. -/
theorem statusPage0_toNat (s : State) : (statusPage0 s).toNat
    = s.modes.mode.code + 4 * (stormSummary s).code + 32 * s.round.state.code + 128 * bitOf s.board.silent
      + 256 * s.modes.refusal.code := by
  have hm := s.modes.mode.code_le
  have hs := (stormSummary s).code_le
  have hr := s.round.state.code_le
  have hb := bitOf_le s.board.silent
  have hc := s.modes.refusal.code_le
  exact word_toNat (by omega)

theorem readId_toNat (s : State) : (readId s).toNat = 0x148 + 4096 * s.board.resetCause.code := by
  unfold readId
  cases s.board.resetCause <;> rfl

theorem readControl_toNat (s : State) :
    (readControl s).toNat = bitOf s.board.modeRequest + 4 * bitOf s.board.statusPage := by
  have hr := bitOf_le s.board.modeRequest
  have hp := bitOf_le s.board.statusPage
  exact word_toNat (by omega)

theorem setWidth_toNat (x : BitVec 13) : (x.setWidth 16).toNat = x.toNat :=
  BitVec.toNat_setWidth_of_le (by decide)

theorem hostRead_status (s : State) : hostRead s 0x7FFA = readStatus s := by
  unfold hostRead
  rw [show registerAt 0x7FFA = some .status by decide]
  rfl

theorem hostRead_notice (s : State) : hostRead s 0x7FFB = s.board.notice.setWidth 16 := by
  unfold hostRead
  rw [show registerAt 0x7FFB = some .notice by decide]
  rfl

theorem hostRead_noticeEnable (s : State) : hostRead s 0x7FFC = s.board.enable.setWidth 16 := by
  unfold hostRead
  rw [show registerAt 0x7FFC = some .noticeEnable by decide]
  rfl

theorem exec_hostMemoryWrite_control (v : Word) (s : State) : exec (.hostMemoryWrite 0x7FF9 v) s
    = if v.getLsbD 1 then exec (.softReset (v.getLsbD 0) (v.getLsbD 2)) s
      else exec (.statusPageSelect (v.getLsbD 0) (v.getLsbD 2)) s := by
  rw [exec_hostMemoryWrite_register (reg := .control) (by decide), writeRegister_control]
  split <;> rfl

/-- A host write of a memory word moves no change count and no mark. -/
theorem mirrorOf_writeMemory (a : Nat) (v : Word) (s : State) (m : MirrorId) :
    (mirrorOf (writeMemory a v s) m).count = (mirrorOf s m).count
      ∧ (mirrorOf (writeMemory a v s) m).pending = (mirrorOf s m).pending := by
  have hcheck : mirrorOf (raceChecking a s) m = mirrorOf s m := mirrorOf_congr (by rw [raceChecking_frame]) m
  have hwrite : mirrorOf (writeMemory a v s) m = mirrorOf (raceRewrite a (raceChecking a s)) m := mirrorOf_congr rfl m
  rw [hwrite, ← hcheck]
  generalize raceChecking a s = u
  unfold raceRewrite
  split
  · exact ⟨rfl, rfl⟩
  · rename_i x _
    dsimp only
    split
    · have hx (f : Mirror → Mirror) : mirrorOf (modMirror x f (takeFree u).2) m
          = if m = x then f (mirrorOf u x) else mirrorOf u m := mirrorOf_replace u x m (f (mirrorOf u x))
      rw [hx]
      split
      · rename_i e; subst e; exact ⟨rfl, rfl⟩
      · exact ⟨rfl, rfl⟩
    · rw [mirrorOf_congr (s := u) rfl m]; exact ⟨rfl, rfl⟩

theorem writeMemory_changes (a : Nat) (v : Word) (s : State) :
    writeMemory a v s
      = { s with
          memory := (writeMemory a v s).memory
          freeCount := (writeMemory a v s).freeCount
          mirrors := (writeMemory a v s).mirrors
          modes := { s.modes with checkRead := (writeMemory a v s).modes.checkRead } } := by
  conv_lhs => rw [writeMemory_frame]
  rw [show (writeMemory a v s).memory = Memory.write s.memory a v by rw [writeMemory_frame]]

/-- Settles O10: the register addresses one by one, the reads, and the memory words. -/
theorem registerAccess : Obligations.RegisterAccess := by
  unfold Obligations.RegisterAccess
  refine ⟨fun s v => ?_, fun s n => ?_, fun s => ⟨statusPage0_toNat s, fun hi hc => word_toNat (by omega),
      hostRead_status s⟩,
    fun s a v ha hwf => ?_⟩
  · refine ⟨?_, exec_hostMemoryWrite_control v s, ?_, ?_, ?_, ?_, ?_, ?_, fun a ha => ?_⟩
    · rw [exec_hostMemoryWrite_register (reg := .id) (by decide)]; rfl
    · rw [exec_hostMemoryWrite_register (reg := .status) (by decide)]; rfl
    · rw [exec_hostMemoryWrite_register (reg := .notice) (by decide)]; rfl
    · rw [exec_hostMemoryWrite_register (reg := .noticeEnable) (by decide)]; rfl
    · rw [exec_hostMemoryWrite_register (reg := .post) (by decide)]; rfl
    · rw [exec_hostMemoryWrite_register (reg := .abort) (by decide)]; rfl
    · rw [exec_hostMemoryWrite_register (reg := .answered) (by decide)]; rfl
    · have ha' : Config.addressSpace ≤ a := ha
      simp only [exec, execHostMemoryWrite, if_pos ha']
  · exact ⟨slotMask_getLsbD s _ n, readId_toNat s, readControl_toNat s,
      hostRead_notice s ▸ setWidth_toNat _, hostRead_noticeEnable s ▸ setWidth_toNat _⟩
  · exact ⟨_, exec_hostMemoryWrite_memory ha v s, writeMemory_mem a v hwf, writeMemory_changes a v s,
      mirrorOf_writeMemory a v s⟩

end Sys2Proof.Machine
end

section
/-!
The end of RUN (O14): the answers to the long orders, the reservations released, and what stops.
-/

namespace Sys2Proof.Machine

variable {s t u : State}

/-! ### Several answers (R15) -/

theorem answer_slot (n : SlotIx) (cls : AnswerClass) (d : Nat) (ws : List Word) (s : State) (m : SlotIx) :
    (answer n cls d ws s).slot m
      = if m = n then { s.slot m with state := .answered, abortRequested := false } else s.slot m := by
  unfold State.slot
  rw [answer_board, tget_tset]
  split
  · rename_i e; rw [e]
  · rfl

theorem answer_wf (n : SlotIx) (cls : AnswerClass) (d : Nat) (ws : List Word) (hwf : Memory.wf s.memory = true) :
    Memory.wf (answer n cls d ws s).memory = true := by
  rw [answer_memory]; exact Memory.wf_writeAll hwf _

/-- Each of several slots is answered alike, with no result. -/
def answerAll (xs : List SlotIx) (cls : AnswerClass) (d : Nat) (s : State) : State :=
  forEach xs (fun n => answer n cls d []) s

theorem answerAll_cons (x : SlotIx) (rest : List SlotIx) (cls : AnswerClass) (d : Nat) (s : State) :
    answerAll (x :: rest) cls d s = answerAll rest cls d (answer x cls d [] s) := rfl

/-- R11: the frame of several answers. -/
theorem answerAll_eq (xs : List SlotIx) (cls : AnswerClass) (d : Nat) (s : State) :
    answerAll xs cls d s
      = { s with
          board :=
            { s.board with
              slots := (answerAll xs cls d s).board.slots
              intake := s.board.intake.filter fun n => decide (n ∉ xs)
              notice := s.board.notice ||| (if xs = [] then 0#13 else 1#13) }
          memory := (answerAll xs cls d s).memory } := by
  induction xs generalizing s with
  | nil => simp [answerAll, forEach]
  | cons x rest ih =>
    rw [answerAll_cons]
    conv_lhs => rw [ih, answer_eq]
    have hintake : (s.board.intake.filter fun m => decide (m ≠ x)).filter (fun n => decide (n ∉ rest))
        = s.board.intake.filter fun n => decide (n ∉ x :: rest) := by
      rw [List.filter_filter]
      exact List.filter_congr fun n _ => by simp [Bool.and_comm]
    dsimp only
    rw [hintake, ← answer_eq]
    by_cases hr : rest = [] <;> simp [hr, BitVec.or_assoc]

theorem answerAll_slot (xs : List SlotIx) (cls : AnswerClass) (d : Nat) (s : State) (n : SlotIx) :
    (answerAll xs cls d s).slot n
      = if n ∈ xs then { s.slot n with state := .answered, abortRequested := false } else s.slot n := by
  induction xs generalizing s with
  | nil => rfl
  | cons x rest ih =>
    rw [answerAll_cons, ih, answer_slot]
    by_cases hx : n = x <;> by_cases hr : n ∈ rest <;> simp [hx, hr]

theorem answerAll_mem_other (xs : List SlotIx) (cls : AnswerClass) (d : Nat) (hwf : Memory.wf s.memory = true) {a : Nat}
    (ha : ∀ n ∈ xs, a < slotBase n + 16 ∨ slotBase n + 32 ≤ a) : (answerAll xs cls d s).mem a = s.mem a := by
  induction xs generalizing s with
  | nil => rfl
  | cons x rest ih =>
    rw [answerAll_cons, ih (answer_wf x cls d [] hwf) fun n hn => ha n (List.mem_cons_of_mem x hn)]
    exact answer_mem_other x cls d [] hwf (ha x List.mem_cons_self)

/-- R11: word 16 + i of each of several slots answered, with the tag that the slot kept. -/
theorem answerAll_mem_word {xs : List SlotIx} (cls : AnswerClass) (d : Nat) (hwf : Memory.wf s.memory = true)
    {n : SlotIx} (hn : n ∈ xs) {i : Nat} (hi : i < 16) : (answerAll xs cls d s).mem (slotBase n + 16 + i)
      = (word cls.code :: word d :: (s.slot n).tag :: padResults []).getD i 0 := by
  induction xs generalizing s with
  | nil => cases hn
  | cons x rest ih =>
    rw [answerAll_cons]
    by_cases hr : n ∈ rest
    · rw [ih (answer_wf x cls d [] hwf) hr, answer_slot]
      split <;> rfl
    · obtain rfl : n = x := (List.mem_cons.1 hn).resolve_right hr
      rw [answerAll_mem_other rest cls d (answer_wf n cls d [] hwf) fun m hm => ?_, answer_mem_word n cls d [] hwf hi]
      have hne : m.1 ≠ n.1 := fun e => hr (Fin.ext e ▸ hm)
      simp only [slotBase, Config.orderBoardBase]
      omega

/-! ### Reservations released (R35, R167) -/

/-- The destinations and robots of the requests queued and of the transfers held. -/
def reservations (s : State) : List (RowId × RobotId) :=
  allShuttles.flatMap fun k =>
    ((s.shuttle k).queue.map fun q => (q.destination, q.robot))
      ++ (s.shuttle k).transfer.toList.map fun t => (t.destination, t.robot)

/-- A row whose reservation is one of these is released. -/
def Row.releasedBy (x : Row) (r : RowId) (ps : List (RowId × RobotId)) : Row :=
  { x with reserved := if ∃ p ∈ ps, p.1 = r ∧ x.reserved = some p.2 then none else x.reserved }

/-- The rows after the release of these reservations. -/
def releaseAll (ps : List (RowId × RobotId)) (s : State) : State :=
  { s with rows := tabulate fun r => (s.row r).releasedBy r ps }

theorem releaseAll_nil (s : State) : releaseAll [] s = s := by
  have hrows : (tabulate fun r => (s.row r).releasedBy r []) = s.rows :=
    table_ext fun r => by simp [Row.releasedBy, State.row]
  rw [releaseAll, hrows]

theorem Row.releasedBy_append (x : Row) (r : RowId) (ps qs : List (RowId × RobotId)) :
    (x.releasedBy r ps).releasedBy r qs = x.releasedBy r (ps ++ qs) := by
  unfold Row.releasedBy
  by_cases hp : ∃ p ∈ ps, p.1 = r ∧ x.reserved = some p.2
  · have hq : ∃ p ∈ ps ++ qs, p.1 = r ∧ x.reserved = some p.2 :=
      hp.imp fun p h => ⟨List.mem_append_left qs h.1, h.2⟩
    simp only [if_pos hp, if_pos hq, ite_self]
  · simp only [List.mem_append, or_and_right, exists_or, hp, false_or, if_false]

theorem releaseAll_append (ps qs : List (RowId × RobotId)) (s : State) :
    releaseAll qs (releaseAll ps s) = releaseAll (ps ++ qs) s := by
  simp only [releaseAll, State.row, tget_tabulate, Row.releasedBy_append]

theorem releaseRow_eq (row : RowId) (r : RobotId) (s : State) : releaseRow row r s = releaseAll [(row, r)] s := by
  have hrows : (releaseRow row r s).rows = tabulate fun x => (s.row x).releasedBy x [(row, r)] :=
    table_ext fun x => by
      simp only [releaseRow, modRow_rows, tget_tset, tget_tabulate, Row.releasedBy, State.row]
      by_cases e : x = row
      · subst e; simp
      · simp [e, Ne.symm e]
  unfold releaseAll
  rw [← hrows]
  rfl

theorem forEach_releaseRow (qs : List Request) (s : State) :
    forEach qs (fun q => releaseRow q.destination q.robot) s
      = releaseAll (qs.map fun q => (q.destination, q.robot)) s := by
  induction qs generalizing s with
  | nil => exact (releaseAll_nil s).symm
  | cons q rest ih =>
    show forEach rest _ (releaseRow q.destination q.robot s) = _
    rw [ih, releaseRow_eq, releaseAll_append]
    rfl

/-- What one shuttle's requests had reserved is released. -/
def releaseShuttle (k : ShuttleIx) (s : State) : State :=
  let s := forEach (s.shuttle k).queue (fun q => releaseRow q.destination q.robot) s
  match (s.shuttle k).transfer with
  | some t => releaseRow t.destination t.robot s
  | none => s

theorem releaseShuttle_eq (k : ShuttleIx) (s : State) : releaseShuttle k s = releaseAll
    (((s.shuttle k).queue.map fun q => (q.destination, q.robot))
      ++ (s.shuttle k).transfer.toList.map fun t => (t.destination, t.robot)) s := by
  unfold releaseShuttle
  dsimp only
  rw [forEach_releaseRow, ← releaseAll_append]
  have hsame (ps) : (releaseAll ps s).shuttle k = s.shuttle k := rfl
  rw [hsame]
  cases (s.shuttle k).transfer with
  | none => exact (releaseAll_nil _).symm
  | some t => exact releaseRow_eq _ _ _

/-- R35, R167: the reservations of all requests are released at once. -/
theorem releaseReservations_eq (s : State) : releaseReservations s = releaseAll (reservations s) s := by
  have hfold (ks : List ShuttleIx) (u : State) (hu : u.shuttles = s.shuttles) :
      forEach ks releaseShuttle u = releaseAll (ks.flatMap fun k =>
        ((s.shuttle k).queue.map fun q => (q.destination, q.robot))
          ++ (s.shuttle k).transfer.toList.map fun t => (t.destination, t.robot)) u := by
    induction ks generalizing u with
    | nil => exact (releaseAll_nil u).symm
    | cons k rest ih =>
      show forEach rest releaseShuttle (releaseShuttle k u) = _
      have hk : u.shuttle k = s.shuttle k := by simp only [State.shuttle, hu]
      rw [releaseShuttle_eq, ih (releaseAll _ u) hu, releaseAll_append, hk]
      rfl
  exact hfold allShuttles s rfl

/-! ### Leaving RUN (R35, R199) -/

theorem stormSummary_congr (h : t.alerts = s.alerts) : stormSummary t = stormSummary s := by
  simp only [stormSummary, State.alert, h]

/-- R185: a change of the summary sets the STORM notice. -/
theorem noteStorm_eq (before : StormSummary) (s : State) : noteStorm before s =
    { s with board := { s.board with
      notice := s.board.notice ||| (if stormSummary s = before then 0#13 else 16#13) } } := by
  unfold noteStorm
  split
  · simp
  · rfl

theorem answerLongOrders_eq (s : State) : answerLongOrders s = answerAll (heldLongOrders s) .aborted 2 s := rfl

theorem reservations_congr (h : t.shuttles = s.shuttles) : reservations t = reservations s := by
  simp only [reservations, State.shuttle, h]

/-- R35, R167, R199: what stops, once the long orders have been answered. -/
def stopped (s : State) : State :=
  { s with
    board := { s.board with
      notice := s.board.notice ||| (if stormSummary (stopFleet s) = stormSummary s then 0#13 else 16#13)
      silent := false, silenceStart := none }
    modes := { s.modes with mode := .setup, refusal := .none, refusalIndex := 0, setupWaiting := false }
    rows := (releaseAll (reservations s) s).rows
    robots := (stopFleet s).robots
    shuttles := (stopFleet s).shuttles
    alerts := (stopFleet s).alerts
    anemometers := (stopFleet s).anemometers
    link := { s.link with
      phase := .idle, transmitter := .empty, urgent := [], heldBroadcast := tfill 8 0
      entries := tabulate fun i => { s.entry i with command := none, heldUrgent := false } }
    scanner := Scanner.afterReset
    farm := { s.farm with closeSlot := none }
    round := { s.round with held := false, recalls := [] } }

theorem leaveRun_eq_stopped (s : State) : leaveRun s = stopped (answerLongOrders s) := by
  unfold leaveRun
  generalize answerLongOrders s = v
  dsimp only
  have hafter : stormSummary (stopFleet (releaseAll (reservations v) v)) = stormSummary (stopFleet v) :=
    stormSummary_congr rfl
  have hbefore : stormSummary (releaseAll (reservations v) v) = stormSummary v := stormSummary_congr rfl
  unfold stopped
  rw [releaseReservations_eq, noteStorm_eq, hafter, hbefore]
  generalize stormSummary (stopFleet v) = after
  dsimp only [stopUnits, emptyLink, modModes, modBoard, modRound, modFarm, modScanner, modLink, stopFleet, releaseAll]
  rfl

/-- R35: leaving RUN as one update. -/
theorem leaveRun_eq (u : State) : leaveRun u =
    { u with
      board := { u.board with
        slots := (answerLongOrders u).board.slots
        intake := u.board.intake.filter fun n => decide (n ∉ heldLongOrders u)
        notice := u.board.notice ||| (if heldLongOrders u = [] then 0#13 else 1#13)
          ||| (if stormSummary (stopFleet u) = stormSummary u then 0#13 else 16#13)
        silent := false, silenceStart := none }
      memory := (answerLongOrders u).memory
      modes := { u.modes with mode := .setup, refusal := .none, refusalIndex := 0, setupWaiting := false }
      rows := (releaseAll (reservations u) u).rows
      robots := (stopFleet u).robots
      shuttles := (stopFleet u).shuttles
      alerts := (stopFleet u).alerts
      anemometers := (stopFleet u).anemometers
      link := { u.link with
        phase := .idle, transmitter := .empty, urgent := [], heldBroadcast := tfill 8 0
        entries := tabulate fun i => { u.entry i with command := none, heldUrgent := false } }
      scanner := Scanner.afterReset
      farm := { u.farm with closeSlot := none }
      round := { u.round with held := false, recalls := [] } } := by
  have answered := answerAll_eq (heldLongOrders u) .aborted 2 u
  rw [← answerLongOrders_eq] at answered
  have hafter : stormSummary (stopFleet (answerLongOrders u)) = stormSummary (stopFleet u) :=
    stormSummary_congr (by rw [answered]; rfl)
  have hbefore : stormSummary (answerLongOrders u) = stormSummary u := stormSummary_congr (by rw [answered])
  have hreserved : reservations (answerLongOrders u) = reservations u := reservations_congr (by rw [answered])
  rw [leaveRun_eq_stopped, stopped, hafter, hbefore, hreserved]
  generalize (answerLongOrders u).board.slots = slots at answered ⊢
  generalize (answerLongOrders u).memory = memory at answered ⊢
  rw [answered]
  rfl

theorem leaveRun_agenda (u : State) : (leaveRun u).agenda = u.agenda := by rw [leaveRun_eq]

theorem leaveRun_slot (u : State) (n : SlotIx) : (leaveRun u).slot n
    = if n ∈ heldLongOrders u then { u.slot n with state := .answered, abortRequested := false } else u.slot n := by
  have hslot : (leaveRun u).slot n = (answerLongOrders u).slot n := by rw [State.slot, leaveRun_eq]; rfl
  rw [hslot, answerLongOrders_eq, answerAll_slot]

theorem leaveRun_mem (u : State) (a : Nat) : (leaveRun u).mem a = (answerAll (heldLongOrders u) .aborted 2 u).mem a := by
  rw [State.mem, leaveRun_eq]; rfl

theorem leaveRun_row (u : State) (r : RowId) : (leaveRun u).row r = (u.row r).releasedBy r (reservations u) := by
  rw [State.row, leaveRun_eq]
  exact tget_tabulate _ r

theorem exists_reservation_iff (s : State) (p : RowId → RobotId → Prop) :
    (∃ x ∈ reservations s, p x.1 x.2) ↔ ∃ k, (∃ q ∈ (s.shuttle k).queue, p q.destination q.robot)
      ∨ ∃ x, (s.shuttle k).transfer = some x ∧ p x.destination x.robot := by
  simp only [reservations, allShuttles, List.mem_flatMap, List.mem_finRange, true_and, List.mem_append, List.mem_map,
    Option.mem_toList]
  constructor
  · rintro ⟨x, ⟨k, ⟨q, hq, rfl⟩ | ⟨y, hy, rfl⟩⟩, hp⟩
    exacts [⟨k, .inl ⟨q, hq, hp⟩⟩, ⟨k, .inr ⟨y, hy, hp⟩⟩]
  · rintro ⟨k, ⟨q, hq, hp⟩ | ⟨y, hy, hp⟩⟩
    exacts [⟨_, ⟨k, .inl ⟨q, hq, rfl⟩⟩, hp⟩, ⟨_, ⟨k, .inr ⟨y, hy, rfl⟩⟩, hp⟩]

/-- R161: a stranded record is not in service. -/
theorem inService_eq_some_iff {x : Shuttle} {y : Transfer} :
    x.inService = some y ↔ x.transfer = some y ∧ y.stranded = false := by
  unfold Shuttle.inService
  cases x.transfer with
  | none => simp
  | some z =>
    dsimp only
    by_cases hz : z.stranded = true
    · rw [if_pos hz]
      refine ⟨nofun, fun ⟨h, hy⟩ => ?_⟩
      cases h
      rw [hz] at hy
      cases hy
    · rw [if_neg hz]
      refine ⟨fun h => ⟨h, ?_⟩, And.left⟩
      cases h
      exact Bool.eq_false_iff.2 hz

/-- R15, R34: the long orders that a job holds. -/
theorem mem_heldLongOrders {n : SlotIx} : n ∈ heldLongOrders s ↔
    (∃ o ∈ s.scanner.orders, o.slot = n) ∨ s.farm.closeSlot = some n ∨ n ∈ s.round.recalls
    ∨ (∃ a, (s.alert a).heldSlot = some n)
    ∨ ∃ k, (∃ q ∈ (s.shuttle k).queue, q.origin = some n)
        ∨ ∃ x, (s.shuttle k).transfer = some x ∧ x.stranded = false ∧ x.origin = some n := by
  have hserved (k) : (match (s.shuttle k).inService with | some t => t.origin == some n | none => false) = true
      ↔ ∃ x, (s.shuttle k).transfer = some x ∧ x.stranded = false ∧ x.origin = some n := by
    simp only [← and_assoc, ← inService_eq_some_iff]
    cases (s.shuttle k).inService <;> simp
  simp only [heldLongOrders, List.mem_filter, allSlots, allAlerts, allShuttles, List.mem_finRange, true_and,
    Bool.or_eq_true, List.any_eq_true, beq_iff_eq, List.contains_iff_mem, or_assoc]
  refine or_congr_right (or_congr_right (or_congr_right (or_congr_right (exists_congr fun k => or_congr_right ?_))))
  exact hserved k

theorem exec_setupAtFrameEnd (hr : s.resetHeld = false) (hm : s.modes.mode = .run) (hw : s.modes.setupWaiting = true)
    (hx : ∃ x, s.link.phase = .sending x) :
    exec .setupAtFrameEnd s = .next (commit s (leaveRun { s with agenda := [] })) := by
  obtain ⟨x, hx⟩ := hx
  simp only [exec, execSetupAtFrameEnd]
  exact actWhen_quiet _ hr (by simp [hm, hw, sentTurn, hx]) (leaveRun_agenda _)

/-- Settles O14 from the one update that leaving RUN comes to. -/
theorem setupLeavesRun : Obligations.SetupLeavesRun := by
  unfold Obligations.SetupLeavesRun
  refine ⟨⟨fun s hr hm hw hx => exec_setupAtFrameEnd hr hm hw hx, fun u hwf => ?_⟩, fun s n => mem_heldLongOrders⟩
  have hword {n : SlotIx} (hn : n ∈ heldLongOrders u) {i : Nat} (hi : i < 16) :=
    (leaveRun_mem u _).trans (answerAll_mem_word .aborted 2 hwf hn hi)
  refine ⟨?_, fun n hn => ?_, fun n hn => ?_, ?_, fun a ha => ?_, fun r => ?_⟩
  · have hslots : (leaveRun u).board.slots = (answerLongOrders u).board.slots := by rw [leaveRun_eq]
    have hmemory : (leaveRun u).memory = (answerLongOrders u).memory := by rw [leaveRun_eq]
    conv_lhs => rw [leaveRun_eq]
    rw [hslots, hmemory, show (leaveRun u).board.notice = _ by rw [leaveRun_eq],
      show (leaveRun u).rows = _ by rw [leaveRun_eq]]
    rfl
  · rw [leaveRun_slot, if_pos hn]
    exact ⟨rfl, rfl, hword hn (i := 0) (by decide), hword hn (i := 1) (by decide), hword hn (i := 2) (by decide)⟩
  · rw [leaveRun_slot, if_neg hn]
  · have hsummary : stormSummary (leaveRun u) = stormSummary (stopFleet u) :=
      stormSummary_congr (by rw [leaveRun_eq])
    rw [hsummary, leaveRun_eq]
  · exact (leaveRun_mem u a).trans (answerAll_mem_other _ .aborted 2 hwf ha)
  · rw [leaveRun_row]
    exact ⟨rfl, if_congr (exists_reservation_iff u fun x y => x = r ∧ (u.row r).reserved = some y) rfl rfl⟩

end Sys2Proof.Machine
end

section
/-!
What a CONTROL write without a soft reset does (O5).
-/

namespace Sys2Proof.Machine

variable {s t u : State}

/-- R20, R202: a CONTROL write that is no SETUP request in RUN. -/
theorem controlWrite_eq (request page : Bool) (h : ¬(u.modes.mode = .run ∧ request = false)) :
    controlWrite request page u = { u with
      board := { u.board with modeRequest := request, statusPage := page }
      modes :=
        if u.modes.mode = .setup ∧ request = true then { u.modes with mode := .checking, checkRead := [] }
        else u.modes } := by
  unfold controlWrite
  dsimp only
  split <;> rename_i hm
  · rw [if_pos ⟨hm, rfl⟩]; rfl
  · exact absurd ⟨hm, rfl⟩ h
  · rw [if_neg fun hn => nomatch hn.2]; rfl
  · rw [if_neg fun hn => by rw [show u.modes.mode = _ from hm] at hn; cases hn.1]; rfl
  · rw [if_neg fun hn => by rw [show u.modes.mode = _ from hm] at hn; cases hn.1]; rfl

/-- R34: a SETUP request in RUN is put to the fleet. -/
theorem controlWrite_setup (page : Bool) (h : u.modes.mode = .run) : controlWrite false page u
    = requestSetup { u with board := { u.board with modeRequest := false, statusPage := page } } := by
  unfold controlWrite
  dsimp only
  split
  case h_2 => rfl
  all_goals simp_all [modBoard]

theorem requestSetup_waiting (h : s.modes.setupWaiting = true) : requestSetup s = s := if_pos h

theorem requestSetup_refused (hw : s.modes.setupWaiting = false) (hr : atRest s = false) : requestSetup s
    = { s with modes := { s.modes with refusal := .fleetActive, refusalIndex := 0 } } := by
  simp [requestSetup, hw, hr, modModes]

theorem requestSetup_sending (hw : s.modes.setupWaiting = false) (hr : atRest s = true) (hk : radioKey s = true) :
    requestSetup s = { s with modes := { s.modes with setupWaiting := true } } := by
  simp [requestSetup, hw, hr, sendingFrame, hk, modModes]

theorem requestSetup_taken (hw : s.modes.setupWaiting = false) (hr : atRest s = true) (hk : radioKey s = false) :
    requestSetup s = leaveRun s := by
  simp [requestSetup, hw, hr, sendingFrame, hk]

theorem requestSetup_agenda (s : State) : (requestSetup s).agenda = s.agenda := by
  unfold requestSetup
  split
  · rfl
  · split
    · rfl
    · split
      · rfl
      · exact leaveRun_agenda s

/-- R34: the fleet at rest. -/
theorem atRest_iff (s : State) : atRest s = true ↔
    s.round.state = .idle
    ∧ (∀ r, (s.robotConfig r).registered = true →
        (s.robot r).activity = .docked ∨ (s.robot r).activity = .withdrawn ∨ s.robotLinkState r = .lost)
    ∧ ∀ k, (s.shuttleConfig k).registered = true → (s.shuttle k).state ≠ .withdrawn →
        ((s.shuttle k).state = .idle ∨ (s.shuttle k).state = .fault) ∧ (s.shuttle k).carried = none := by
  simp only [atRest, Bool.and_eq_true, List.all_eq_true, allRobots, allShuttles, List.mem_finRange, true_imp_iff,
    Bool.or_eq_true, Bool.not_eq_true', beq_iff_eq, Option.isNone_iff_eq_none, and_assoc]
  refine and_congr_right fun _ => and_congr (forall_congr' fun r => ?_) (forall_congr' fun k => ?_)
  · rw [imp_iff_not_or, Bool.not_eq_true, or_assoc, or_assoc]
  · rw [imp_iff_not_or, imp_iff_not_or, Bool.not_eq_true, not_not, or_assoc]

/-- A SETUP request in RUN gives what `requestSetup` gives on the state with the bits taken. -/
theorem act_setupRequest (page : Bool) (hr : s.resetHeld = false) (hm : (afterWrite s).modes.mode = .run) :
    act (registerWrite (controlWrite false page)) s = .next (commit s (requestSetup
      { afterWrite s with board := { (afterWrite s).board with modeRequest := false, statusPage := page } })) := by
  have hc := controlWrite_setup page hm
  rw [← hc]
  exact registerWrite_quiet _ hr (by rw [hc, requestSetup_agenda]; rfl)

/-- Settles O5: the writes that ask for no SETUP in RUN, the fleet at rest, and the SETUP requests in RUN. -/
theorem controlWrites : Obligations.ControlWrites := by
  unfold Obligations.ControlWrites
  refine ⟨fun s request page hr hn => ?_, atRest_iff, fun s page hr hm => ?_⟩
  · have hact : act (registerWrite (controlWrite request page)) s = _ :=
      registerWrite_quiet _ hr (by rw [controlWrite_eq request page hn]; rfl)
    rw [controlWrite_eq request page hn] at hact
    refine ⟨hact, fun h => ?_, fun h => ?_⟩ <;> subst h
    · exact hact
    · exact hact
  · intro u c hc
    have hact : exec c s = .next (commit s (requestSetup u)) := by
      rcases List.mem_cons.1 hc with rfl | hc
      · exact act_setupRequest page hr hm
      · rw [List.mem_singleton.1 hc]; exact act_setupRequest page hr hm
    rw [hact]
    exact ⟨fun hw => by rw [requestSetup_waiting hw], fun hw ha => by rw [requestSetup_refused hw ha],
      fun hw ha hk => by rw [requestSetup_sending hw ha hk], fun hw ha hk => by rw [requestSetup_taken hw ha hk]⟩

end Sys2Proof.Machine
end

section
/-!
What a write to ABORT does to each slot, and what the jobs that own the orders do (O7).
-/

namespace Sys2Proof.Machine

variable {s t u : State} {n : SlotIx} {k : ShuttleIx}

/-! ### One bit of an ABORT write (R14) -/

theorem exec_abort (mask : Word) (h : s.resetHeld = false) :
    exec (.abort mask) s = .next (drain (commit s (abortMask mask (afterWrite s)))) := by
  show act (registerWrite (abortMask mask)) s = _
  rw [act_eq _ h, registerWrite_eq]

theorem abortSlot_other (h : (s.slot n).state ≠ .held) : abortSlot n s = s := if_neg h

theorem abortSlot_queued (h : (s.slot n).state = .held) (hq : n ∈ s.board.intake) :
    abortSlot n s = abortQueued n s := by
  rw [abortSlot, if_pos h, if_pos (List.contains_iff_mem.2 hq)]

theorem abortSlot_taken (h : (s.slot n).state = .held) (hq : n ∉ s.board.intake) : abortSlot n s
    = if (s.slot n).abortRequested then s else actOnAbort n (modSlot n (fun x => { x with abortRequested := true }) s) := by
  rw [abortSlot, if_pos h, if_neg fun hc => hq (List.contains_iff_mem.1 hc)]

/-! ### The job that owns the order (R14) -/

theorem actOnAbort_scan (h : ∃ o ∈ s.scanner.orders, o.slot = n) : actOnAbort n s = abortScanOrder n s := by
  rw [actOnAbort, if_pos (by simpa using h)]

theorem actOnAbort_noScan (h : ∀ o ∈ s.scanner.orders, o.slot ≠ n) : actOnAbort n s
    = if s.farm.closeSlot = some n then abortClose n s
      else if allAlerts.any fun a => (s.alert a).heldSlot == some n then abortPark n s
      else abortTransfer n s := by
  rw [actOnAbort, if_neg (by simpa using h)]

theorem abortClose_waiting (h : ∀ sc, s.scanner.scan = some sc → sc.telling = false) :
    abortClose n s = answer n .aborted 0 [] (modFarm (fun x => { x with closeSlot := none }) s) := by
  unfold abortClose
  split
  · rename_i sc hsc
    rw [h sc hsc]
    rfl
  · rfl

theorem abortClose_telling {sc : Scan} (h : s.scanner.scan = some sc) (ht : sc.telling = true) :
    abortClose n s = s := by
  simp [abortClose, h, ht]

theorem abortPark_held {a : AlertIx} (h : (s.alert a).heldSlot = some n)
    (hfirst : ∀ b : AlertIx, b < a → (s.alert b).heldSlot ≠ some n) :
    abortPark n s = answer n .aborted 0 [] (modAlert a (fun x => { x with heldSlot := none }) s) := by
  have hfind : allAlerts.find? (fun a => (s.alert a).heldSlot == some n) = some a :=
    find?_finRange_eq_some_iff.2 ⟨by simpa using h, fun b hb => by simpa using hfirst b hb⟩
  simp only [abortPark, hfind, answerHeld, h]

theorem any_heldSlot_iff : (allAlerts.any fun a => (s.alert a).heldSlot == some n) = true
    ↔ ∃ a, (s.alert a).heldSlot = some n := by
  simp [allAlerts]

/-- R14: an order that no other job holds is the arbiter's. -/
theorem actOnAbort_transfer (hs : ∀ o ∈ s.scanner.orders, o.slot ≠ n) (hc : s.farm.closeSlot ≠ some n)
    (ha : ∀ a, (s.alert a).heldSlot ≠ some n) : actOnAbort n s = abortTransfer n s := by
  rw [actOnAbort_noScan hs, if_neg hc, if_neg fun h => (any_heldSlot_iff.1 h).elim ha]

/-! ### One shuttle's part in an abort (R164) -/

/-- What the shuttle that serves the order in slot n does with the abort request. -/
def abortServed (n : SlotIx) (k : ShuttleIx) (s : State) : State :=
  match (s.shuttle k).inService with
  | none => s
  | some t =>
    if t.origin = some n then
      match t.stage with
      | .fetch => becomeIdle k (cancelFetch k t 0 (commandShuttle k .halt s))
      | .board => abortBoard k t 0 s
      | .carry | .alight => s
    else s

theorem abortServed_other (h : ∀ x, (s.shuttle k).inService = some x → x.origin ≠ some n) : abortServed n k s = s := by
  unfold abortServed
  split
  · rfl
  · rename_i x hx
    exact if_neg (h x hx)

theorem abortServed_eq {x : Transfer} (h : (s.shuttle k).inService = some x) (ho : x.origin = some n) :
    abortServed n k s = match x.stage with
      | .fetch => becomeIdle k (cancelFetch k x 0 (commandShuttle k .halt s))
      | .board => abortBoard k x 0 s
      | .carry | .alight => s := by
  unfold abortServed
  split
  · rename_i hn; rw [h] at hn; cases hn
  · rename_i y hy
    obtain rfl : x = y := Option.some.inj (h.symm.trans hy)
    exact if_pos ho

theorem abortTransfer_unqueued (h : ∀ j, ∀ y ∈ (s.shuttle j).queue, y.origin ≠ some n) :
    abortTransfer n s = forEach allShuttles (abortServed n) s := by
  have hfind : allShuttles.find? (fun k => (s.shuttle k).queue.any fun q => q.origin == some n) = none :=
    List.find?_eq_none.2 fun j _ => by simpa using h j
  unfold abortTransfer
  rw [hfind]
  rfl

theorem forEach_id {α : Type} {f : α → State → State} {xs : List α} (h : ∀ x ∈ xs, f x s = s) : forEach xs f s = s := by
  induction xs with
  | nil => rfl
  | cons x rest ih =>
    show forEach rest f (f x s) = s
    rw [h x List.mem_cons_self]
    exact ih fun y hy => h y (List.mem_cons_of_mem x hy)

/-- An update that only one element of a list brings about. -/
theorem forEach_single {α : Type} {f : α → State → State} {xs : List α} {x : α} (hx : x ∈ xs) (hn : xs.Nodup)
    (before : ∀ y, y ≠ x → f y s = s) (after : ∀ y, y ≠ x → f y (f x s) = f x s) : forEach xs f s = f x s := by
  obtain ⟨as, bs, rfl⟩ := List.append_of_mem hx
  have hnot := List.nodup_middle.1 hn |>.notMem
  have hleft : forEach as f s = s :=
    forEach_id fun y hy => before y fun e => hnot (List.mem_append_left bs (e ▸ hy))
  have hright : forEach bs f (f x s) = f x s :=
    forEach_id fun y hy => after y fun e => hnot (List.mem_append_right as (e ▸ hy))
  calc forEach (as ++ x :: bs) f s = forEach bs f (f x (forEach as f s)) := by
        simp only [forEach, List.foldl_append, List.foldl_cons]
    _ = f x s := by rw [hleft, hright]

/-- R164: an order in service at one shuttle alone. -/
theorem abortTransfer_served (hq : ∀ j, ∀ y ∈ (s.shuttle j).queue, y.origin ≠ some n)
    (ho : ∀ j, j ≠ k → ∀ y, (s.shuttle j).inService = some y → y.origin ≠ some n)
    (hk : ∀ j, j ≠ k → (abortServed n k s).shuttle j = s.shuttle j) : abortTransfer n s = abortServed n k s := by
  rw [abortTransfer_unqueued hq]
  refine forEach_single (List.mem_finRange k) (List.nodup_finRange 8) (fun j hj => abortServed_other (ho j hj))
    fun j hj => abortServed_other ?_
  rw [hk j hj]
  exact ho j hj

/-! ### A command set (R65) -/

theorem setCommand_frame (i : LinkId) (cmd : Cmd) (owner : Owner) (s : State) : setCommand i cmd owner s
    = { s with link := (setCommand i cmd owner s).link, agenda := (setCommand i cmd owner s).agenda } := by
  unfold setCommand
  dsimp only
  split
  · split
    · rfl
    · split
      · rfl
      · split <;> rfl
  · rfl

theorem setCommand_shuttle (i : LinkId) (cmd : Cmd) (owner : Owner) (s : State) (j : ShuttleIx) :
    (setCommand i cmd owner s).shuttle j = s.shuttle j := by
  rw [setCommand_frame]
  rfl

theorem LinkEntry.withCommand_command (e : LinkEntry) (cmd : Cmd) (owner : Owner) :
    ∃ p, (e.withCommand cmd owner).command = some p ∧ p.cmd = cmd ∧ p.owner = owner := by
  unfold LinkEntry.withCommand
  split <;> exact ⟨_, rfl, rfl, rfl⟩

theorem modEntry_entry (i : LinkId) (f : LinkEntry → LinkEntry) (s : State) : (modEntry i f s).entry i = f (s.entry i) := by
  simp [State.entry]

theorem Commanded.congr {i : LinkId} {cmd : Cmd} {owner : Owner} (h : Commanded s i cmd owner) (hl : t.link = s.link) :
    Commanded t i cmd owner := by
  unfold Commanded State.entry at h ⊢
  rwa [hl]

theorem commanded_withCommand (i : LinkId) (cmd : Cmd) (owner : Owner) (s : State) :
    Commanded (modEntry i (fun e => e.withCommand cmd owner) s) i cmd owner := fun _ => by
  rw [modEntry_entry]
  exact (s.entry i).withCommand_command cmd owner

/-- R65: a command set is the pending command of a station that is polled. -/
theorem setCommand_commanded (i : LinkId) (cmd : Cmd) (owner : Owner) (s : State) :
    Commanded (setCommand i cmd owner s) i cmd owner := by
  unfold setCommand
  dsimp only
  split
  · split
    · exact commanded_withCommand i cmd owner s
    · rename_i p _
      split
      · rename_i he
        intro _
        rw [modEntry_entry]
        exact ⟨_, rfl, he.1, he.2⟩
      · split
        · exact commanded_withCommand i cmd owner s
        · exact (commanded_withCommand i cmd owner s).congr rfl
  · rename_i hpoll
    exact fun h => absurd h hpoll

/-! ### A shuttle that becomes IDLE, or TO SHELTER (R145, R166) -/

theorem becomeIdle_calm (h : blockSheltered s (s.shuttleConfig k).block = false) : becomeIdle k s
    = push (.startRule k) (modShuttle k (fun x => { x with state := .idle, deadline := none, goAcknowledged := false }) s) :=
  if_neg (by rw [shuttleBlock, h]; decide)

theorem becomeIdle_sheltered (h : blockSheltered s (s.shuttleConfig k).block = true) :
    becomeIdle k s = goToShelter k s := if_pos h

theorem modShuttle_shuttle (k : ShuttleIx) (f : Shuttle → Shuttle) (s : State) (j : ShuttleIx) :
    (modShuttle k f s).shuttle j = if j = k then f (s.shuttle j) else s.shuttle j := by
  unfold State.shuttle
  rw [modShuttle_shuttles, tget_tset]
  split
  · rename_i e; rw [e]
  · rfl

theorem modShuttle_modShuttle (k : ShuttleIx) (f g : Shuttle → Shuttle) (s : State) :
    modShuttle k g (modShuttle k f s) = modShuttle k (fun x => g (f x)) s := by
  have hshuttles : (modShuttle k g (modShuttle k f s)).shuttles = (modShuttle k (fun x => g (f x)) s).shuttles :=
    table_ext fun j => by
      show (modShuttle k g (modShuttle k f s)).shuttle j = (modShuttle k (fun x => g (f x)) s).shuttle j
      simp only [modShuttle_shuttle]
      split <;> rfl
  calc modShuttle k g (modShuttle k f s)
      = { s with shuttles := (modShuttle k g (modShuttle k f s)).shuttles } := rfl
    _ = modShuttle k (fun x => g (f x)) s := by rw [hshuttles]; rfl

/-- R153: when the drive to the shelter runs out. -/
def shelterDeadline (k : ShuttleIx) (s : State) : Nat :=
  later s (driveTimeout (driveDistance (s.shuttle k).road (s.shuttleConfig k).shelter) (s.shuttleConfig k).speed)

theorem goToShelter_eq (k : ShuttleIx) (s : State) : goToShelter k s
    = commandShuttle k (.shuttleGo (s.shuttleConfig k).shelter .shelter) (modShuttle k (fun x =>
        { x with state := .toShelter, deadline := some (shelterDeadline k s), goAcknowledged := false }) s) := by
  unfold goToShelter startDrive
  dsimp only
  rw [modShuttle_modShuttle, modShuttle_shuttle, if_pos rfl]
  rfl

/-- What a shuttle that becomes IDLE, or goes to its shelter, leaves as it was. -/
structure IdleKeeps (k : ShuttleIx) (s t : State) : Prop where
  board : t.board = s.board
  memory : t.memory = s.memory
  rows : t.rows = s.rows
  transfer : (t.shuttle k).transfer = (s.shuttle k).transfer
  queue : (t.shuttle k).queue = (s.shuttle k).queue
  others : ∀ j, j ≠ k → t.shuttle j = s.shuttle j

theorem becomeIdle_keeps (k : ShuttleIx) (s : State) : IdleKeeps k s (becomeIdle k s) := by
  cases h : blockSheltered s (s.shuttleConfig k).block
  · rw [becomeIdle_calm h]
    constructor <;> simp +contextual [State.shuttle]
  · rw [becomeIdle_sheltered h, goToShelter_eq, commandShuttle, setCommand_frame]
    constructor <;> simp +contextual [State.shuttle]

/-! ### A transfer given up in FETCH (R164) -/

theorem cancelFetch_eq {x : Transfer} (ho : x.origin = some n) (d : Nat) (s : State) : cancelFetch k x d s
    = let v := answer n .aborted d [] (emptyTransfer k (releaseRow x.destination x.robot s))
      { v with agenda := v.agenda
          ++ if x.cls = .round then [.transferReport x.robot x.destination .cancelled] else [] } := by
  unfold cancelFetch finishTransfer answerTransfer
  rw [ho]
  dsimp only [TransferOutcome.report]
  generalize answer n .aborted d [] _ = v
  by_cases hc : x.cls = .round
  · rw [if_pos (Or.inl hc), if_pos hc]
    rfl
  · rw [if_neg (by simp [hc]), if_neg hc, List.append_nil]

/-- R164: the transfer in FETCH is given up and its shuttle sent HALT. -/
def givenUp (k : ShuttleIx) (x : Transfer) (s : State) : State := cancelFetch k x 0 (commandShuttle k .halt s)

/-- R11, R41: what is left of a transfer given up in FETCH. -/
theorem givenUp_frame {x : Transfer} (ho : x.origin = some n) (s : State) : givenUp k x s
    = { answer n .aborted 0 [] (emptyTransfer k (releaseRow x.destination x.robot s)) with
        link := (commandShuttle k .halt s).link, agenda := (givenUp k x s).agenda } := by
  unfold givenUp commandShuttle
  rw [cancelFetch_eq ho, setCommand_frame]
  rfl

theorem answer_answeredWith (n : SlotIx) (cls : AnswerClass) (d : Nat) (ws : List Word)
    (hwf : Memory.wf s.memory = true) : AnsweredWith (answer n cls d ws s) n cls.code d := by
  refine ⟨?_, answer_mem_word n cls d ws hwf (i := 0) (by decide), answer_mem_word n cls d ws hwf (i := 1) (by decide)⟩
  rw [answer_slot, if_pos rfl]

theorem AnsweredWith.congr {cls d : Nat} (h : AnsweredWith s n cls d) (hb : t.board = s.board)
    (hm : t.memory = s.memory) : AnsweredWith t n cls d := by
  unfold AnsweredWith State.slot State.mem at h ⊢
  rwa [hb, hm]

theorem givenUp_answered {x : Transfer} (ho : x.origin = some n) (hwf : Memory.wf s.memory = true) :
    AnsweredWith (givenUp k x s) n 3 0 := by
  have hm : Memory.wf (emptyTransfer k (releaseRow x.destination x.robot s)).memory = true := hwf
  have ha : AnsweredWith (answer n .aborted 0 [] (emptyTransfer k (releaseRow x.destination x.robot s))) n 3 0 :=
    answer_answeredWith n .aborted 0 [] hm
  rw [givenUp_frame ho]
  generalize answer n .aborted 0 [] (emptyTransfer k (releaseRow x.destination x.robot s)) = v at ha ⊢
  exact ha.congr rfl rfl

theorem givenUp_shuttle {x : Transfer} (ho : x.origin = some n) (s : State) (j : ShuttleIx) :
    (givenUp k x s).shuttle j = if j = k then { s.shuttle j with transfer := none } else s.shuttle j := by
  have hm : (emptyTransfer k (releaseRow x.destination x.robot s)).shuttle j = _ := modShuttle_shuttle k _ _ j
  rw [givenUp_frame ho]
  exact hm

theorem givenUp_row {x : Transfer} (ho : x.origin = some n) (s : State) (r : RowId) : (givenUp k x s).row r
    = (s.row r).releasedBy r [(x.destination, x.robot)] := by
  rw [givenUp_frame ho]
  show (releaseRow x.destination x.robot s).row r = _
  rw [releaseRow_eq]
  exact tget_tabulate _ r

theorem givenUp_commanded {x : Transfer} (ho : x.origin = some n) (s : State) :
    Commanded (givenUp k x s) (shuttleLink k) .halt .arbiter :=
  (setCommand_commanded (shuttleLink k) .halt .arbiter s).congr (by rw [givenUp_frame ho]; rfl)

theorem givenUp_plant {x : Transfer} (ho : x.origin = some n) (s : State) : (givenUp k x s).plant = s.plant := by
  rw [givenUp_frame ho]
  rfl

theorem blockSheltered_congr (hp : t.plant = s.plant) (hr : ∀ r, (t.row r).sheltered = (s.row r).sheltered) (b : Nat) :
    blockSheltered t b = blockSheltered s b := by
  unfold blockSheltered inBlock State.site
  simp only [hp, hr]

theorem blockSheltered_givenUp {x : Transfer} (ho : x.origin = some n) (s : State) (b : Nat) :
    blockSheltered (givenUp k x s) b = blockSheltered s b :=
  blockSheltered_congr (givenUp_plant ho s) (fun r => by rw [givenUp_row ho]; rfl) b

/-- R164: an order in FETCH. -/
theorem abortServed_fetch {x : Transfer} (hx : (s.shuttle k).inService = some x) (ho : x.origin = some n)
    (hs : x.stage = .fetch) : abortServed n k s = becomeIdle k (givenUp k x s) := by
  rw [abortServed_eq hx ho, hs]
  rfl

theorem abortFetch_keeps {x : Transfer} (ho : x.origin = some n) (hwf : Memory.wf s.memory = true) :
    let t := becomeIdle k (givenUp k x s)
    AnsweredWith t n 3 0 ∧ (t.shuttle k).transfer = none ∧ (t.row x.destination).reserved ≠ some x.robot
      ∧ (t.shuttle k).queue = (s.shuttle k).queue := by
  have hidle := becomeIdle_keeps k (givenUp k x s)
  have hk := givenUp_shuttle (k := k) ho s k
  rw [if_pos rfl] at hk
  refine ⟨(givenUp_answered ho hwf).congr hidle.board hidle.memory, ?_, ?_, ?_⟩
  · rw [hidle.transfer, hk]
  · have hrow : (becomeIdle k (givenUp k x s)).row x.destination = (givenUp k x s).row x.destination := by
      rw [State.row, hidle.rows]; rfl
    rw [hrow, givenUp_row ho]
    simp only [Row.releasedBy, List.mem_singleton, exists_eq_left, true_and]
    split <;> simp_all
  · rw [hidle.queue, hk]

theorem abortFetch_calm {x : Transfer} (ho : x.origin = some n)
    (hb : blockSheltered s (s.shuttleConfig k).block = false) :
    let t := becomeIdle k (givenUp k x s)
    (t.shuttle k).state = .idle ∧ (t.shuttle k).deadline = none ∧ Commanded t (shuttleLink k) .halt .arbiter
      ∧ ∃ told, t.agenda = told ++ [.startRule k] := by
  have hw : blockSheltered (givenUp k x s) ((givenUp k x s).shuttleConfig k).block = false := by
    rw [blockSheltered_givenUp ho, State.shuttleConfig, givenUp_plant ho]
    exact hb
  dsimp only
  rw [becomeIdle_calm hw]
  refine ⟨?_, ?_, (givenUp_commanded ho s).congr rfl, _, rfl⟩
  · simp [State.shuttle]
  · simp [State.shuttle]

theorem abortFetch_sheltered {x : Transfer} (ho : x.origin = some n)
    (hb : blockSheltered s (s.shuttleConfig k).block = true) :
    let t := becomeIdle k (givenUp k x s)
    (t.shuttle k).state = .toShelter
      ∧ Commanded t (shuttleLink k) (.shuttleGo (s.shuttleConfig k).shelter .shelter) .arbiter := by
  have hc : (givenUp k x s).shuttleConfig k = s.shuttleConfig k := by
    rw [State.shuttleConfig, givenUp_plant ho]; rfl
  have hw : blockSheltered (givenUp k x s) ((givenUp k x s).shuttleConfig k).block = true := by
    rw [blockSheltered_givenUp ho, hc]
    exact hb
  dsimp only
  rw [becomeIdle_sheltered hw, goToShelter_eq, hc]
  refine ⟨?_, setCommand_commanded _ _ _ _⟩
  rw [commandShuttle, setCommand_frame]
  simp [State.shuttle]

/-! ### A transfer in BOARD (R164) -/

theorem abortBoard_pending {x : Transfer} (h : x.aborting ≠ none) (d : Nat) : abortBoard k x d s = s :=
  if_pos (Option.isSome_iff_ne_none.2 h)

theorem abortBoard_begun {x : Transfer} (h : x.aborting = none) (d : Nat) : abortBoard k x d s
    = commandRobot x.robot .gotoDock .arbiter
        (modShuttle k (fun y => { y with transfer := some { x with aborting := some d } }) s) :=
  if_neg (by simp [h])

/-! ### A request in a queue (R164) -/

theorem filterMap_finRange_single {α : Type} {m : Nat} (i : Fin m) (a : Fin m → α) :
    ((List.finRange m).filterMap fun j => if j = i then some (a j) else none) = [a i] := by
  have hfilter : (List.finRange m).filter (fun j => decide (j = i)) = [i] := by
    rw [List.filter_eq, List.count_eq_one_of_mem (List.nodup_finRange m) (List.mem_finRange i)]
    rfl
  calc ((List.finRange m).filterMap fun j => if j = i then some (a j) else none)
      = ((List.finRange m).filter fun j => decide (j = i)).filterMap (some ∘ a) := by simp [List.filterMap_filter]
    _ = [a i] := by rw [hfilter]; rfl

theorem origin_of_filter {qs : List Request} {q : Request} (h : qs.filter (fun y => decide (y.origin = some n)) = [q]) :
    q ∈ qs ∧ q.origin = some n := by
  have hq : q ∈ qs.filter (fun y => decide (y.origin = some n)) := h ▸ List.mem_singleton_self q
  simpa using hq

/-- R147, R164: the one request of the order in slot n leaves its queue. -/
theorem dropRequests_order {q : Request} (hg : (s.shuttle k).queue.filter (fun y => decide (y.origin = some n)) = [q])
    (hc : q.cls = .host) : dropRequests k (fun y => y.origin == some n) (.cancelled 0) s
    = let v := answer n .aborted 0 [] (releaseRow q.destination q.robot (markRewrite (.shuttle k)
        (modShuttle k (fun x => { x with queue := (s.shuttle k).queue.filter fun y => decide (y.origin ≠ some n) }) s)))
      push (.startRule k) (leftFullQueue (s.shuttle k).queue.length k v) := by
  have ho : q.origin = some n := (origin_of_filter hg).2
  have hgone : (s.shuttle k).queue.filter (fun y => y.origin == some n) = [q] := by
    rw [← hg]
    exact List.filter_congr fun y _ => Bool.eq_iff_iff.2 (by simp)
  have hstay : (s.shuttle k).queue.filter (fun y => !(y.origin == some n))
      = (s.shuttle k).queue.filter fun y => decide (y.origin ≠ some n) :=
    List.filter_congr fun y _ => Bool.eq_iff_iff.2 (by simp)
  have hanswers : (allSlots.filterMap fun m => ([q].find? fun y => y.origin == some m).map fun y => (m, y))
      = [(n, q)] := by
    rw [← filterMap_finRange_single n fun m => (m, q)]
    exact List.filterMap_congr fun m _ => by
      by_cases e : m = n <;> simp [ho, e, Ne.symm]
  have hround : [q].filter (fun y => y.cls == .round) = [] := by simp [hc]
  simp only [dropRequests, hgone, hanswers, hround, hstay]
  rfl

theorem abortTransfer_queued {q : Request} (hfirst : ∀ j, j < k → ∀ y ∈ (s.shuttle j).queue, y.origin ≠ some n)
    (hg : (s.shuttle k).queue.filter (fun y => decide (y.origin = some n)) = [q]) :
    abortTransfer n s = dropRequests k (fun y => y.origin == some n) (.cancelled 0) s := by
  obtain ⟨hq, ho⟩ := origin_of_filter hg
  have hfind : allShuttles.find? (fun k => (s.shuttle k).queue.any fun y => y.origin == some n) = some k :=
    find?_finRange_eq_some_iff.2 ⟨List.any_eq_true.2 ⟨q, hq, by simp [ho]⟩, fun j hj => by simpa using hfirst j hj⟩
  unfold abortTransfer
  rw [hfind]

theorem leftFullQueue_eq (b : Nat) (k : ShuttleIx) (s : State) : leftFullQueue b k s
    = { s with agenda := s.agenda ++ if b = 8 then [.examineBlock (s.shuttleConfig k).block] else [] } := by
  unfold leftFullQueue
  split
  · rfl
  · rw [List.append_nil]

/-! ### The statement -/

/-- R14: a slot's bit, case by case. -/
theorem abortSlot_cases (n : SlotIx) (u : State) :
    ((u.slot n).state ≠ .held → abortSlot n u = u)
    ∧ ((u.slot n).state = .held → n ∈ u.board.intake → abortSlot n u = answer n .aborted 0 []
        { u with board := { u.board with
            slots := tset u.board.slots n { u.slot n with tag := u.mem (slotBase n + 1) } } })
    ∧ ((u.slot n).state = .held → n ∉ u.board.intake → (u.slot n).abortRequested = true → abortSlot n u = u)
    ∧ ((u.slot n).state = .held → n ∉ u.board.intake → (u.slot n).abortRequested = false →
        abortSlot n u = actOnAbort n
          { u with board := { u.board with
              slots := tset u.board.slots n { u.slot n with abortRequested := true } } }) := by
  refine ⟨abortSlot_other, fun h hq => abortSlot_queued h hq, fun h hq hr => ?_, fun h hq hr => ?_⟩
  · rw [abortSlot_taken h hq, if_pos hr]
  · rw [abortSlot_taken h hq, if_neg (by rw [hr]; decide)]
    rfl

/-- R88, R107, R189, R141: the jobs but the arbiter. -/
theorem actOnAbort_cases (n : SlotIx) (u : State) :
    ((∃ o ∈ u.scanner.orders, o.slot = n) →
      actOnAbort n u = answer n .aborted 0 []
        { u with scanner := { u.scanner with orders := u.scanner.orders.filter fun o => decide (o.slot ≠ n) } })
    ∧ ((∀ o ∈ u.scanner.orders, o.slot ≠ n) → u.farm.closeSlot = some n →
        (∀ sc, u.scanner.scan = some sc → sc.telling = false) →
        actOnAbort n u = answer n .aborted 0 [] { u with farm := { u.farm with closeSlot := none } })
    ∧ (∀ sc, (∀ o ∈ u.scanner.orders, o.slot ≠ n) → u.farm.closeSlot = some n → u.scanner.scan = some sc →
        sc.telling = true → actOnAbort n u = u)
    ∧ ((∀ o ∈ u.scanner.orders, o.slot ≠ n) → u.farm.closeSlot ≠ some n →
        ∀ a : AlertIx, (u.alert a).heldSlot = some n → (∀ b : AlertIx, b < a → (u.alert b).heldSlot ≠ some n) →
          actOnAbort n u = answer n .aborted 0 []
            { u with alerts := tset u.alerts a { u.alert a with heldSlot := none } })
    ∧ ((∀ o ∈ u.scanner.orders, o.slot ≠ n) → u.farm.closeSlot ≠ some n → (∀ a, (u.alert a).heldSlot ≠ some n) →
        (∀ k, (∀ q ∈ (u.shuttle k).queue, q.origin ≠ some n)
          ∧ ∀ x, (u.shuttle k).inService = some x → x.origin ≠ some n) → actOnAbort n u = u) := by
  refine ⟨fun h => actOnAbort_scan h, fun hs hc ht => ?_, fun sc hs hc hscan ht => ?_, fun hs hc a ha hb => ?_,
    fun hs hc ha hk => ?_⟩
  · rw [actOnAbort_noScan hs, if_pos hc, abortClose_waiting ht]
    rfl
  · rw [actOnAbort_noScan hs, if_pos hc, abortClose_telling hscan ht]
  · rw [actOnAbort_noScan hs, if_neg hc, if_pos (any_heldSlot_iff.2 ⟨a, ha⟩), abortPark_held ha hb]
    rfl
  · rw [actOnAbort_transfer hs hc ha, abortTransfer_unqueued fun j => (hk j).1]
    exact forEach_id fun j _ => abortServed_other (hk j).2

/-- R164: a MOVE ROBOT in a queue. -/
theorem abortTransfer_queued_eq {q : Request} (hfirst : ∀ j, j < k → ∀ y ∈ (u.shuttle j).queue, y.origin ≠ some n)
    (hg : (u.shuttle k).queue.filter (fun y => decide (y.origin = some n)) = [q]) (hc : q.cls = .host) :
    let x := u.row q.destination
    let v := answer n .aborted 0 [] (markRewrite (.shuttle k)
      { u with
        shuttles := tset u.shuttles k
          { u.shuttle k with queue := (u.shuttle k).queue.filter fun y => decide (y.origin ≠ some n) }
        rows := tset u.rows q.destination
          { x with reserved := if x.reserved = some q.robot then none else x.reserved } })
    abortTransfer n u = { v with agenda := u.agenda
      ++ (if (u.shuttle k).queue.length = 8 then [.examineBlock (u.shuttleConfig k).block] else [])
      ++ [.startRule k] } := by
  intro x v
  rw [abortTransfer_queued hfirst hg, dropRequests_order hg hc]
  have hagenda : v.agenda = u.agenda := rfl
  have hplant : v.plant = u.plant := rfl
  show push (.startRule k) (leftFullQueue (u.shuttle k).queue.length k v) = _
  clear_value v
  rw [leftFullQueue_eq, hagenda, State.shuttleConfig, hplant]
  rfl

/-- R164: an order in BOARD. -/
theorem abortServed_board {x : Transfer} (hx : (u.shuttle k).inService = some x) (ho : x.origin = some n)
    (hs : x.stage = .board) : abortServed n k u = abortBoard k x 0 u :=
  (abortServed_eq hx ho).trans (by rw [hs])

/-- R164: an order in CARRY or ALIGHT. -/
theorem abortServed_aboard {x : Transfer} (hx : (u.shuttle k).inService = some x) (ho : x.origin = some n)
    (hs : x.stage = .carry ∨ x.stage = .alight) : abortServed n k u = u :=
  (abortServed_eq hx ho).trans (by rcases hs with h | h <;> rw [h])

theorem abortBoard_shuttle {x : Transfer} (h : x.aborting = none) (d : Nat) (j : ShuttleIx) :
    (abortBoard k x d u).shuttle j
      = if j = k then { u.shuttle j with transfer := some { x with aborting := some d } } else u.shuttle j := by
  rw [abortBoard_begun h, commandRobot, setCommand_shuttle, modShuttle_shuttle]

/-- R164: the robot is sent to its dock and the order waits. -/
theorem abortBoard_waits {x : Transfer} (h : x.aborting = none) (n : SlotIx) :
    ((abortBoard k x 0 u).shuttle k).transfer = some { x with aborting := some 0 }
      ∧ (abortBoard k x 0 u).slot n = u.slot n ∧ (abortBoard k x 0 u).memory = u.memory
      ∧ Commanded (abortBoard k x 0 u) (robotLink x.robot) .gotoDock .arbiter := by
  refine ⟨?_, ?_, ?_, ?_⟩
  · rw [abortBoard_shuttle h, if_pos rfl]
  · rw [abortBoard_begun h, commandRobot, setCommand_frame]
    rfl
  · rw [abortBoard_begun h, commandRobot, setCommand_frame]
    rfl
  · rw [abortBoard_begun h]
    exact setCommand_commanded _ _ _ _

/-- What an abort in service at one shuttle leaves of the others. -/
theorem abortServed_others {x : Transfer} (hx : (u.shuttle k).inService = some x) (ho : x.origin = some n) (j : ShuttleIx)
    (hj : j ≠ k) : (abortServed n k u).shuttle j = u.shuttle j := by
  cases hs : x.stage
  case fetch =>
    rw [abortServed_fetch hx ho hs, (becomeIdle_keeps k _).others j hj, givenUp_shuttle ho, if_neg hj]
  case board =>
    rw [abortServed_board hx ho hs]
    by_cases ha : x.aborting = none
    · rw [abortBoard_shuttle ha, if_neg hj]
    · rw [abortBoard_pending ha]
  case carry => rw [abortServed_aboard hx ho (.inl hs)]
  case alight => rw [abortServed_aboard hx ho (.inr hs)]

/-- Settles O7: the bits of a write, the jobs that own the orders, and a MOVE ROBOT in its queue or at its stage. -/
theorem abortWrites : Obligations.AbortWrites := by
  unfold Obligations.AbortWrites
  refine ⟨fun s mask h => ⟨exec_abort mask h, abortSlot_cases⟩, actOnAbort_cases, fun n u hwf hs hc ha => ?_⟩
  rw [actOnAbort_transfer hs hc ha]
  refine ⟨fun k q hfirst hg hh => abortTransfer_queued_eq hfirst hg hh, fun k x hq hx ho hother => ?_⟩
  rw [abortTransfer_served hq hother (abortServed_others hx ho)]
  refine ⟨fun hstage => ?_, fun hstage hnone => ?_, fun hstage hsome => ?_, abortServed_aboard hx ho⟩
  · rw [abortServed_fetch hx ho hstage]
    obtain ⟨hans, htr, hres, hqueue⟩ := abortFetch_keeps (k := k) ho hwf
    exact ⟨hans, htr, hres, hqueue, abortFetch_calm ho, abortFetch_sheltered ho⟩
  · rw [abortServed_board hx ho hstage]
    exact abortBoard_waits hnone n
  · rw [abortServed_board hx ho hstage]
    exact abortBoard_pending hsome 0

end Sys2Proof.Machine
end

section
/-!
SUPPORT. The placement ledger of a state (R41, R145, R147): what the places, the reservations and the transfers are, and
the operations of the part that leave it as it stands.
-/

namespace Sys2Proof.Machine

/-- The agenda holds no STATUS of a robot that reports WITHDRAWN, an activity that no code on the line spells (R203). -/
def Job.orderly : Job → Bool
  | .robotStatus _ rep _ => rep.activity != .withdrawn
  | _ => true

/-- What the ledger holds of a shuttle. -/
@[ext] structure Carrier where
  state : ShuttleState
  carried : Option RobotId
  transfer : Option Transfer
  queue : List Request

/-- What a shuttle record shows of places and transfers. -/
def Shuttle.carrier (x : Shuttle) : Carrier :=
  { state := x.state, carried := x.carried, transfer := x.transfer, queue := x.queue }

/-- What `PlacesLawful` speaks of: `retired` are the robots recorded WITHDRAWN. -/
@[ext] structure Ledger where
  occupant : RowId → Option RobotId
  reserved : RowId → Option RobotId
  place : RobotId → Place
  retired : RobotId → Bool
  carrier : ShuttleIx → Carrier
  orderly : Bool

def State.ledger (s : State) : Ledger :=
  { occupant := fun r => (tget s.rows r).occupant
    reserved := fun r => (tget s.rows r).reserved
    place := fun r => (tget s.robots r).place
    retired := fun r => (tget s.robots r).activity == .withdrawn
    carrier := fun k => (tget s.shuttles k).carrier
    orderly := s.agenda.all Job.orderly }

variable (s : State)

/-! ### The operations on a state's fields -/

theorem ledger_congr {s t : State} (h : ∀ r, (tget t.rows r).occupant = (tget s.rows r).occupant
      ∧ (tget t.rows r).reserved = (tget s.rows r).reserved)
    (hb : ∀ r, (tget t.robots r).place = (tget s.robots r).place
      ∧ ((tget t.robots r).activity == .withdrawn) = ((tget s.robots r).activity == .withdrawn))
    (hx : ∀ k, (tget t.shuttles k).carrier = (tget s.shuttles k).carrier)
    (ha : t.agenda.all Job.orderly = s.agenda.all Job.orderly) : t.ledger = s.ledger := by
  unfold State.ledger
  simp only [h, hb, hx, ha]

@[simp] theorem modRow_ledger (r : RowId) (f : Row → Row)
    (hf : (f (tget s.rows r)).occupant = (tget s.rows r).occupant
      ∧ (f (tget s.rows r)).reserved = (tget s.rows r).reserved) : (modRow r f s).ledger = s.ledger := by
  refine ledger_congr (fun x => ?_) (fun _ => ⟨rfl, rfl⟩) (fun _ => rfl) rfl
  rw [modRow_rows, tget_tset]
  split
  next h => exact h ▸ hf
  next => exact ⟨rfl, rfl⟩

@[simp] theorem modRobot_ledger (r : RobotId) (f : Robot → Robot)
    (hf : (f (tget s.robots r)).place = (tget s.robots r).place
      ∧ (f (tget s.robots r)).activity = (tget s.robots r).activity) :
    (modRobot r f s).ledger = s.ledger := by
  refine ledger_congr (fun _ => ⟨rfl, rfl⟩) (fun x => ?_) (fun _ => rfl) rfl
  rw [modRobot_robots, tget_tset]
  split
  next h => subst h; rw [hf.1, hf.2]; exact ⟨rfl, rfl⟩
  next => exact ⟨rfl, rfl⟩

@[simp] theorem modShuttle_ledger (k : ShuttleIx) (f : Shuttle → Shuttle)
    (hf : (f (tget s.shuttles k)).carrier = (tget s.shuttles k).carrier) : (modShuttle k f s).ledger = s.ledger := by
  refine ledger_congr (fun _ => ⟨rfl, rfl⟩) (fun _ => ⟨rfl, rfl⟩) (fun x => ?_) rfl
  rw [modShuttle_shuttles, tget_tset]
  split
  next h => exact h ▸ hf
  next => rfl

theorem orderly_of_ne {j : Job} (hj : ∀ r rep d, j ≠ .robotStatus r rep d) : j.orderly = true := by
  cases j
  case robotStatus r rep d => exact absurd rfl (hj r rep d)
  all_goals rfl

@[simp] theorem pushAll_ledger {js : List Job} (hj : ∀ j ∈ js, ∀ r rep d, j ≠ .robotStatus r rep d) :
    (pushAll js s).ledger = s.ledger :=
  ledger_congr (fun _ => ⟨rfl, rfl⟩) (fun _ => ⟨rfl, rfl⟩) (fun _ => rfl)
    (by rw [pushAll, List.all_append, List.all_eq_true.mpr fun j h => orderly_of_ne (hj j h), Bool.and_true])

@[simp] theorem push_ledger {j : Job} (hj : ∀ r rep d, j ≠ .robotStatus r rep d) : (push j s).ledger = s.ledger :=
  pushAll_ledger s (by simpa using hj)

theorem ledger_of_eq {s t : State} (hr : t.rows = s.rows) (hb : t.robots = s.robots) (hk : t.shuttles = s.shuttles)
    (ha : t.agenda = s.agenda) : t.ledger = s.ledger := by
  rw [State.ledger, State.ledger, hr, hb, hk, ha]

@[simp] theorem modStation_ledger (n : StationIx) (f : Station → Station) : (modStation n f s).ledger = s.ledger :=
  ledger_of_eq rfl rfl rfl rfl
@[simp] theorem modAlert_ledger (n : AlertIx) (f : Alert → Alert) : (modAlert n f s).ledger = s.ledger :=
  ledger_of_eq rfl rfl rfl rfl
@[simp] theorem modAnemometer_ledger (a : AnemIx) (f : Anemometer → Anemometer) :
    (modAnemometer a f s).ledger = s.ledger := ledger_of_eq rfl rfl rfl rfl
@[simp] theorem modContext_ledger (c : CtxIx) (f : Context → Context) : (modContext c f s).ledger = s.ledger :=
  ledger_of_eq rfl rfl rfl rfl
@[simp] theorem modEntry_ledger (i : LinkId) (f : LinkEntry → LinkEntry) : (modEntry i f s).ledger = s.ledger :=
  ledger_of_eq rfl rfl rfl rfl
@[simp] theorem modSlot_ledger (n : SlotIx) (f : Slot → Slot) : (modSlot n f s).ledger = s.ledger :=
  ledger_of_eq rfl rfl rfl rfl
@[simp] theorem modBoard_ledger (f : Board → Board) : (modBoard f s).ledger = s.ledger := ledger_of_eq rfl rfl rfl rfl
@[simp] theorem modModes_ledger (f : ModeUnit → ModeUnit) : (modModes f s).ledger = s.ledger :=
  ledger_of_eq rfl rfl rfl rfl
@[simp] theorem modLink_ledger (f : LinkUnit → LinkUnit) : (modLink f s).ledger = s.ledger :=
  ledger_of_eq rfl rfl rfl rfl
@[simp] theorem modScanner_ledger (f : Scanner → Scanner) : (modScanner f s).ledger = s.ledger :=
  ledger_of_eq rfl rfl rfl rfl
@[simp] theorem modFarm_ledger (f : Farm → Farm) : (modFarm f s).ledger = s.ledger := ledger_of_eq rfl rfl rfl rfl
@[simp] theorem modRound_ledger (f : Round → Round) : (modRound f s).ledger = s.ledger := ledger_of_eq rfl rfl rfl rfl
@[simp] theorem modPool_ledger (f : Pool → Pool) : (modPool f s).ledger = s.ledger := ledger_of_eq rfl rfl rfl rfl
@[simp] theorem modMirror_ledger (m : MirrorId) (f : Mirror → Mirror) : (modMirror m f s).ledger = s.ledger :=
  ledger_of_eq rfl rfl rfl rfl
@[simp] theorem markRewrite_ledger (m : MirrorId) : (markRewrite m s).ledger = s.ledger := ledger_of_eq rfl rfl rfl rfl
@[simp] theorem setNotice_ledger (n : Notice) : (setNotice n s).ledger = s.ledger := ledger_of_eq rfl rfl rfl rfl
@[simp] theorem advanceTo_ledger (t : Nat) : (advanceTo t s).ledger = s.ledger := ledger_of_eq rfl rfl rfl rfl
@[simp] theorem commit_ledger (t : State) : (commit s t).ledger = t.ledger := ledger_of_eq rfl rfl rfl rfl
@[simp] theorem answer_ledger (n : SlotIx) (cls : AnswerClass) (d : Nat) (ws : List Word) :
    (answer n cls d ws s).ledger = s.ledger := ledger_of_eq rfl rfl rfl rfl

@[simp] theorem forEach_ledger {α : Type} (xs : List α) {f : α → State → State}
    (hf : ∀ x t, (f x t).ledger = t.ledger) : (forEach xs f s).ledger = s.ledger := by
  unfold forEach
  induction xs generalizing s with
  | nil => rfl
  | cons x xs ih => exact (ih (f x s)).trans (hf x s)

@[simp] theorem ite_ledger {p : Prop} [Decidable p] (s t : State) :
    (if p then s else t).ledger = if p then s.ledger else t.ledger := apply_ite State.ledger p s t

@[simp] theorem setCommand_ledger (i : LinkId) (cmd : Cmd) (owner : Owner) :
    (setCommand i cmd owner s).ledger = s.ledger := by
  unfold setCommand
  dsimp only
  repeat' split
  all_goals simp

@[simp] theorem clearCommand_ledger (i : LinkId) : (clearCommand i s).ledger = s.ledger := by simp [clearCommand]

@[simp] theorem commandRobot_ledger (r : RobotId) (cmd : Cmd) (owner : Owner) :
    (commandRobot r cmd owner s).ledger = s.ledger := by simp [commandRobot]

@[simp] theorem commandShuttle_ledger (k : ShuttleIx) (cmd : Cmd) :
    (commandShuttle k cmd s).ledger = s.ledger := by simp [commandShuttle]

@[simp] theorem pushPark_ledger (n : AlertIx) : (pushPark n s).ledger = s.ledger := by simp [pushPark]

@[simp] theorem pushUrgent_ledger (i : LinkId) : (pushUrgent i s).ledger = s.ledger := by simp [pushUrgent]

@[simp] theorem moveHeldPark_ledger (n : AlertIx) : (moveHeldPark n s).ledger = s.ledger := by simp [moveHeldPark]

@[simp] theorem moveHeldMark_ledger (i : LinkId) : (moveHeldMark i s).ledger = s.ledger := by simp [moveHeldMark]

@[simp] theorem moveHeld_ledger : (moveHeld s).ledger = s.ledger := by simp [moveHeld]

@[simp] theorem emptyLink_ledger : (emptyLink s).ledger = s.ledger := by simp [emptyLink]

@[simp] theorem beginAddressed_ledger (i : LinkId) :
    (beginAddressed i s).ledger = s.ledger := by simp [beginAddressed]

@[simp] theorem beginBroadcast_ledger (code mask : Byte) :
    (beginBroadcast code mask s).ledger = s.ledger := by simp [beginBroadcast]

@[simp] theorem beginTurn_ledger : (beginTurn s).ledger = s.ledger := by
  unfold beginTurn
  dsimp only
  repeat' split
  all_goals simp

@[simp] theorem setErrorCount_ledger (i : LinkId) (n : Nat) : (setErrorCount i n s).ledger = s.ledger := by
  unfold setErrorCount
  split <;> simp

@[simp] theorem badReply_ledger (i : LinkId) : (badReply i s).ledger = s.ledger := by simp [badReply]

@[simp] theorem countNoise_ledger (i : LinkId) (noisy : Bool) :
    (countNoise i noisy s).ledger = s.ledger := by simp [countNoise]

@[simp] theorem acknowledge_ledger (i : LinkId) (p : PendingCommand) :
    (acknowledge i p s).ledger = s.ledger := by simp [acknowledge]

@[simp] theorem synchronise_ledger (i : LinkId) (echo : Byte) : (synchronise i echo s).ledger = s.ledger := by
  unfold synchronise
  dsimp only
  split <;> simp

@[simp] theorem compareEcho_ledger (i : LinkId) (echo : Byte) : (compareEcho i echo s).ledger = s.ledger := by
  unfold compareEcho
  split <;> simp

@[simp] theorem setBaseline_ledger (i : LinkId) (reading : Nat) :
    (setBaseline i reading s).ledger = s.ledger := by simp [setBaseline]

theorem ofReport_ne_withdrawn (n : Nat) : Activity.ofReport n ≠ .withdrawn := by
  unfold Activity.ofReport
  split <;> simp

theorem push_robotStatus_ledger (r : RobotId) {rep : RobotReport} (d : Nat) (h : rep.activity ≠ .withdrawn) :
    (push (.robotStatus r rep d) s).ledger = s.ledger :=
  ledger_congr (fun _ => ⟨rfl, rfl⟩) (fun _ => ⟨rfl, rfl⟩) (fun _ => rfl) (by
    rw [push, List.all_append, List.all_cons, show Job.orderly (.robotStatus r rep d) = true from bne_iff_ne.mpr h,
      List.all_nil, Bool.and_true, Bool.and_true])

/-- R203: what is delivered of a robot is never WITHDRAWN. -/
@[simp] theorem deliver_ledger (i : LinkId) (payload : List Byte) : (deliver i payload s).ledger = s.ledger := by
  unfold deliver
  dsimp only
  split
  · exact (push_robotStatus_ledger _ _ _ (ofReport_ne_withdrawn (byteAt payload 1))).trans (by simp)
  · simp

@[simp] theorem pushRepeatCheck_ledger (i : LinkId) (t : Turn) : (pushRepeatCheck i t s).ledger = s.ledger := by
  unfold pushRepeatCheck
  split <;> simp

@[simp] theorem checkRepeatLimit_ledger (i : LinkId) (q : Byte) : (checkRepeatLimit i q s).ledger = s.ledger := by
  unfold checkRepeatLimit
  split <;> simp

@[simp] theorem badTurn_ledger (i : LinkId) (t : Turn) : (badTurn i t s).ledger = s.ledger := by
  unfold badTurn
  split <;> simp

@[simp] theorem takeSample_ledger (n : StationIx) (sr : Nat) :
    (takeSample n sr s).ledger = s.ledger := by simp [takeSample]

@[simp] theorem recomputeDaily_ledger (r : RowId) : (recomputeDaily r s).ledger = s.ledger := by simp [recomputeDaily]

@[simp] theorem setTransmission_ledger (r : RowId) (tr : Nat) :
    (setTransmission r tr s).ledger = s.ledger := by simp [setTransmission]

@[simp] theorem surfaceReading_ledger (r : RobotId) (leg : Leg) (reading : Nat) :
    (surfaceReading r leg reading s).ledger = s.ledger := by
  unfold surfaceReading
  dsimp only
  split <;> simp

@[simp] theorem scoreRow_ledger (r : RowId) : (scoreRow r s).ledger = s.ledger := by simp [scoreRow]

@[simp] theorem passEffect_ledger (r : RowId) (c : Nat) : (passEffect r c s).ledger = s.ledger := by simp [passEffect]

@[simp] theorem robotEnergy_ledger (r : RobotId) (diff : Nat) : (robotEnergy r diff s).ledger = s.ledger := by
  unfold robotEnergy
  dsimp only
  repeat' split
  all_goals simp

@[simp] theorem shuttleEnergy_ledger (diff : Nat) :
    (shuttleEnergy diff s).ledger = s.ledger := by simp [shuttleEnergy]

@[simp] theorem closeStation_ledger (n : StationIx) : (closeStation n s).ledger = s.ledger := by simp [closeStation]

@[simp] theorem closeRow_ledger (r : RowId) : (closeRow r s).ledger = s.ledger := by simp [closeRow]

@[simp] theorem closeRecord_ledger : (closeRecord s).ledger = s.ledger := by simp [closeRecord]

@[simp] theorem startScan_ledger (requested : Word) : (startScan requested s).ledger = s.ledger := by simp [startScan]

@[simp] theorem requestScan_ledger (mask : Word) : (requestScan mask s).ledger = s.ledger := by
  unfold requestScan
  split <;> simp

@[simp] theorem saturatedSample_ledger (n : StationIx) :
    (saturatedSample n s).ledger = s.ledger := by simp [saturatedSample]

@[simp] theorem darkSample_ledger (n : StationIx) : (darkSample n s).ledger = s.ledger := by simp [darkSample]

@[simp] theorem validSample_ledger (n : StationIx) (sr : Nat) :
    (validSample n sr s).ledger = s.ledger := by simp [validSample]

@[simp] theorem judgeStation_ledger (sc : Scan) (n : StationIx) : (judgeStation sc n s).ledger = s.ledger := by
  unfold judgeStation
  split
  · split <;> simp
  · rfl

@[simp] theorem endScan_ledger : (endScan s).ledger = s.ledger := by simp [endScan]

@[simp] theorem completeScan_ledger : (completeScan s).ledger = s.ledger := by
  unfold completeScan
  split <;> simp

@[simp] theorem dropFromScan_ledger (n : StationIx) : (dropFromScan n s).ledger = s.ledger := by simp [dropFromScan]

@[simp] theorem startPulse_ledger (n : StationIx) : (startPulse n s).ledger = s.ledger := by simp [startPulse]

@[simp] theorem endPulse_ledger (n : StationIx) : (endPulse n s).ledger = s.ledger := by simp [endPulse]

@[simp] theorem runClose_ledger : (runClose s).ledger = s.ledger := by simp [runClose]

@[simp] theorem closeAndAnswer_ledger (n : SlotIx) :
    (closeAndAnswer n s).ledger = s.ledger := by simp [closeAndAnswer]

@[simp] theorem leaveList_ledger (r : RowId) : (leaveList r s).ledger = s.ledger := by simp [leaveList]

@[simp] theorem reinsertRow_ledger (r : RowId) : (reinsertRow r s).ledger = s.ledger := by simp [reinsertRow]

@[simp] theorem updateContext_ledger (c : CtxIx) (q : SaveRequest) :
    (updateContext c q s).ledger = s.ledger := by simp [updateContext]

@[simp] theorem checkLowMark_ledger : (checkLowMark s).ledger = s.ledger := by simp [checkLowMark]

@[simp] theorem takeContext_ledger (c : CtxIx) (q : SaveRequest) : (takeContext c q s).ledger = s.ledger := by
  simp [takeContext]

@[simp] theorem failSave_ledger : (failSave s).ledger = s.ledger := by simp [failSave]

@[simp] theorem saveContext_ledger (q : SaveRequest) : (saveContext q s).2.ledger = s.ledger := by
  unfold saveContext
  repeat' split
  all_goals simp

@[simp] theorem freeRecord_ledger (c : CtxIx) : (freeRecord c s).ledger = s.ledger := by
  unfold freeRecord
  split <;> simp

@[simp] theorem freeContext_ledger (c : CtxIx) : (freeContext c s).ledger = s.ledger := by
  unfold freeContext
  split <;> simp

@[simp] theorem countPass_ledger (f : Nat) : (countPass f s).ledger = s.ledger := by simp [countPass]

@[simp] theorem abandonEffect_ledger (row : RowId) (c : Nat) :
    (abandonEffect row c s).ledger = s.ledger := by simp [abandonEffect]

@[simp] theorem clearPass_ledger (r : RobotId) : (clearPass r s).ledger = s.ledger := by simp [clearPass]

@[simp] theorem abandonContext_ledger (c : CtxIx) : (abandonContext c s).ledger = s.ledger := by
  unfold abandonContext
  dsimp only
  split <;> simp

@[simp] theorem abandonOwned_ledger (r : RobotId) : (abandonOwned r s).ledger = s.ledger := by
  unfold abandonOwned
  split <;> simp

@[simp] theorem contextAtRow_ledger (r : RobotId) (row : RowId) : (contextAtRow r row s).ledger = s.ledger := by
  unfold contextAtRow
  split <;> simp

@[simp] theorem endUnstarted_ledger (r : RobotId) (row : RowId) :
    (endUnstarted r row s).ledger = s.ledger := by simp [endUnstarted]

@[simp] theorem endWithEffect_ledger (r : RobotId) (row : RowId) (c : Nat) :
    (endWithEffect r row c s).ledger = s.ledger := by simp [endWithEffect]

@[simp] theorem endInterrupted_ledger (r : RobotId) (cause : ContextCause) :
    (endInterrupted r cause s).ledger = s.ledger := by
  unfold endInterrupted
  split <;> simp

@[simp] theorem endAbandoned_ledger (r : RobotId) : (endAbandoned r s).ledger = s.ledger := by
  unfold endAbandoned
  repeat' split
  all_goals simp

@[simp] theorem setHoming_ledger (r : RobotId) : (setHoming r s).ledger = s.ledger := by simp [setHoming]

@[simp] theorem plannerDock_ledger (r : RobotId) : (plannerDock r s).ledger = s.ledger := by simp [plannerDock]

@[simp] theorem endIssued_ledger (r : RobotId) (cause : ContextCause) : (endIssued r cause s).ledger = s.ledger := by
  unfold endIssued
  dsimp only
  repeat' split
  all_goals simp

@[simp] theorem endComplete_ledger (r : RobotId) (p : Pass) :
    (endComplete r p s).ledger = s.ledger := by simp [endComplete]

@[simp] theorem answerTransfer_ledger (k : ShuttleIx) (n : SlotIx) (destination : RowId) (o : TransferOutcome) :
    (answerTransfer k n destination o s).ledger = s.ledger := by
  unfold answerTransfer
  split <;> simp

@[simp] theorem finishTransfer_ledger (k : ShuttleIx) (t : Transfer) (o : TransferOutcome) :
    (finishTransfer k t o s).ledger = s.ledger := by
  unfold finishTransfer
  split <;> simp

@[simp] theorem leftFullQueue_ledger (before : Nat) (k : ShuttleIx) :
    (leftFullQueue before k s).ledger = s.ledger := by simp [leftFullQueue]

@[simp] theorem startDrive_ledger (k : ShuttleIx) (target : Nat) (purpose : Purpose) :
    (startDrive k target purpose s).ledger = s.ledger :=
  (commandShuttle_ledger _ k _).trans (modShuttle_ledger s k _ rfl)

@[simp] theorem haltBoth_ledger (k : ShuttleIx) (r : RobotId) :
    (haltBoth k r s).ledger = s.ledger := by simp [haltBoth]

@[simp] theorem setFlags_ledger : (setFlags s).ledger = s.ledger :=
  ledger_congr (fun r => by simp [setFlags]) (fun _ => ⟨rfl, rfl⟩) (fun _ => rfl) rfl

@[simp] theorem dropRelease_ledger (rows : List RowId) :
    (dropRelease rows s).ledger = s.ledger := by simp [dropRelease]

theorem flagNotices_ne (old new : State) : ∀ j ∈ flagNotices old new, ∀ r rep d, j ≠ .robotStatus r rep d := by
  intro j hj r rep d h
  subst h
  simp [flagNotices] at hj

@[simp] theorem refreshFlags_ledger : (refreshFlags s).ledger = s.ledger := by
  unfold refreshFlags
  simp [pushAll_ledger _ (flagNotices_ne _ _)]

@[simp] theorem changeAlert_ledger (n : AlertIx) (f : Alert → Alert) :
    (changeAlert n f s).ledger = s.ledger := by simp [changeAlert]

@[simp] theorem dropTarget_ledger (r : RobotId) : (dropTarget r s).ledger = s.ledger := by simp [dropTarget]

@[simp] theorem clearSet_ledger (n : AlertIx) : (clearSet n s).ledger = s.ledger := by simp [clearSet]

@[simp] theorem setTarget_ledger (r : RobotId) (t : StormTarget) :
    (setTarget r t s).ledger = s.ledger := by simp [setTarget]

@[simp] theorem answerHeld_ledger (n : AlertIx) (cls : AnswerClass) (detail : Nat) (results : List Word) :
    (answerHeld n cls detail results s).ledger = s.ledger := by
  unfold answerHeld
  split <;> simp

@[simp] theorem checkParked_ledger (n : AlertIx) : (checkParked n s).ledger = s.ledger := by simp [checkParked]

@[simp] theorem joinSet_ledger (n : AlertIx) (r : RobotId) (as_ : Member) :
    (joinSet n r as_ s).ledger = s.ledger := by simp [joinSet]

@[simp] theorem secureMember_ledger (r : RobotId) : (secureMember r s).ledger = s.ledger := by simp [secureMember]

@[simp] theorem leaveSets_ledger (r : RobotId) : (leaveSets r s).ledger = s.ledger := by simp [leaveSets]

@[simp] theorem parkMember_ledger (n : AlertIx) (wasSheltered : RobotId → Bool) (r : RobotId) :
    (parkMember n wasSheltered r s).ledger = s.ledger := by simp [parkMember]

@[simp] theorem enterParking_ledger (n : AlertIx) (deadline : Nat) :
    (enterParking n deadline s).ledger = s.ledger := by simp [enterParking]

@[simp] theorem expireParking_ledger (n : AlertIx) : (expireParking n s).ledger = s.ledger := by simp [expireParking]

@[simp] theorem redecide_ledger (n : AlertIx) : (redecide n s).ledger = s.ledger := by simp [redecide]

@[simp] theorem freeAlert_ledger (n : AlertIx) : (freeAlert n s).ledger = s.ledger := by simp [freeAlert]

@[simp] theorem watchAlert_ledger (n : AlertIx) : (watchAlert n s).ledger = s.ledger := by simp [watchAlert]

@[simp] theorem enterReleasing_ledger (n : AlertIx) (holdOff : Nat) :
    (enterReleasing n holdOff s).ledger = s.ledger := by simp [enterReleasing]

@[simp] theorem expireHoldOff_ledger (n : AlertIx) : (expireHoldOff n s).ledger = s.ledger := by simp [expireHoldOff]

@[simp] theorem releaseRobots_ledger (rows : List RowId) :
    (releaseRobots rows s).ledger = s.ledger := by simp [releaseRobots]

@[simp] theorem joinByReport_ledger (r : RobotId) (n : AlertIx) :
    (joinByReport r n s).ledger = s.ledger := by simp [joinByReport]

@[simp] theorem secureByReport_ledger (r : RobotId) (a : Activity) :
    (secureByReport r a s).ledger = s.ledger := by simp [secureByReport]

@[simp] theorem retryCommand_ledger (r : RobotId) (a : Activity) :
    (retryCommand r a s).ledger = s.ledger := by simp [retryCommand]

@[simp] theorem stormReport_ledger (r : RobotId) (rep : RobotReport) :
    (stormReport r rep s).ledger = s.ledger := by simp [stormReport]

@[simp] theorem toldSupervisor_ledger (r : RobotId) (cmd : Cmd) (what : Told) :
    (toldSupervisor r cmd what s).ledger = s.ledger := by
  unfold toldSupervisor
  split <;> simp

@[simp] theorem faultWindow_ledger (n : AlertIx) : (faultWindow n s).ledger = s.ledger := by
  unfold faultWindow
  dsimp only
  repeat' split
  all_goals simp

@[simp] theorem windowTransition_ledger (n : AlertIx) (p : AnemometerParams) (gust mean : Nat) :
    (windowTransition n p gust mean s).ledger = s.ledger := by
  unfold windowTransition
  split <;> simp

@[simp] theorem endWindow_ledger (a : AnemIx) : (endWindow a s).ledger = s.ledger := by simp [endWindow]

@[simp] theorem countStart_ledger : (countStart s).ledger = s.ledger := by simp [countStart]

@[simp] theorem startFresh_ledger (r : RobotId) (row : RowId) :
    (startFresh r row s).ledger = s.ledger := by simp [startFresh]

@[simp] theorem startResume_ledger (r : RobotId) (c : CtxIx) :
    (startResume r c s).ledger = s.ledger := by simp [startResume]

@[simp] theorem countAssigned_ledger : (countAssigned s).ledger = s.ledger := by simp [countAssigned]

@[simp] theorem clearTarget_ledger (r : RobotId) : (clearTarget r s).ledger = s.ledger := by simp [clearTarget]

@[simp] theorem dropDisabledTarget_ledger (r : RobotId) (row : RowId) :
    (dropDisabledTarget r row s).ledger = s.ledger := by simp [dropDisabledTarget]

@[simp] theorem setDoze_ledger (r : RobotId) : (setDoze r s).ledger = s.ledger := by simp [setDoze]

@[simp] theorem setWake_ledger (r : RobotId) : (setWake r s).ledger = s.ledger := by simp [setWake]

@[simp] theorem wakeFor_ledger (r : RobotId) (row : RowId) : (wakeFor r row s).ledger = s.ledger := by simp [wakeFor]

@[simp] theorem cleanDelivered_ledger (r : RobotId) : (cleanDelivered r s).ledger = s.ledger := by
  unfold cleanDelivered
  split <;> simp

@[simp] theorem cleanFailed_ledger (r : RobotId) : (cleanFailed r s).ledger = s.ledger := by
  unfold cleanFailed
  dsimp only
  repeat' split
  all_goals simp

@[simp] theorem cleanSuperseded_ledger (r : RobotId) : (cleanSuperseded r s).ledger = s.ledger := by
  unfold cleanSuperseded
  split <;> simp

@[simp] theorem toldPlanner_ledger (r : RobotId) (cmd : Cmd) (what : Told) :
    (toldPlanner r cmd what s).ledger = s.ledger := by
  unfold toldPlanner
  repeat' split
  all_goals simp

@[simp] theorem plannerLost_ledger (r : RobotId) : (plannerLost r s).ledger = s.ledger := by simp [plannerLost]

@[simp] theorem passReport_ledger (r : RobotId) (rep : RobotReport) (diff : Nat) :
    (passReport r rep diff s).ledger = s.ledger := by
  unfold passReport
  dsimp only
  repeat' split
  all_goals simp

@[simp] theorem clearHoming_ledger (r : RobotId) (a : Activity) :
    (clearHoming r a s).ledger = s.ledger := by simp [clearHoming]

@[simp] theorem repeatRecall_ledger (r : RobotId) (a : Activity) :
    (repeatRecall r a s).ledger = s.ledger := by simp [repeatRecall]

@[simp] theorem plannerReport_ledger (r : RobotId) (rep : RobotReport) (diff : Nat) :
    (plannerReport r rep diff s).ledger = s.ledger := by simp [plannerReport]

@[simp] theorem recallRobot_ledger (r : RobotId) : (recallRobot r s).ledger = s.ledger := by
  unfold recallRobot
  dsimp only
  repeat' split
  all_goals simp

@[simp] theorem closeRound_ledger : (closeRound s).ledger = s.ledger := by simp [closeRound]

@[simp] theorem checkClose_ledger : (checkClose s).ledger = s.ledger := by simp [checkClose]

@[simp] theorem coverRows_ledger (rows : List RowId) : (coverRows rows s).ledger = s.ledger := by simp [coverRows]

@[simp] theorem noteFault_ledger (last code : Nat) : (noteFault last code s).ledger = s.ledger := by simp [noteFault]

@[simp] theorem recordRobot_ledger (r : RobotId) (rep : RobotReport) :
    (recordRobot r rep s).ledger = s.ledger := by simp [recordRobot]

@[simp] theorem accountReport_ledger (r : RobotId) (rep : RobotReport) (diff : Nat) :
    (accountReport r rep diff s).ledger = s.ledger := by
  unfold accountReport
  split <;> simp

@[simp] theorem beginRewrite_ledger (m : MirrorId) :
    (beginRewrite m s).ledger = s.ledger := ledger_of_eq rfl rfl rfl rfl

@[simp] theorem endRewrite_ledger (m : MirrorId) : (endRewrite m s).ledger = s.ledger := by
  rw [endRewrite_frame]
  exact ledger_of_eq rfl rfl rfl rfl

@[simp] theorem expirePassed_ledger : (expirePassed s).ledger = s.ledger := by simp [expirePassed]

@[simp] theorem startRunning_ledger : (startRunning s).ledger = s.ledger := ledger_of_eq rfl rfl rfl rfl

@[simp] theorem noteStorm_ledger (before : StormSummary) :
    (noteStorm before s).ledger = s.ledger := by simp [noteStorm]

@[simp] theorem markPool_ledger : (markPool s).ledger = s.ledger := by simp [markPool]

@[simp] theorem answerLongOrders_ledger : (answerLongOrders s).ledger = s.ledger := by simp [answerLongOrders]

@[simp] theorem stopUnits_ledger : (stopUnits s).ledger = s.ledger := by simp [stopUnits]

@[simp] theorem endSilence_ledger : (endSilence s).ledger = s.ledger := by
  unfold endSilence
  dsimp only
  split <;> simp

@[simp] theorem silenceExpires_ledger : (silenceExpires s).ledger = s.ledger := by simp [silenceExpires]

@[simp] theorem startTurn_ledger : (startTurn s).ledger = s.ledger := by simp [startTurn]

@[simp] theorem noteLinks_ledger (old : State) : (noteLinks old s).ledger = s.ledger := by simp [noteLinks]

@[simp] theorem beginSending_ledger : (beginSending s).ledger = s.ledger := by
  unfold beginSending
  split <;> simp

@[simp] theorem endBroadcast_ledger : (endBroadcast s).ledger = s.ledger := by simp [endBroadcast]

@[simp] theorem postSlot_ledger (n : SlotIx) : (postSlot n s).ledger = s.ledger := by simp [postSlot]

@[simp] theorem postMask_ledger (mask : Word) : (postMask mask s).ledger = s.ledger := by simp [postMask]

@[simp] theorem abortScanOrder_ledger (n : SlotIx) :
    (abortScanOrder n s).ledger = s.ledger := by simp [abortScanOrder]

@[simp] theorem abortClose_ledger (n : SlotIx) : (abortClose n s).ledger = s.ledger := by
  unfold abortClose
  split <;> simp

@[simp] theorem abortPark_ledger (n : SlotIx) : (abortPark n s).ledger = s.ledger := by
  unfold abortPark
  split <;> simp

@[simp] theorem abortQueued_ledger (n : SlotIx) : (abortQueued n s).ledger = s.ledger := by simp [abortQueued]

@[simp] theorem collectSlot_ledger (n : SlotIx) : (collectSlot n s).ledger = s.ledger := by simp [collectSlot]

@[simp] theorem collectMask_ledger (mask : Word) : (collectMask mask s).ledger = s.ledger := by simp [collectMask]

@[simp] theorem clearNotices_ledger (bits : Word) : (clearNotices bits s).ledger = s.ledger := by simp [clearNotices]

@[simp] theorem writeEnable_ledger (value : Word) : (writeEnable value s).ledger = s.ledger := by simp [writeEnable]

@[simp] theorem writeMemory_ledger (a : Nat) (v : Word) : (writeMemory a v s).ledger = s.ledger := by
  rw [writeMemory_frame]
  exact ledger_of_eq rfl rfl rfl rfl

@[simp] theorem refuseState_ledger (n : SlotIx) (detail : Nat) :
    (refuseState n detail s).ledger = s.ledger := by simp [refuseState]

@[simp] theorem answerDone_ledger (n : SlotIx) (results : List Word) :
    (answerDone n results s).ledger = s.ledger := by simp [answerDone]

@[simp] theorem enableRow_ledger (n : SlotIx) (row : RowId) :
    (enableRow n row s).ledger = s.ledger := by simp [enableRow]

@[simp] theorem disableRow_ledger (n : SlotIx) (row : RowId) :
    (disableRow n row s).ledger = s.ledger := by simp [disableRow]

@[simp] theorem clearContested_ledger (n : SlotIx) (row : RowId) :
    (clearContested n row s).ledger = s.ledger := by simp [clearContested]

@[simp] theorem leavePolling_ledger (i : LinkId) : (leavePolling i s).ledger = s.ledger := by simp [leavePolling]

@[simp] theorem returnEntry_ledger (i : LinkId) : (returnEntry i s).ledger = s.ledger := by simp [returnEntry]

@[simp] theorem scanStations_ledger (n : SlotIx) (ws : List Word) :
    (scanStations n ws s).ledger = s.ledger := by simp [scanStations]

@[simp] theorem wipeStation_ledger (n : SlotIx) (ws : List Word) :
    (wipeStation n ws s).ledger = s.ledger := by simp [wipeStation]

@[simp] theorem takeDayClose_ledger (n : SlotIx) (ws : List Word) : (takeDayClose n ws s).ledger = s.ledger := by
  unfold takeDayClose
  repeat' split
  all_goals simp

@[simp] theorem runDeferredClose_ledger : (runDeferredClose s).ledger = s.ledger := by
  unfold runDeferredClose
  split <;> simp

@[simp] theorem openRecord_ledger (ws : List Word) : (openRecord ws s).ledger = s.ledger := by simp [openRecord]

@[simp] theorem wakeFleet_ledger : (wakeFleet s).ledger = s.ledger := by simp [wakeFleet]

@[simp] theorem openRound_ledger (n : SlotIx) (ws : List Word) : (openRound n ws s).ledger = s.ledger := by
  unfold openRound
  dsimp only
  split <;> simp

@[simp] theorem startRound_ledger (n : SlotIx) (ws : List Word) :
    (startRound n ws s).ledger = s.ledger := by simp [startRound]

@[simp] theorem cleanRow_ledger (n : SlotIx) (ws : List Word) : (cleanRow n ws s).ledger = s.ledger := by
  unfold cleanRow
  dsimp only
  split <;> simp

@[simp] theorem takeAlert_ledger (n : AlertIx) (code mask : Nat) (level : AlertLevel) :
    (takeAlert n code mask level s).ledger = s.ledger := by simp [takeAlert]

@[simp] theorem alertWatch_ledger (n : SlotIx) (ws : List Word) : (alertWatch n ws s).ledger = s.ledger := by
  unfold alertWatch
  dsimp only
  repeat' split
  all_goals simp

@[simp] theorem holdPark_ledger (m : AlertIx) (n : SlotIx) : (holdPark m n s).ledger = s.ledger := by simp [holdPark]

@[simp] theorem mergeDeadline_ledger (m : AlertIx) (deadline : Nat) :
    (mergeDeadline m deadline s).ledger = s.ledger := by simp [mergeDeadline]

@[simp] theorem mergePark_ledger (m : AlertIx) (deadline : Nat) : (mergePark m deadline s).ledger = s.ledger := by
  unfold mergePark
  dsimp only
  split <;> simp

@[simp] theorem mergeParkOrder_ledger (n : SlotIx) (m : AlertIx) (deadline : Nat) :
    (mergeParkOrder n m deadline s).ledger = s.ledger := by simp [mergeParkOrder]

@[simp] theorem alertPark_ledger (n : SlotIx) (ws : List Word) : (alertPark n ws s).ledger = s.ledger := by
  unfold alertPark
  dsimp only
  repeat' split
  all_goals simp

@[simp] theorem clearAlert_ledger (m : AlertIx) : (clearAlert m s).ledger = s.ledger := by
  unfold clearAlert
  split <;> simp

@[simp] theorem stormClear_ledger (n : SlotIx) (ws : List Word) : (stormClear n ws s).ledger = s.ledger := by
  unfold stormClear
  split <;> simp

@[simp] theorem endMeasurement_ledger (periods : Nat) : (endMeasurement periods s).ledger = s.ledger := by
  unfold endMeasurement
  split <;> simp

@[simp] theorem periodicExpires_ledger : (periodicExpires s).ledger = s.ledger := by
  unfold periodicExpires
  split <;> simp

@[simp] theorem pulseExpires_ledger (n : StationIx) : (pulseExpires n s).ledger = s.ledger := by
  unfold pulseExpires
  split <;> simp

@[simp] theorem countPulse_ledger (a : AnemIx) : (countPulse a s).ledger = s.ledger := by simp [countPulse]

@[simp] theorem windowEnds_ledger (a : AnemIx) : (windowEnds a s).ledger = s.ledger := by
  unfold windowEnds
  split <;> simp

@[simp] theorem parkDeadline_ledger (n : AlertIx) : (parkDeadline n s).ledger = s.ledger := by simp [parkDeadline]

@[simp] theorem holdOffExpires_ledger (n : AlertIx) :
    (holdOffExpires n s).ledger = s.ledger := by simp [holdOffExpires]

end Sys2Proof.Machine
end

section
/-!
SUPPORT. When a placement ledger is lawful (R41, R46, R145, R147, R161), and the ways in which the part changes one.
-/

namespace Sys2Proof.Machine

/-! ### Lawful ledgers -/

/-- R145, R161: the state of a shuttle, the robot that it carries and its transfer record agree. -/
structure Carrier.Lawful (c : Carrier) : Prop where
  stages : ∀ t, c.transfer = some t → t.stranded = false → c.state = t.stage.state
  stranded : ∀ t, c.transfer = some t → t.stranded = true → c.state = .fault ∧ c.carried = some t.robot
  loaded : ∀ r, c.carried = some r → c.state = .carry ∨ c.state = .alight ∨ c.state = .fault
  carrying : ∀ t r, c.transfer = some t → t.stranded = false → c.carried = some r → t.robot = r

/-- The robots of the requests queued and of the transfer held. -/
def Carrier.robots (c : Carrier) : List RobotId :=
  (c.queue.map fun q => q.robot) ++ c.transfer.toList.map fun t => t.robot

/-- A request queued or a transfer held of this robot to this row. -/
def Carrier.Seeks (c : Carrier) (r : RobotId) (row : RowId) : Prop :=
  (∃ q ∈ c.queue, q.robot = r ∧ q.destination = row)
    ∨ ∃ t, c.transfer = some t ∧ t.robot = r ∧ t.destination = row

/-- R41: every request in a queue, and every transfer in service, has its destination reserved; `lapsed` is a robot
whose reservation has been released while its request still stands. -/
structure Carrier.Reserved (c : Carrier) (lapsed : Option RobotId) (reserved : RowId → Option RobotId) : Prop where
  queued : ∀ q ∈ c.queue, lapsed ≠ some q.robot → reserved q.destination = some q.robot
  serving : ∀ t, c.transfer = some t → t.stranded = false → lapsed ≠ some t.robot →
    reserved t.destination = some t.robot

/-- R41, R46, R145, R147 of a ledger. Between the steps of one operation `lapsed` is a robot whose reservation has been
released while its request still stands, and `excused` one recorded WITHDRAWN that a report has placed. -/
structure Ledger.Lawful (lapsed excused : Option RobotId) (v : Ledger) : Prop where
  atRow : ∀ r row, v.place r = .row row ↔ v.occupant row = some r
  aboard : ∀ r k, v.place r = .shuttle k ↔ (v.carrier k).carried = some r
  unreserved : ∀ row, v.occupant row ≠ none → v.reserved row = none
  backed : ∀ k, (v.carrier k).Reserved lapsed v.reserved
  requested : ∀ row r, v.reserved row = some r → ∃ k, (v.carrier k).Seeks r row
  once : ∀ k, (v.carrier k).robots.Nodup
  apart : ∀ j k r, r ∈ (v.carrier j).robots → r ∈ (v.carrier k).robots → j = k
  carriers : ∀ k, (v.carrier k).Lawful
  retired : ∀ r, excused ≠ some r → v.retired r = true → v.place r = .unknown ∧ ∀ k, r ∉ (v.carrier k).robots
  orderly : v.orderly = true

theorem Carrier.mem_robots {c : Carrier} {r : RobotId} :
    r ∈ c.robots ↔ (∃ q ∈ c.queue, q.robot = r) ∨ ∃ t, c.transfer = some t ∧ t.robot = r := by
  simp [Carrier.robots]

theorem Carrier.Seeks.mem {c : Carrier} {r : RobotId} {row : RowId} (h : c.Seeks r row) : r ∈ c.robots := by
  rw [Carrier.mem_robots]
  rcases h with ⟨q, hq, hr, _⟩ | ⟨t, ht, hr, _⟩
  · exact .inl ⟨q, hq, hr⟩
  · exact .inr ⟨t, ht, hr⟩

theorem Carrier.queued_mem {c : Carrier} {q : Request} (h : q ∈ c.queue) : q.robot ∈ c.robots :=
  mem_robots.mpr (.inl ⟨q, h, rfl⟩)

theorem Carrier.transfer_mem {c : Carrier} {t : Transfer} (h : c.transfer = some t) : t.robot ∈ c.robots :=
  mem_robots.mpr (.inr ⟨t, h, rfl⟩)

theorem requestRobots_eq (s : State) : requestRobots s = allShuttles.flatMap fun k => (s.ledger.carrier k).robots := rfl

theorem requestRobots_nodup (s : State) : (requestRobots s).Nodup
    ↔ (∀ k, (s.ledger.carrier k).robots.Nodup)
      ∧ ∀ j k r, r ∈ (s.ledger.carrier j).robots → r ∈ (s.ledger.carrier k).robots → j = k := by
  rw [requestRobots_eq, List.nodup_flatMap]
  refine and_congr ⟨fun h k => h k (List.mem_finRange k), fun h k _ => h k⟩ ⟨fun h j k r hj hk => ?_, fun h => ?_⟩
  · have hsymm : Std.Symm (Function.onFun List.Disjoint fun k => (s.ledger.carrier k).robots) := ⟨fun _ _ hd => hd.symm⟩
    by_contra hne
    exact h.forall (List.mem_finRange j) (List.mem_finRange k) hne hj hk
  · exact (List.nodup_finRange 8).pairwise_of_forall_ne fun j _ k _ hne r hj hk => hne (h j k r hj hk)

theorem mem_requestRobots {s : State} {r : RobotId} : r ∈ requestRobots s ↔ ∃ k, r ∈ (s.ledger.carrier k).robots := by
  rw [requestRobots_eq, List.mem_flatMap]
  exact ⟨fun ⟨k, _, h⟩ => ⟨k, h⟩, fun ⟨k, h⟩ => ⟨k, List.mem_finRange k, h⟩⟩

/-- `PlacesLawful` is read from the ledger. -/
theorem PlacesLawful.ledger {s : State} (h : PlacesLawful s) (ha : s.agenda.all Job.orderly = true) :
    s.ledger.Lawful none none where
  atRow := h.atRow
  aboard := h.aboard
  unreserved := h.unreserved
  backed k := ⟨fun q hq _ => h.queued k q hq, fun t ht hs _ => h.serving k t ht hs⟩
  requested := h.requested
  once := ((requestRobots_nodup s).mp h.once).1
  apart := ((requestRobots_nodup s).mp h.once).2
  carriers k := ⟨h.stages k, h.stranded k, h.loaded k, h.carrying k⟩
  retired r _ hw :=
    have ⟨hp, hr⟩ := h.withdrawn r (beq_iff_eq.mp hw)
    ⟨hp, fun k hk => hr (mem_requestRobots.mpr ⟨k, hk⟩)⟩
  orderly := ha

theorem Ledger.Lawful.places {s : State} (h : s.ledger.Lawful none none) : PlacesLawful s where
  atRow := h.atRow
  aboard := h.aboard
  unreserved := h.unreserved
  queued k q hq := (h.backed k).queued q hq nofun
  serving k t ht hs := (h.backed k).serving t ht hs nofun
  requested := h.requested
  once := (requestRobots_nodup s).mpr ⟨h.once, h.apart⟩
  stages k := (h.carriers k).stages
  stranded k := (h.carriers k).stranded
  loaded k := (h.carriers k).loaded
  carrying k := (h.carriers k).carrying
  withdrawn r hw :=
    have ⟨hp, hr⟩ := h.retired r nofun (beq_iff_eq.mpr hw)
    ⟨hp, fun hm => (mem_requestRobots.mp hm).elim hr⟩

/-! ### The changes of a ledger -/

def Ledger.withCarrier (v : Ledger) (k : ShuttleIx) (c : Carrier) : Ledger :=
  { v with carrier := Function.update v.carrier k c }

/-- R41: these reservations are released, each where the row is still reserved for the robot. -/
def Ledger.releaseAll (v : Ledger) (ps : List (RowId × RobotId)) : Ledger :=
  { v with
    reserved := fun row => if ∃ p ∈ ps, p.1 = row ∧ v.reserved row = some p.2 then none else v.reserved row }

/-- R147, R151: the requests that satisfy p leave a queue, and their reservations are released. -/
def Ledger.drop (v : Ledger) (k : ShuttleIx) (p : Request → Bool) : Ledger :=
  (v.withCarrier k { v.carrier k with queue := (v.carrier k).queue.filter fun q => !p q }).releaseAll
    (((v.carrier k).queue.filter p).map fun q => (q.destination, q.robot))

/-- R147: a request joins a queue with its destination reserved. -/
def Ledger.join (v : Ledger) (k : ShuttleIx) (q : Request) : Ledger :=
  { v with
    reserved := Function.update v.reserved q.destination (some q.robot)
    carrier := Function.update v.carrier k { v.carrier k with queue := (v.carrier k).queue ++ [q] } }

/-- R41: a robot without a place is carried. -/
def Ledger.board (v : Ledger) (r : RobotId) (k : ShuttleIx) (c : Carrier) : Ledger :=
  { v with place := Function.update v.place r (.shuttle k), carrier := Function.update v.carrier k c }

/-- R42: a robot leaves its place. -/
def Ledger.vacate (v : Ledger) (r : RobotId) : Ledger :=
  { v with
    place := Function.update v.place r .unknown
    occupant := fun row => if v.occupant row = some r then none else v.occupant row
    carrier := fun k =>
      { v.carrier k with carried := if (v.carrier k).carried = some r then none else (v.carrier k).carried } }

/-- R41, R42: a robot without a place is placed at a row, whose reservation goes. -/
def Ledger.seat (v : Ledger) (r : RobotId) (row : RowId) : Ledger :=
  { v with
    place := Function.update v.place r (.row row)
    occupant := Function.update v.occupant row (some r)
    reserved := Function.update v.reserved row none }

/-- The robot's activity becomes WITHDRAWN, or another. -/
def Ledger.retire (v : Ledger) (r : RobotId) (w : Bool) : Ledger := { v with retired := Function.update v.retired r w }

namespace Ledger.Lawful

variable {l e : Option RobotId} {v : Ledger}

theorem lapse (h : v.Lawful none e) (l : Option RobotId) : v.Lawful l e :=
  { h with backed := fun k => ⟨fun q hq _ => (h.backed k).queued q hq nofun,
                              fun t ht hs _ => (h.backed k).serving t ht hs nofun⟩ }

theorem excuse (h : v.Lawful l none) (e : Option RobotId) : v.Lawful l e :=
  { h with retired := fun r _ => h.retired r nofun }

/-- A robot without a live request has no reservation that could have lapsed. -/
theorem restore {r : RobotId} (h : v.Lawful (some r) e) (hq : ∀ k, ∀ q ∈ (v.carrier k).queue, q.robot ≠ r)
    (ht : ∀ k t, (v.carrier k).transfer = some t → t.stranded = false → t.robot ≠ r) : v.Lawful none e :=
  { h with
    backed := fun k => ⟨fun q hm _ => (h.backed k).queued q hm fun hr => hq k q hm (Option.some.inj hr).symm,
      fun t hm hs _ => (h.backed k).serving t hm hs fun hr => ht k t hm hs (Option.some.inj hr).symm⟩ }

/-- A lawful ledger names a robot's shuttle once. -/
theorem transfer_unique (h : v.Lawful l e) {j k : ShuttleIx} {t y : Transfer} (ht : (v.carrier j).transfer = some t)
    (hy : (v.carrier k).transfer = some y) (hr : t.robot = y.robot) : j = k ∧ t = y := by
  have hjk : j = k := h.apart j k t.robot (Carrier.transfer_mem ht) (hr ▸ Carrier.transfer_mem hy)
  subst hjk
  exact ⟨rfl, Option.some.inj (ht.symm.trans hy)⟩

theorem queue_ne_transfer (h : v.Lawful l e) {j k : ShuttleIx} {q : Request} {t : Transfer}
    (hq : q ∈ (v.carrier j).queue) (ht : (v.carrier k).transfer = some t) : q.robot ≠ t.robot := by
  intro hr
  have hjk : j = k := h.apart j k q.robot (Carrier.queued_mem hq) (hr ▸ Carrier.transfer_mem ht)
  subst hjk
  have hnd := h.once j
  rw [Carrier.robots, ht, List.nodup_append] at hnd
  exact hnd.2.2 q.robot (List.mem_map_of_mem hq) t.robot (by simp) hr

theorem queue_unique (h : v.Lawful l e) {j k : ShuttleIx} {p q : Request} (hp : p ∈ (v.carrier j).queue)
    (hq : q ∈ (v.carrier k).queue) (hr : p.robot = q.robot) : j = k ∧ p = q := by
  have hjk : j = k := h.apart j k p.robot (Carrier.queued_mem hp) (hr ▸ Carrier.queued_mem hq)
  subst hjk
  have hnd := h.once j
  rw [Carrier.robots, List.nodup_append] at hnd
  exact ⟨rfl, List.inj_on_of_nodup_map hnd.1 hp hq hr⟩

/-- The destination of a robot's transfer is the only row that it can have reserved. -/
theorem transfer_dest (h : v.Lawful l e) {k : ShuttleIx} {t : Transfer} (ht : (v.carrier k).transfer = some t)
    {row : RowId} (hr : v.reserved row = some t.robot) : row = t.destination := by
  obtain ⟨j, ⟨q, hq, hqr, hd⟩ | ⟨y, hy, hyr, hd⟩⟩ := h.requested row t.robot hr
  · exact absurd hqr (h.queue_ne_transfer hq ht)
  · rw [(h.transfer_unique hy ht hyr).2] at hd
    exact hd.symm

theorem releaseAll_some {ps : List (RowId × RobotId)} {x : RowId} {q : RobotId}
    (hx : (v.releaseAll ps).reserved x = some q) : v.reserved x = some q ∧ (x, q) ∉ ps := by
  simp only [Ledger.releaseAll] at hx
  split at hx
  next => exact nomatch hx
  next hn => exact ⟨hx, fun hm => hn ⟨(x, q), hm, rfl, hx⟩⟩

theorem releaseAll_kept {ps : List (RowId × RobotId)} {x : RowId} {q : RobotId} (hx : v.reserved x = some q)
    (hn : (x, q) ∉ ps) : (v.releaseAll ps).reserved x = some q := by
  simp only [Ledger.releaseAll]
  rw [if_neg, hx]
  rintro ⟨p, hp, rfl, hr⟩
  rw [hx, Option.some.injEq] at hr
  exact hn (hr ▸ hp)

theorem release {r : RobotId} (h : v.Lawful (some r) e) (row : RowId) : (v.releaseAll [(row, r)]).Lawful (some r) e :=
  have hkept : ∀ x q, some r ≠ some q → v.reserved x = some q → (v.releaseAll [(row, r)]).reserved x = some q :=
    fun _ _ hne hx => releaseAll_kept hx fun hm =>
      hne (congrArg some (Prod.mk.inj (List.mem_singleton.mp hm)).2.symm)
  { h with
    unreserved := fun x hx => Option.eq_none_iff_forall_ne_some.mpr fun _ hq =>
      nomatch (h.unreserved x hx).symm.trans (releaseAll_some hq).1
    backed := fun k =>
      ⟨fun q hq hl => hkept _ _ hl ((h.backed k).queued q hq hl),
       fun t ht hs hl => hkept _ _ hl ((h.backed k).serving t ht hs hl)⟩
    requested := fun x q hx => h.requested x q (releaseAll_some hx).1 }

/-- A shuttle's record changes, with no robot newly carried or newly requesting. -/
theorem withCarrier (h : v.Lawful l e) (k : ShuttleIx) {c : Carrier} (hc : c.Lawful)
    (hcarried : c.carried = (v.carrier k).carried) (hb : c.Reserved l v.reserved)
    (hseek : ∀ row r, v.reserved row = some r → (v.carrier k).Seeks r row → c.Seeks r row)
    (hn : c.robots.Nodup) (hsub : ∀ r ∈ c.robots, r ∈ (v.carrier k).robots) : (v.withCarrier k c).Lawful l e := by
  have hmem : ∀ j r, r ∈ ((v.withCarrier k c).carrier j).robots → r ∈ (v.carrier j).robots := by
    intro j r hr
    simp only [Ledger.withCarrier, Function.update_apply] at hr
    split at hr
    next hj => exact hj ▸ hsub r hr
    next => exact hr
  refine { h with aboard := fun r j => ?_, backed := fun j => ?_, requested := fun row r hr => ?_, once := fun j => ?_,
                  apart := fun i j r hi hj => h.apart i j r (hmem i r hi) (hmem j r hj), carriers := fun j => ?_,
                  retired := fun r he hr => ?_ }
  · refine (h.aboard r j).trans ?_
    simp only [Ledger.withCarrier, Function.update_apply]
    split
    next hj => rw [hj, hcarried]
    next => rfl
  · simp only [Ledger.withCarrier, Function.update_apply]
    split
    · exact hb
    · exact h.backed j
  · obtain ⟨j, hj⟩ := h.requested row r hr
    refine ⟨j, ?_⟩
    simp only [Ledger.withCarrier, Function.update_apply]
    split
    next hjk => exact hseek row r hr (hjk ▸ hj)
    next => exact hj
  · simp only [Ledger.withCarrier, Function.update_apply]
    split
    · exact hn
    · exact h.once j
  · simp only [Ledger.withCarrier, Function.update_apply]
    split
    · exact hc
    · exact h.carriers j
  · have ⟨hp, hm⟩ := h.retired r he hr
    exact ⟨hp, fun j hj => hm j (hmem j r hj)⟩


theorem retired_ne {r : RobotId} {k : ShuttleIx} (h : v.Lawful l e) (hr : r ∈ (v.carrier k).robots)
    (hw : v.retired r = true) : e = some r := by
  by_contra he
  exact (h.retired r he hw).2 k hr

/-- R147, R151: requests leave a queue with their reservations. -/
theorem drop (h : v.Lawful l e) (k : ShuttleIx) (p : Request → Bool) : (v.drop k p).Lawful l e := by
  have hqueue : ∀ j q, q ∈ ((v.drop k p).carrier j).queue → q ∈ (v.carrier j).queue ∧ (j = k → p q = false) := by
    intro j q hq
    simp only [Ledger.drop, Ledger.releaseAll, Ledger.withCarrier, Function.update_apply] at hq
    split at hq
    next hj =>
      obtain ⟨hm, hp⟩ := List.mem_filter.mp hq
      exact ⟨hj ▸ hm, fun _ => by simpa using hp⟩
    next hj => exact ⟨hq, fun e => absurd e hj⟩
  have hrest : ∀ j, ((v.drop k p).carrier j).state = (v.carrier j).state
      ∧ ((v.drop k p).carrier j).carried = (v.carrier j).carried
      ∧ ((v.drop k p).carrier j).transfer = (v.carrier j).transfer := by
    intro j
    simp only [Ledger.drop, Ledger.releaseAll, Ledger.withCarrier, Function.update_apply]
    split
    next hj => exact hj ▸ ⟨rfl, rfl, rfl⟩
    next => exact ⟨rfl, rfl, rfl⟩
  have hmem : ∀ j r, r ∈ ((v.drop k p).carrier j).robots → r ∈ (v.carrier j).robots := by
    intro j r hr
    rw [Carrier.mem_robots, (hrest j).2.2] at hr
    exact Carrier.mem_robots.mpr (hr.imp_left fun ⟨q, hq, hqr⟩ => ⟨q, (hqueue j q hq).1, hqr⟩)
  refine { h with aboard := fun r j => ?_, unreserved := fun x hx => ?_, backed := fun j => ⟨fun q hq hl => ?_, ?_⟩,
                  requested := fun row r hr => ?_, once := fun j => ?_,
                  apart := fun i j r hi hj => h.apart i j r (hmem i r hi) (hmem j r hj), carriers := fun j => ?_,
                  retired := fun r he hr => ?_ }
  · rw [(hrest j).2.1]
    exact h.aboard r j
  · exact Option.eq_none_iff_forall_ne_some.mpr fun q hq =>
      nomatch (h.unreserved x hx).symm.trans (releaseAll_some hq).1
  · obtain ⟨hm, hp⟩ := hqueue j q hq
    refine releaseAll_kept ((h.backed j).queued q hm hl) fun hg => ?_
    obtain ⟨g, hgone, hgq⟩ := List.mem_map.mp hg
    obtain ⟨hgm, hgp⟩ := List.mem_filter.mp hgone
    obtain ⟨rfl, rfl⟩ := h.queue_unique hm hgm (Prod.mk.inj hgq).2.symm
    exact nomatch hgp.symm.trans (hp rfl)
  · intro t ht hs hl
    rw [(hrest j).2.2] at ht
    refine releaseAll_kept ((h.backed j).serving t ht hs hl) fun hg => ?_
    obtain ⟨g, hgone, hgq⟩ := List.mem_map.mp hg
    exact h.queue_ne_transfer (List.mem_filter.mp hgone).1 ht (Prod.mk.inj hgq).2
  · obtain ⟨hv, hng⟩ := releaseAll_some hr
    obtain ⟨j, hj⟩ := h.requested row r hv
    refine ⟨j, hj.imp (fun ⟨q, hq, hqr, hd⟩ => ⟨q, ?_, hqr, hd⟩) fun ⟨t, ht, hx⟩ => ⟨t, ((hrest j).2.2).trans ht, hx⟩⟩
    simp only [Ledger.drop, Ledger.releaseAll, Ledger.withCarrier, Function.update_apply]
    split
    next hjk =>
      subst hjk
      refine List.mem_filter.mpr ⟨hq, ?_⟩
      by_contra hp
      exact hng (List.mem_map.mpr ⟨q, List.mem_filter.mpr ⟨hq, by simpa using hp⟩, by rw [hqr, hd]⟩)
    next => exact hq
  · have hsub : ((v.drop k p).carrier j).robots.Sublist (v.carrier j).robots := by
      simp only [Ledger.drop, Ledger.releaseAll, Ledger.withCarrier, Function.update_apply]
      split
      next hj => exact hj ▸ (List.filter_sublist.map _).append_right _
      next => exact List.Sublist.refl _
    exact (h.once j).sublist hsub
  · obtain ⟨hs, hc, ht⟩ := hrest j
    exact ⟨by rw [ht, hs]; exact (h.carriers j).stages, by rw [ht, hs, hc]; exact (h.carriers j).stranded,
      by rw [hs, hc]; exact (h.carriers j).loaded, by rw [ht, hc]; exact (h.carriers j).carrying⟩
  · have ⟨hp, hm⟩ := h.retired r he hr
    exact ⟨hp, fun j hj => hm j (hmem j r hj)⟩

/-- R147: a request of a robot that has none, to a row without occupant or reservation. -/
theorem join (h : v.Lawful l e) (k : ShuttleIx) {q : Request} (ho : v.occupant q.destination = none)
    (hr : v.reserved q.destination = none) (hn : ∀ j, q.robot ∉ (v.carrier j).robots)
    (hw : v.retired q.robot = false) : (v.join k q).Lawful l e := by
  have hmem : ∀ j r, r ∈ ((v.join k q).carrier j).robots ↔ r ∈ (v.carrier j).robots ∨ j = k ∧ r = q.robot := by
    intro j r
    simp only [Ledger.join, Function.update_apply, Carrier.mem_robots]
    split
    next hj => subst hj; simp [or_and_right, exists_or, or_assoc, or_comm, eq_comm]
    next hj => simp [hj]
  have hkept : ∀ row r, v.reserved row = some r → (v.join k q).reserved row = some r := by
    intro row r hv
    have hne : row ≠ q.destination := fun hd => by simp [hd, hr] at hv
    simpa [Ledger.join, hne] using hv
  refine { h with aboard := fun r j => ?_, unreserved := fun x hx => ?_, backed := fun j => ⟨fun p hp hl => ?_, ?_⟩,
                  requested := fun row r hv => ?_, once := fun j => ?_, apart := fun i j r hi hj => ?_,
                  carriers := fun j => ?_, retired := fun r he hv => ?_ }
  · refine (h.aboard r j).trans ?_
    simp only [Ledger.join, Function.update_apply]
    split
    next hj => rw [hj]
    next => rfl
  · have hne : x ≠ q.destination := fun hd => hx (hd ▸ ho)
    simpa [Ledger.join, hne] using h.unreserved x hx
  · simp only [Ledger.join, Function.update_apply] at hp
    split at hp
    next hj =>
      rcases List.mem_append.mp hp with hp | hp
      · exact hkept _ _ ((h.backed k).queued p hp hl)
      · rw [List.mem_singleton.mp hp]
        simp [Ledger.join]
    next => exact hkept _ _ ((h.backed j).queued p hp hl)
  · intro t ht hs hl
    refine hkept _ _ ((h.backed j).serving t ?_ hs hl)
    simp only [Ledger.join, Function.update_apply] at ht
    split at ht
    next hj => exact hj ▸ ht
    next => exact ht
  · by_cases hd : row = q.destination
    · subst hd
      have hq : q.robot = r := by simpa [Ledger.join] using hv
      exact ⟨k, .inl ⟨q, by simp [Ledger.join], hq, rfl⟩⟩
    · obtain ⟨j, hj⟩ := h.requested row r (by simpa [Ledger.join, hd] using hv)
      refine ⟨j, ?_⟩
      simp only [Ledger.join, Function.update_apply]
      split
      next hjk => exact hjk ▸ hj.imp_left fun ⟨p, hp, hx⟩ => ⟨p, List.mem_append_left _ hp, hx⟩
      next => exact hj
  · have hnot : q.robot ∉ (v.carrier k).robots := hn k
    simp only [Ledger.join, Function.update_apply]
    split
    next =>
      have hperm : ({ v.carrier k with queue := (v.carrier k).queue ++ [q] } : Carrier).robots.Perm
          (q.robot :: (v.carrier k).robots) := by
        simp only [Carrier.robots, List.map_append, List.map_cons, List.map_nil, List.append_assoc]
        exact List.perm_middle
      exact hperm.nodup_iff.mpr (List.nodup_cons.mpr ⟨hnot, h.once k⟩)
    next => exact h.once j
  · rcases (hmem i r).mp hi with hri | ⟨hik, hri⟩ <;> rcases (hmem j r).mp hj with hrj | ⟨hjk, hrj⟩
    · exact h.apart i j r hri hrj
    · exact absurd (hrj ▸ hri) (hn i)
    · exact absurd (hri ▸ hrj) (hn j)
    · rw [hik, hjk]
  · simp only [Ledger.join, Function.update_apply]
    split
    next => exact ⟨(h.carriers k).stages, (h.carriers k).stranded, (h.carriers k).loaded, (h.carriers k).carrying⟩
    next => exact h.carriers j
  · have ⟨hp, hm⟩ := h.retired r he hv
    refine ⟨hp, fun j hj => ?_⟩
    rcases (hmem j r).mp hj with hj | ⟨_, rfl⟩
    · exact hm j hj
    · exact nomatch hw.symm.trans hv

/-- R42: a robot without a stranded record leaves its place. -/
theorem vacate {r : RobotId} (h : v.Lawful l e)
    (hs : ∀ k t, (v.carrier k).transfer = some t → t.stranded = true → t.robot ≠ r) : (v.vacate r).Lawful l e := by
  have hocc : ∀ row q, (v.vacate r).occupant row = some q ↔ v.occupant row = some q ∧ q ≠ r := by
    intro row q
    simp only [Ledger.vacate]
    split
    next hr => simp [hr, eq_comm]
    next hr => exact ⟨fun hq => ⟨hq, fun e => hr (e ▸ hq)⟩, And.left⟩
  have hcar : ∀ k q, ((v.vacate r).carrier k).carried = some q ↔ (v.carrier k).carried = some q ∧ q ≠ r := by
    intro k q
    simp only [Ledger.vacate]
    split
    next hr => simp [hr, eq_comm]
    next hr => exact ⟨fun hq => ⟨hq, fun e => hr (e ▸ hq)⟩, And.left⟩
  have hplace : ∀ q, (v.vacate r).place q = if q = r then .unknown else v.place q := fun q => by
    simp only [Ledger.vacate, Function.update_apply]
  refine { h with atRow := fun q row => ?_, aboard := fun q k => ?_, unreserved := fun x hx => ?_,
                  backed := fun k => ⟨(h.backed k).queued, (h.backed k).serving⟩,
                  carriers := fun k =>
                    ⟨(h.carriers k).stages, fun t ht hst => ?_, fun q hq => ?_, fun t q ht hst hq => ?_⟩,
                  retired := fun q he hv => ?_ }
  · rw [hplace, hocc, ← h.atRow]
    split
    next hq => simp [hq]
    next hq => simp [hq]
  · rw [hplace, hcar, ← h.aboard]
    split
    next hq => simp [hq]
    next hq => simp [hq]
  · obtain ⟨q, hq⟩ := Option.ne_none_iff_exists'.mp hx
    exact h.unreserved x (Option.ne_none_iff_exists'.mpr ⟨q, ((hocc x q).mp hq).1⟩)
  · obtain ⟨hf, hc⟩ := (h.carriers k).stranded t ht hst
    exact ⟨hf, (hcar k t.robot).mpr ⟨hc, hs k t ht hst⟩⟩
  · exact (h.carriers k).loaded q ((hcar k q).mp hq).1
  · exact (h.carriers k).carrying t q ht hst ((hcar k q).mp hq).1
  · have ⟨hp, hm⟩ := h.retired q he hv
    refine ⟨?_, hm⟩
    rw [hplace, hp, ite_self]

/-- R41, R42: a robot without a place comes to a row without occupant, which nobody has a standing reservation of. -/
theorem seat {r : RobotId} {row : RowId} (h : v.Lawful l e) (hp : v.place r = .unknown) (ho : v.occupant row = none)
    (hr : ∀ q, v.reserved row = some q → l = some q) (hw : v.retired r = true → e = some r) :
    (v.seat r row).Lawful l e := by
  have hkept : ∀ x q, l ≠ some q → v.reserved x = some q → (v.seat r row).reserved x = some q := by
    intro x q hl hx
    have hne : x ≠ row := fun hxr => hl (hr q (hxr ▸ hx))
    simpa [Ledger.seat, hne] using hx
  refine { h with atRow := fun q x => ?_, aboard := fun q k => ?_, unreserved := fun x hx => ?_,
                  backed := fun k => ⟨fun q hq hl => hkept _ _ hl ((h.backed k).queued q hq hl),
                    fun t ht hs hl => hkept _ _ hl ((h.backed k).serving t ht hs hl)⟩,
                  requested := fun x q hx => h.requested x q ?_, retired := fun q he hv => ?_ }
  · have hx := h.atRow q x
    simp only [Ledger.seat, Function.update_apply]
    split <;> split
    next hq hxr => simp [hq, hxr]
    next hq hxr =>
      rw [hq, hp] at hx
      rw [hq]
      exact ⟨fun e => absurd (Place.row.inj e).symm hxr, fun e => nomatch hx.mpr e⟩
    next hq hxr =>
      rw [hxr, ho] at hx
      rw [hxr]
      exact ⟨fun e => (nomatch hx.mp e), fun e => absurd (Option.some.inj e).symm hq⟩
    next => exact hx
  · have hk := h.aboard q k
    simp only [Ledger.seat, Function.update_apply]
    split
    next hq =>
      rw [hq, hp] at hk
      rw [hq]
      exact ⟨fun e => (nomatch e), fun e => nomatch hk.mpr e⟩
    next => exact hk
  · simp only [Ledger.seat, Function.update_apply] at hx ⊢
    split at hx
    next hxr => rw [if_pos hxr]
    next hxr => rw [if_neg hxr]; exact h.unreserved x hx
  · simp only [Ledger.seat, Function.update_apply] at hx
    split at hx
    next => exact nomatch hx
    next => exact hx
  · have ⟨hu, hm⟩ := h.retired q he hv
    have hne : q ≠ r := fun hq => he (hq ▸ hw (hq ▸ hv))
    exact ⟨by simpa [Ledger.seat, hne] using hu, hm⟩

/-- R41: a robot without a place is carried by the shuttle of its transfer. -/
theorem board {r : RobotId} {k : ShuttleIx} {c : Carrier} (h : v.Lawful l e) (hp : v.place r = .unknown)
    (hn : (v.carrier k).carried = none) (hr : r ∈ (v.carrier k).robots) (hc : c.Lawful) (hcarried : c.carried = some r)
    (hb : c.Reserved l v.reserved) (hseek : ∀ row q, (v.carrier k).Seeks q row → c.Seeks q row)
    (hrobots : c.robots = (v.carrier k).robots) : (v.board r k c).Lawful l e := by
  have hmem : ∀ j, ((v.board r k c).carrier j).robots = (v.carrier j).robots := by
    intro j
    simp only [Ledger.board, Function.update_apply]
    split
    next hj => rw [hrobots, hj]
    next => rfl
  refine { h with atRow := fun q x => ?_, aboard := fun q j => ?_, backed := fun j => ?_,
                  requested := fun row q hq => ?_, once := fun j => hmem j ▸ h.once j,
                  apart := fun i j q hi hj => h.apart i j q (hmem i ▸ hi) (hmem j ▸ hj), carriers := fun j => ?_,
                  retired := fun q he hv => ?_ }
  · have hx := h.atRow q x
    simp only [Ledger.board, Function.update_apply]
    split
    next hq =>
      rw [hq, hp] at hx
      rw [hq]
      exact ⟨fun e => (nomatch e), fun e => nomatch hx.mpr e⟩
    next => exact hx
  · have hj := h.aboard q j
    simp only [Ledger.board, Function.update_apply]
    split <;> split
    next hq hjk => simp [hq, hjk, hcarried]
    next hq hjk =>
      rw [hq, hp] at hj
      rw [hq]
      exact ⟨fun e => absurd (Place.shuttle.inj e).symm hjk, fun e => nomatch hj.mpr e⟩
    next hq hjk =>
      rw [hjk, hn] at hj
      rw [hjk, hcarried]
      exact ⟨fun e => (nomatch hj.mp e), fun e => absurd (Option.some.inj e).symm hq⟩
    next => exact hj
  · simp only [Ledger.board, Function.update_apply]
    split
    next => exact hb
    next => exact h.backed j
  · obtain ⟨j, hj⟩ := h.requested row q hq
    refine ⟨j, ?_⟩
    simp only [Ledger.board, Function.update_apply]
    split
    next hjk => exact hseek row q (hjk ▸ hj)
    next => exact hj
  · simp only [Ledger.board, Function.update_apply]
    split
    next => exact hc
    next => exact h.carriers j
  · have ⟨hu, hm⟩ := h.retired q he hv
    have hne : q ≠ r := fun hq => hm k (hq ▸ hr)
    exact ⟨by simpa [Ledger.board, hne] using hu, fun j => hmem j ▸ hm j⟩

/-- An activity other than WITHDRAWN. -/
theorem unretire (h : v.Lawful l e) (r : RobotId) : (v.retire r false).Lawful l e :=
  { h with
    retired := fun q he hv => by
      simp only [Ledger.retire, Function.update_apply] at hv
      split at hv
      next => exact nomatch hv
      next => exact h.retired q he hv }

/-- A robot that is not WITHDRAWN needs no excuse. -/
theorem unexcuse {r : RobotId} (h : v.Lawful l (some r)) (hw : v.retired r = false) : v.Lawful l none :=
  { h with
    retired := fun q _ hv => h.retired q (fun hq => by cases hq; exact nomatch hw.symm.trans hv) hv }

/-- R46: the activity WITHDRAWN of a robot without place and request. -/
theorem retire {r : RobotId} (h : v.Lawful l e) (hp : v.place r = .unknown) (hr : ∀ k, r ∉ (v.carrier k).robots) :
    (v.retire r true).Lawful l e :=
  { h with
    retired := fun q he hv => by
      by_cases hq : q = r
      · subst hq
        exact ⟨hp, hr⟩
      · exact h.retired q he (by simpa [Ledger.retire, hq] using hv) }

end Ledger.Lawful

end Sys2Proof.Machine
end

section
/-!
SUPPORT. The operations on places, reservations and transfers keep the ledger lawful (chapters 2 and 7).
-/

namespace Sys2Proof.Machine

variable {l e : Option RobotId} {s : State} {k : ShuttleIx} {t : Transfer} {r : RobotId} {row : RowId}

/-! ### What the operations do to the ledger -/

theorem modShuttle_withCarrier (k : ShuttleIx) (f : Shuttle → Shuttle) (s : State) :
    (modShuttle k f s).ledger = s.ledger.withCarrier k (f (s.shuttle k)).carrier := by
  unfold State.ledger Ledger.withCarrier
  congr 1
  funext j
  rw [modShuttle_shuttles, tget_tset, Function.update_apply]
  split <;> rfl

@[simp] theorem withCarrier_withCarrier (v : Ledger) (k : ShuttleIx) (c d : Carrier) :
    (v.withCarrier k c).withCarrier k d = v.withCarrier k d := by
  simp [Ledger.withCarrier]

@[simp] theorem withCarrier_carrier (v : Ledger) (k : ShuttleIx) (c : Carrier) : (v.withCarrier k c).carrier k = c := by
  simp [Ledger.withCarrier]

theorem releaseAll_ledger (ps : List (RowId × RobotId)) (s : State) :
    (releaseAll ps s).ledger = s.ledger.releaseAll ps := by
  unfold State.ledger Ledger.releaseAll
  simp [releaseAll, Row.releasedBy, State.row]

theorem releaseRow_ledger (row : RowId) (r : RobotId) (s : State) :
    (releaseRow row r s).ledger = s.ledger.releaseAll [(row, r)] := by
  rw [releaseRow_eq, releaseAll_ledger]

theorem emptyTransfer_ledger (k : ShuttleIx) (s : State) :
    (emptyTransfer k s).ledger = s.ledger.withCarrier k { s.ledger.carrier k with transfer := none } :=
  modShuttle_withCarrier k _ s

theorem drop_none {v : Ledger} {p : Request → Bool} (h : (v.carrier k).queue.filter p = []) : v.drop k p = v := by
  have hq : (v.carrier k).queue.filter (fun q => !p q) = (v.carrier k).queue :=
    List.filter_eq_self.mpr fun q hq => by simpa using List.filter_eq_nil_iff.mp h q hq
  simp [Ledger.drop, hq, h, Ledger.withCarrier, Ledger.releaseAll]

/-- R151. -/
theorem dropRequests_ledger (k : ShuttleIx) (p : Request → Bool) (o : TransferOutcome) (s : State) :
    (dropRequests k p o s).ledger = s.ledger.drop k p := by
  unfold dropRequests
  dsimp only
  split
  next h => exact (drop_none h).symm
  next =>
    simp only [push_ledger, leftFullQueue_ledger, forEach_ledger, answerTransfer_ledger, ne_eq, reduceCtorEq,
      not_false_eq_true, implies_true, forEach_releaseRow, releaseAll_ledger, markRewrite_ledger,
      modShuttle_withCarrier]
    rfl

theorem modRow_row (row : RowId) (f : Row → Row) (s : State) : (modRow row f s).ledger
    = { s.ledger with
        occupant := Function.update s.ledger.occupant row (f (s.row row)).occupant
        reserved := Function.update s.ledger.reserved row (f (s.row row)).reserved } := by
  refine Ledger.ext (funext fun j => ?_) (funext fun j => ?_) rfl rfl rfl rfl
  all_goals
    simp only [State.ledger, modRow_rows, tget_tset, Function.update_apply]
    split <;> rfl

theorem modRobot_robot (r : RobotId) (f : Robot → Robot) (s : State) : (modRobot r f s).ledger
    = { s.ledger with
        place := Function.update s.ledger.place r (f (s.robot r)).place
        retired := Function.update s.ledger.retired r ((f (s.robot r)).activity == .withdrawn) } := by
  refine Ledger.ext rfl rfl (funext fun j => ?_) (funext fun j => ?_) rfl rfl
  all_goals
    simp only [State.ledger, modRobot_robots, tget_tset, Function.update_apply]
    split <;> rfl

theorem vacate_ledger (h : s.ledger.Lawful l e) (r : RobotId) : (vacate r s).ledger = s.ledger.vacate r := by
  have hretired : Function.update s.ledger.retired r (s.ledger.retired r) = s.ledger.retired :=
    Function.update_eq_self _ _
  have hrow : ∀ x, s.ledger.occupant x = some r ↔ s.ledger.place r = .row x := fun x => (h.atRow r x).symm
  have hcar : ∀ j, (s.ledger.carrier j).carried = some r ↔ s.ledger.place r = .shuttle j := fun j => (h.aboard r j).symm
  have hpl : (s.robot r).place = s.ledger.place r := rfl
  unfold vacate
  dsimp only
  rw [hpl]
  refine (modRobot_robot _ _ _).trans ?_
  cases hp : s.ledger.place r with
  | unknown =>
    refine Ledger.ext (funext fun x => ?_) rfl rfl hretired (funext fun j => ?_) rfl
    · exact (if_neg fun hx => nomatch hp.symm.trans ((hrow x).mp hx)).symm
    · exact Carrier.ext rfl (if_neg fun hx => nomatch hp.symm.trans ((hcar j).mp hx)).symm rfl rfl
  | row y =>
    rw [modRow_row]
    refine Ledger.ext (funext fun x => ?_) (Function.update_eq_self _ _) rfl hretired (funext fun j => ?_) rfl
    · simp only [Ledger.vacate, Function.update_apply]
      split
      next hx => subst hx; rfl
      next hx => exact (if_neg fun ho => hx (Place.row.inj (hp.symm.trans ((hrow x).mp ho))).symm).symm
    · exact Carrier.ext rfl (if_neg fun hx => nomatch hp.symm.trans ((hcar j).mp hx)).symm rfl rfl
  | shuttle i =>
    rw [modShuttle_withCarrier]
    refine Ledger.ext (funext fun x => ?_) rfl rfl hretired (funext fun j => ?_) rfl
    · exact (if_neg fun hx => nomatch hp.symm.trans ((hrow x).mp hx)).symm
    · simp only [Ledger.vacate, Ledger.withCarrier, Function.update_apply]
      split
      next hj => subst hj; rfl
      next hj =>
        have hne : (s.ledger.carrier j).carried ≠ some r :=
          fun ho => hj (Place.shuttle.inj (hp.symm.trans ((hcar j).mp ho))).symm
        exact Carrier.ext rfl (if_neg hne).symm rfl rfl


/-! ### Shuttles without a transfer -/

theorem Carrier.Lawful.transfer_none {c : Carrier} (h : c.Lawful) (hs : ∀ g : Stage, c.state ≠ g.state)
    (hf : c.state ≠ .fault) : c.transfer = none := by
  refine Option.eq_none_iff_forall_ne_some.mpr fun t ht => ?_
  cases hst : t.stranded
  · exact hs t.stage (h.stages t ht hst)
  · exact hf (h.stranded t ht hst).1

theorem Carrier.Lawful.carried_none {c : Carrier} (h : c.Lawful)
    (hs : c.state ≠ .carry ∧ c.state ≠ .alight ∧ c.state ≠ .fault) : c.carried = none :=
  Option.eq_none_iff_forall_ne_some.mpr fun r hr => (h.loaded r hr).elim hs.1 (Or.elim · hs.2.1 hs.2.2)

theorem dropRequests_lawful (h : s.ledger.Lawful l e) (k : ShuttleIx) (p : Request → Bool) (o : TransferOutcome) :
    (dropRequests k p o s).ledger.Lawful l e :=
  dropRequests_ledger k p o s ▸ h.drop k p

/-- A shuttle without a transfer takes a state; with a robot aboard only FAULT. -/
theorem Ledger.Lawful.withState {v : Ledger} (h : v.Lawful l e) (ht : (v.carrier k).transfer = none)
    {st : ShuttleState} (hc : (v.carrier k).carried = none ∨ st = .fault) :
    (v.withCarrier k { v.carrier k with state := st }).Lawful l e :=
  h.withCarrier k
    { stages := fun _ hm => nomatch ht.symm.trans hm
      stranded := fun _ hm => nomatch ht.symm.trans hm
      loaded := fun _ hr => hc.elim (fun hn => nomatch hn.symm.trans hr) fun hf => .inr (.inr hf)
      carrying := fun _ _ hm => nomatch ht.symm.trans hm }
    rfl ⟨(h.backed k).queued, (h.backed k).serving⟩ (fun _ _ _ hx => hx) (h.once k) fun _ hx => hx

theorem modState_lawful (h : s.ledger.Lawful l e) {f : Shuttle → Shuttle} {st : ShuttleState}
    (hf : (f (s.shuttle k)).carrier = { s.ledger.carrier k with state := st })
    (ht : (s.ledger.carrier k).transfer = none) (hc : (s.ledger.carrier k).carried = none ∨ st = .fault) :
    (modShuttle k f s).ledger.Lawful l e := by
  rw [modShuttle_withCarrier, hf]
  exact h.withState ht hc

theorem enterFault_ledger (k : ShuttleIx) (s : State) : (enterFault k s).ledger
    = (s.ledger.withCarrier k { s.ledger.carrier k with state := .fault }).drop k fun _ => true := by
  rw [enterFault, dropRequests_ledger, modShuttle_withCarrier]
  rfl

/-- R145, R151. -/
theorem enterFault_lawful (h : s.ledger.Lawful l e) (ht : (s.ledger.carrier k).transfer = none) :
    (enterFault k s).ledger.Lawful l e :=
  enterFault_ledger k s ▸ (h.withState ht (.inr rfl)).drop _ _

/-- R166. -/
theorem goToShelter_lawful (h : s.ledger.Lawful l e) (ht : (s.ledger.carrier k).transfer = none)
    (hc : (s.ledger.carrier k).carried = none) : (goToShelter k s).ledger.Lawful l e := by
  rw [goToShelter, startDrive_ledger]
  exact modState_lawful h rfl ht (.inl hc)

/-- R145, R166. -/
theorem becomeIdle_lawful (h : s.ledger.Lawful l e) (ht : (s.ledger.carrier k).transfer = none)
    (hc : (s.ledger.carrier k).carried = none) : (becomeIdle k s).ledger.Lawful l e := by
  unfold becomeIdle
  split
  · exact goToShelter_lawful h ht hc
  · rw [push_ledger _ (by simp)]
    exact modState_lawful h rfl ht (.inl hc)

/-! ### Transfers given up -/

/-- A transfer whose reservation is gone is taken off its shuttle. -/
theorem emptyTransfer_lawful (h : s.ledger.Lawful (some t.robot) e) (ht : (s.ledger.carrier k).transfer = some t)
    (hr : s.ledger.reserved t.destination ≠ some t.robot) : (emptyTransfer k s).ledger.Lawful none e := by
  have hsub : ∀ r ∈ ({ s.ledger.carrier k with transfer := none } : Carrier).robots, r ∈ (s.ledger.carrier k).robots :=
    fun r hx => Carrier.mem_robots.mpr ((Carrier.mem_robots.mp hx).imp_right fun ⟨_, hy, _⟩ => nomatch hy)
  have hempty : (emptyTransfer k s).ledger.Lawful (some t.robot) e := by
    rw [emptyTransfer_ledger]
    refine h.withCarrier k ⟨nofun, nofun, (h.carriers k).loaded, nofun⟩ rfl
      ⟨(h.backed k).queued, nofun⟩ ?_ ((h.once k).sublist ?_) hsub
    · rintro row r hres (hq | ⟨y, hy, rfl, rfl⟩)
      · exact .inl hq
      · cases ht.symm.trans hy
        exact absurd hres hr
    · simp [Carrier.robots]
  refine hempty.restore (fun j q hq hqr => ?_) fun j y hy _ hyr => ?_
  all_goals
    rw [emptyTransfer_ledger] at *
    simp only [Ledger.withCarrier, Function.update_apply] at *
  · refine h.queue_ne_transfer (j := j) ?_ ht hqr
    split at hq
    next hj => exact hj ▸ hq
    next => exact hq
  · split at hy
    next => exact nomatch hy
    next hj => exact hj (h.transfer_unique hy ht hyr).1

theorem giveUp_lawful (h : s.ledger.Lawful (some t.robot) e) (ht : (s.ledger.carrier k).transfer = some t) :
    (emptyTransfer k (releaseRow t.destination t.robot s)).ledger.Lawful none e := by
  refine emptyTransfer_lawful (t := t) ?_ ?_ fun hr => ?_
  · rw [releaseRow_ledger]
    exact h.release _
  · rw [releaseRow_ledger]
    exact ht
  · rw [releaseRow_ledger] at hr
    exact (Ledger.Lawful.releaseAll_some hr).2 (List.mem_singleton_self _)

theorem giveUp_carrier (k : ShuttleIx) (row : RowId) (r : RobotId) (s : State) :
    (emptyTransfer k (releaseRow row r s)).ledger.carrier k = { s.ledger.carrier k with transfer := none } := by
  rw [emptyTransfer_ledger, releaseRow_ledger, withCarrier_carrier]
  rfl

/-- A robot in an activity other than WITHDRAWN. -/
theorem modActivity_lawful (h : s.ledger.Lawful l e) {f : Robot → Robot}
    (hp : (f (s.robot r)).place = (s.robot r).place)
    (ha : (f (s.robot r)).activity = (s.robot r).activity ∨ (f (s.robot r)).activity ≠ .withdrawn) :
    (modRobot r f s).ledger.Lawful l e := by
  have heq : ∀ w, ((f (s.robot r)).activity == .withdrawn) = w → (modRobot r f s).ledger = s.ledger.retire r w := by
    intro w hw
    rw [modRobot_robot, hp, hw]
    exact Ledger.ext rfl rfl (Function.update_eq_self _ _) rfl rfl rfl
  rcases ha with ha | ha
  · exact (modRobot_ledger s r f ⟨hp, ha⟩).symm ▸ h
  · rw [heq false (by simpa using ha)]
    exact h.unretire r

/-- R159. -/
theorem failFetch_lawful (h : s.ledger.Lawful (some t.robot) e) (ht : (s.ledger.carrier k).transfer = some t) :
    (failFetch k t s).ledger.Lawful none e := by
  unfold failFetch
  refine enterFault_lawful ?_ ?_ <;> rw [finishTransfer_ledger]
  · exact giveUp_lawful h ht
  · rw [giveUp_carrier]

theorem haltBoth_lawful (h : s.ledger.Lawful l e) (k : ShuttleIx) (r : RobotId) : (haltBoth k r s).ledger.Lawful l e :=
  (haltBoth_ledger s k r).symm ▸ h

/-- R160, R162. -/
theorem failBoard_lawful (h : s.ledger.Lawful (some t.robot) e) (ht : (s.ledger.carrier k).transfer = some t)
    (cause : TransferCause) : (failBoard k t cause s).ledger.Lawful none e := by
  have hhalt : (haltBoarding t.robot (haltBoth k t.robot s)).ledger.Lawful (some t.robot) e := by
    refine modActivity_lawful (haltBoth_lawful h k t.robot) rfl ?_
    dsimp only
    split
    · exact .inr (by simp)
    · exact .inl rfl
  have hcar : (haltBoarding t.robot (haltBoth k t.robot s)).ledger.carrier k = s.ledger.carrier k := by
    rw [haltBoarding, modRobot_robot, haltBoth_ledger]
  unfold failBoard
  refine enterFault_lawful ?_ ?_ <;> rw [finishTransfer_ledger]
  · exact giveUp_lawful hhalt (hcar ▸ ht)
  · rw [giveUp_carrier]

/-- R161: the record of a failed CARRY or ALIGHT stays, with the shuttle in FAULT, while its robot is aboard. -/
theorem strand_lawful (h : s.ledger.Lawful (some t.robot) e) (ht : (s.ledger.carrier k).transfer = some t)
    (ha : s.ledger.place t.robot = .shuttle k) :
    (s.ledger.withCarrier k { s.ledger.carrier k with
      state := .fault, transfer := some { t with stranded := true, aborting := none } }).Lawful none e := by
  have hcarried : (s.ledger.carrier k).carried = some t.robot := (h.aboard t.robot k).mp ha
  have hrobots : ({ s.ledger.carrier k with
      state := .fault, transfer := some { t with stranded := true, aborting := none } } : Carrier).robots
        = (s.ledger.carrier k).robots := by
    simp [Carrier.robots, ht]
  have hstranded := h.withCarrier k (c := { s.ledger.carrier k with
      state := .fault, transfer := some { t with stranded := true, aborting := none } })
    { stages := fun y hy hs => by cases hy; exact nomatch hs
      stranded := fun y hy _ => by cases hy; exact ⟨rfl, hcarried⟩
      loaded := fun _ _ => .inr (.inr rfl)
      carrying := fun y _ hy hs => by cases hy; exact nomatch hs }
    rfl ⟨(h.backed k).queued, fun y hy hs => by cases hy; exact nomatch hs⟩
    (fun row r _ hx => hx.imp_right fun ⟨y, hy, hyr, hd⟩ => by cases ht.symm.trans hy; exact ⟨_, rfl, hyr, hd⟩)
    (hrobots ▸ h.once k) fun _ hx => hrobots ▸ hx
  refine hstranded.restore (fun j q hq => ?_) fun j y hy hs hyr => ?_
  all_goals simp only [Ledger.withCarrier, Function.update_apply] at *
  · refine h.queue_ne_transfer (j := j) ?_ ht
    split at hq
    next hj => exact hj ▸ hq
    next => exact hq
  · split at hy
    next => cases hy; exact nomatch hs
    next hj => exact hj (h.transfer_unique hy ht hyr).1

/-- R161, R162. -/
theorem failAboard_lawful (h : s.ledger.Lawful (some t.robot) e) (ht : (s.ledger.carrier k).transfer = some t)
    (cause : TransferCause) : (failAboard k t cause s).ledger.Lawful none e := by
  have hhalt : (haltAboard t.robot (haltBoth k t.robot s)).ledger.Lawful (some t.robot) e := by
    refine modActivity_lawful (haltBoth_lawful h k t.robot) rfl ?_
    dsimp only
    split
    · exact .inl rfl
    · exact .inr (by simp)
  have hcar : (haltAboard t.robot (haltBoth k t.robot s)).ledger.carrier k = s.ledger.carrier k := by
    rw [haltAboard, modRobot_robot, haltBoth_ledger]
  unfold failAboard
  dsimp only
  generalize haltAboard t.robot (haltBoth k t.robot s) = u at hhalt hcar
  unfold strand
  split
  next ha =>
    rw [enterFault_ledger, finishTransfer_ledger, modShuttle_withCarrier, withCarrier_carrier, withCarrier_withCarrier]
    exact (strand_lawful hhalt (hcar ▸ ht) ha).drop _ _
  next =>
    refine enterFault_lawful ?_ ?_ <;> rw [finishTransfer_ledger]
    · exact giveUp_lawful hhalt (hcar ▸ ht)
    · rw [giveUp_carrier]

/-! ### Transfers in service -/

/-- What the transfer in service at a shuttle says of its carrier. -/
theorem Ledger.Lawful.serves (h : s.ledger.Lawful l e) (hx : (s.shuttle k).inService = some t) :
    (s.ledger.carrier k).transfer = some t ∧ (s.ledger.carrier k).state = t.stage.state ∧ t.stranded = false :=
  have ⟨ht, hs⟩ := inService_eq_some_iff.mp hx
  ⟨ht, (h.carriers k).stages t ht hs, hs⟩

theorem Ledger.Lawful.serves_empty (h : s.ledger.Lawful l e) (hx : (s.shuttle k).inService = some t)
    (hs : t.stage = .fetch ∨ t.stage = .board) : (s.ledger.carrier k).carried = none := by
  obtain ⟨_, hst, _⟩ := h.serves hx
  refine (h.carriers k).carried_none ?_
  rw [hst]
  rcases hs with hs | hs <;> rw [hs] <;> decide

/-- R158 to R161. -/
theorem failStage_lawful (h : s.ledger.Lawful none e) (k : ShuttleIx) : (failStage k s).ledger.Lawful none e := by
  unfold failStage
  split
  · exact h
  next t hx =>
    have ht := (h.serves hx).1
    have hl := h.lapse (some t.robot)
    split
    · exact failFetch_lawful hl ht
    · exact failBoard_lawful hl ht _
    · exact failAboard_lawful hl ht _
    · exact failAboard_lawful hl ht _

/-- R154, R155: where the stage is FETCH or BOARD. -/
theorem failPlace_lawful (h : s.ledger.Lawful none e) (hx : (s.shuttle k).inService = some t)
    (hs : t.stage = .fetch ∨ t.stage = .board) : (failPlace k s).ledger.Lawful none e := by
  have ht := (h.serves hx).1
  have hc := h.serves_empty hx hs
  unfold failPlace
  rw [hx]
  refine becomeIdle_lawful ?_ ?_ ?_ <;> rw [finishTransfer_ledger]
  · exact giveUp_lawful (by simpa using h.lapse (some t.robot)) (by simpa using ht)
  · rw [giveUp_carrier]
  · rw [giveUp_carrier, commandShuttle_ledger]
    exact hc

/-- R162: the reservation has been released before. -/
theorem failConflict_lawful (hx : (s.shuttle k).inService = some t) (h : s.ledger.Lawful (some t.robot) e)
    (hr : s.ledger.reserved t.destination ≠ some t.robot) : (failConflict k s).ledger.Lawful none e := by
  have ht := (h.serves hx).1
  unfold failConflict
  rw [hx]
  dsimp only
  split
  next hst =>
    have hc := h.serves_empty hx (.inl hst)
    refine becomeIdle_lawful ?_ ?_ ?_ <;> rw [finishTransfer_ledger]
    · exact emptyTransfer_lawful (by simpa using h) (by simpa using ht) (by simpa using hr)
    · rw [emptyTransfer_ledger, withCarrier_carrier]
    · rw [emptyTransfer_ledger, withCarrier_carrier, commandShuttle_ledger]
      exact hc
  · exact failBoard_lawful h ht _
  · exact failAboard_lawful h ht _
  · exact failAboard_lawful h ht _

/-- The record of a transfer in service changes its stage, with the shuttle's state, or its abort. -/
theorem Ledger.Lawful.withStage {v : Ledger} (h : v.Lawful l e) (ht : (v.carrier k).transfer = some t)
    (hs : t.stranded = false) {y : Transfer}
    (hy : y.robot = t.robot ∧ y.destination = t.destination ∧ y.stranded = false)
    (hc : (v.carrier k).carried = none ∨ y.stage = .carry ∨ y.stage = .alight) :
    (v.withCarrier k { v.carrier k with state := y.stage.state, transfer := some y }).Lawful l e := by
  obtain ⟨hyr, hyd, hys⟩ := hy
  have hrobots : ({ v.carrier k with state := y.stage.state, transfer := some y } : Carrier).robots
      = (v.carrier k).robots := by
    simp [Carrier.robots, ht, hyr]
  refine h.withCarrier k
    { stages := fun z hz _ => by cases hz; rfl
      stranded := fun z hz hzs => by cases hz; exact nomatch hys.symm.trans hzs
      loaded := fun r hr => ?_
      carrying := fun z r hz _ hr => by cases hz; exact hyr.trans ((h.carriers k).carrying t r ht hs hr) }
    rfl ⟨(h.backed k).queued, fun z hz _ hl => ?_⟩ (fun row r _ => Or.imp_right ?_) (hrobots ▸ h.once k)
    fun _ hx => hrobots ▸ hx
  · rcases hc with hn | hg | hg
    · exact nomatch hn.symm.trans hr
    · exact .inl (congrArg Stage.state hg)
    · exact .inr (.inl (congrArg Stage.state hg))
  · cases hz
    rw [hyr, hyd] at *
    exact (h.backed k).serving t ht hs hl
  · rintro ⟨z, hz, hzr, hzd⟩
    cases ht.symm.trans hz
    exact ⟨y, rfl, hyr.trans hzr, hyd.trans hzd⟩

/-- R154, R156: a stage at a dock begins. -/
theorem startDockStage_lawful (h : s.ledger.Lawful l e) (hx : (s.shuttle k).inService = some t) (g : Stage)
    (hc : (s.ledger.carrier k).carried = none ∨ g = .alight) :
    (startDockStage k g.state g s).ledger.Lawful l e := by
  obtain ⟨ht, _, hs⟩ := h.serves hx
  have hmap : (s.shuttle k).transfer = some t := ht
  unfold startDockStage
  rw [modShuttle_withCarrier]
  simp only [Shuttle.carrier, hmap, Option.map_some]
  exact h.withStage (y := { t with stage := g }) ht hs ⟨rfl, rfl, hs⟩ (hc.imp_right .inr)

/-- R164, R165. -/
theorem abortBoard_lawful (h : s.ledger.Lawful l e) (hx : (s.shuttle k).inService = some t) (d : Nat)
    (hst : t.stage = .board) : (abortBoard k t d s).ledger.Lawful l e := by
  obtain ⟨ht, hstate, hs⟩ := h.serves hx
  have hc := h.serves_empty hx (.inr hst)
  unfold abortBoard
  split
  · exact h
  · rw [commandRobot_ledger, modShuttle_withCarrier]
    have hstage := h.withStage (y := { t with aborting := some d }) ht hs ⟨rfl, rfl, hs⟩ (.inl hc)
    have hsame : ({ t with aborting := some d } : Transfer).stage.state = (s.ledger.carrier k).state := hstate.symm
    rw [hsame] at hstage
    exact hstage

/-- R164, R165. -/
theorem cancelFetch_lawful (h : s.ledger.Lawful none e) (ht : (s.ledger.carrier k).transfer = some t) (d : Nat) :
    (cancelFetch k t d s).ledger.Lawful none e :=
  (finishTransfer_ledger _ _ _ _).symm ▸ giveUp_lawful (h.lapse _) ht

theorem cancelFetch_carrier (k : ShuttleIx) (t : Transfer) (d : Nat) (s : State) :
    (cancelFetch k t d s).ledger.carrier k = { s.ledger.carrier k with transfer := none } :=
  (finishTransfer_ledger _ _ _ _).symm ▸ giveUp_carrier k _ _ s

/-- R164, R165. -/
theorem completeAbort_lawful (h : s.ledger.Lawful none e) (hx : (s.shuttle k).inService = some t) (d : Nat)
    (hst : t.stage = .board) : (completeAbort k t d s).ledger.Lawful none e := by
  have ht := (h.serves hx).1
  refine becomeIdle_lawful ?_ ?_ ?_
  · exact cancelFetch_lawful h ht d
  · exact congrArg Carrier.transfer (cancelFetch_carrier k t d s)
  · exact (congrArg Carrier.carried (cancelFetch_carrier k t d s)).trans (h.serves_empty hx (.inr hst))

theorem board_ledger (r : RobotId) (k : ShuttleIx) (f : Shuttle → Shuttle) (s : State) :
    (modShuttle k f (modRobot r (fun b => { b with place := .shuttle k }) s)).ledger
      = s.ledger.board r k (f (s.shuttle k)).carrier := by
  rw [modShuttle_withCarrier, modRobot_robot]
  exact Ledger.ext rfl rfl rfl (Function.update_eq_self _ _) rfl rfl

theorem seat_ledger (r : RobotId) (row : RowId) (s : State) :
    (modRow row (fun x => { x with occupant := some r, reserved := none })
      (modRobot r (fun b => { b with place := .row row }) s)).ledger = s.ledger.seat r row := by
  rw [modRow_row, modRobot_robot]
  exact Ledger.ext rfl rfl rfl (Function.update_eq_self _ _) rfl rfl

/-- R155: BOARD completes. -/
theorem completeBoard_lawful (h : s.ledger.Lawful none e) (hx : (s.shuttle k).inService = some t)
    (hst : t.stage = .board) : (completeBoard k t s).ledger.Lawful none e := by
  obtain ⟨ht, _, hs⟩ := h.serves hx
  have hvac : (s.ledger.vacate t.robot).Lawful none e := h.vacate fun j y hy hys hyr => by
    rw [(h.transfer_unique hy ht hyr).2] at hys
    exact nomatch hs.symm.trans hys
  have hq : ((vacate t.robot s).shuttle k).queue = (s.ledger.carrier k).queue :=
    congrArg (fun v => (v.carrier k).queue) (vacate_ledger h t.robot)
  unfold completeBoard boardRobot
  dsimp only
  rw [startDrive_ledger, modShuttle_modShuttle, board_ledger, vacate_ledger h]
  simp only [Shuttle.carrier, hq]
  refine hvac.board (by simp [Ledger.vacate]) (by simp [Ledger.vacate, h.serves_empty hx (.inr hst)])
    (Carrier.transfer_mem ht)
    { stages := fun y hy _ => by cases hy; rfl
      stranded := fun y hy hys => by cases hy; exact nomatch hs.symm.trans hys
      loaded := fun _ _ => .inl rfl
      carrying := fun y q hy _ hc => by cases hy; cases hc; rfl } rfl
    ⟨(h.backed k).queued, fun y hy _ hl => ?_⟩ (fun x q hseek => hseek.imp_right ?_) ?_
  · cases hy
    exact (h.backed k).serving t ht hs hl
  · rintro ⟨y, hy, hyr⟩
    cases ht.symm.trans hy
    exact ⟨_, rfl, hyr⟩
  · simp [Carrier.robots, Ledger.vacate, ht]

/-- R41: a reserved row is unoccupied. -/
theorem Ledger.Lawful.unoccupied {v : Ledger} (h : v.Lawful l e) (hr : v.reserved row = some r) :
    v.occupant row = none := by
  by_contra ho
  exact nomatch (h.unreserved row ho).symm.trans hr

/-- R157, R161: the robot of a transfer is placed at its destination and the record emptied. -/
theorem alight_lawful (h : s.ledger.Lawful none e) (ht : (s.ledger.carrier k).transfer = some t)
    (hr : s.ledger.reserved t.destination = some t.robot) :
    (emptyTransfer k (alightRobot t.robot t.destination s)).ledger.Lawful none e := by
  have hgive := giveUp_lawful (h.lapse (some t.robot)) ht
  have hgone : ∀ j y, ((emptyTransfer k (releaseRow t.destination t.robot s)).ledger.carrier j).transfer = some y →
      y.stranded = true → y.robot ≠ t.robot := by
    intro j y hy _ hyr
    rw [emptyTransfer_ledger, releaseRow_ledger] at hy
    simp only [Ledger.withCarrier, Function.update_apply] at hy
    split at hy
    next => exact nomatch hy
    next hj => exact hj (h.transfer_unique hy ht hyr).1
  have hvac := hgive.vacate hgone
  have hkeys : (emptyTransfer k (alightRobot t.robot t.destination s)).ledger
      = ((emptyTransfer k (releaseRow t.destination t.robot s)).ledger.vacate t.robot).seat t.robot t.destination := by
    unfold alightRobot
    dsimp only
    rw [emptyTransfer_ledger, seat_ledger, vacate_ledger h, emptyTransfer_ledger, releaseRow_ledger]
    refine Ledger.ext rfl (funext fun x => ?_) rfl rfl (funext fun j => ?_) rfl
    · by_cases hd : x = t.destination
      · simp [Ledger.seat, Ledger.withCarrier, hd]
      · simp [Ledger.seat, Ledger.vacate, Ledger.withCarrier, Ledger.releaseAll, hd, Ne.symm hd]
    · simp only [Ledger.seat, Ledger.vacate, Ledger.withCarrier, Ledger.releaseAll, Function.update_apply]
      split <;> rfl
  rw [hkeys]
  refine hvac.seat (by simp [Ledger.vacate]) ?_ (fun q hq => ?_) fun hw => h.retired_ne (Carrier.transfer_mem ht) ?_
  · simp [Ledger.vacate, emptyTransfer_ledger, releaseRow_ledger, Ledger.withCarrier, Ledger.releaseAll,
      h.unoccupied hr]
  · have hq' : ((s.ledger.releaseAll [(t.destination, t.robot)]).reserved t.destination) = some q := by
      simpa [Ledger.vacate, emptyTransfer_ledger, releaseRow_ledger, Ledger.withCarrier] using hq
    obtain ⟨hres, hne⟩ := Ledger.Lawful.releaseAll_some hq'
    cases hr.symm.trans hres
    exact absurd (List.mem_singleton_self _) hne
  · rw [emptyTransfer_ledger, releaseRow_ledger] at hw
    exact hw

/-- R157: the transfer ends. -/
theorem endTransfer_lawful (h : s.ledger.Lawful none e) (hx : (s.shuttle k).inService = some t) :
    (endTransfer k t s).ledger.Lawful none e := by
  obtain ⟨ht, _, hs⟩ := h.serves hx
  have hal := alight_lawful h ht ((h.backed k).serving t ht hs nofun)
  have hcar : ((emptyTransfer k (alightRobot t.robot t.destination s)).ledger.carrier k).transfer = none
      ∧ ((emptyTransfer k (alightRobot t.robot t.destination s)).ledger.carrier k).carried = none := by
    unfold alightRobot
    dsimp only
    rw [emptyTransfer_ledger, withCarrier_carrier, seat_ledger, vacate_ledger h]
    refine ⟨rfl, Option.eq_none_iff_forall_ne_some.mpr fun q hq => ?_⟩
    simp only [Ledger.seat, Ledger.vacate] at hq
    split at hq
    next => exact nomatch hq
    next hn => exact hn (((h.carriers k).carrying t q ht hs hq).symm ▸ hq)
  unfold endTransfer
  dsimp only
  split
  · rw [finishTransfer_ledger]
    exact goToShelter_lawful hal hcar.1 hcar.2
  · rw [push_ledger _ (by simp), finishTransfer_ledger]
    exact modState_lawful hal rfl hcar.1 (.inl hcar.2)

end Sys2Proof.Machine
end

section
/-!
SUPPORT. The start rule, the aborts, the shelter of shuttles and the placement of robots keep the ledger lawful
(chapters 2 and 7).
-/

namespace Sys2Proof.Machine

variable {l e : Option RobotId} {s : State} {k : ShuttleIx} {t : Transfer} {r : RobotId} {row : RowId}

/-! ### Who has which transfer -/

theorem queueOf_eq_some (h : queueOf s r = some k) : ∃ q ∈ (s.ledger.carrier k).queue, q.robot = r := by
  have hk := List.find?_some h
  obtain ⟨q, hq, hr⟩ := List.any_eq_true.mp hk
  exact ⟨q, hq, beq_iff_eq.mp hr⟩

theorem queueOf_eq_none (h : queueOf s r = none) : ∀ j, ∀ q ∈ (s.ledger.carrier j).queue, q.robot ≠ r := by
  intro j q hq hr
  have hj := List.find?_eq_none.mp h j (List.mem_finRange j)
  exact hj (List.any_eq_true.mpr ⟨q, hq, beq_iff_eq.mpr hr⟩)

theorem inService_congr {s u : State} (h : u.ledger = s.ledger) (k : ShuttleIx) :
    (u.shuttle k).inService = (s.shuttle k).inService := by
  have ht : (u.shuttle k).transfer = (s.shuttle k).transfer := congrArg (fun v => (v.carrier k).transfer) h
  rw [Shuttle.inService, ht]
  rfl

theorem serviceOf_eq_some (h : serviceOf s r = some k) : ∃ t, (s.shuttle k).inService = some t ∧ t.robot = r := by
  have hk := List.find?_some h
  cases hx : (s.shuttle k).inService with
  | none => rw [hx] at hk; exact nomatch hk
  | some t => rw [hx] at hk; exact ⟨t, rfl, beq_iff_eq.mp hk⟩

theorem serviceOf_eq_none (h : serviceOf s r = none) :
    ∀ j t, (s.ledger.carrier j).transfer = some t → t.stranded = false → t.robot ≠ r := by
  intro j t ht hs hr
  have hj := List.find?_eq_none.mp h j (List.mem_finRange j)
  have hx : (s.shuttle j).inService = some t := inService_eq_some_iff.mpr ⟨ht, hs⟩
  rw [hx] at hj
  exact hj (beq_iff_eq.mpr hr)

theorem strandedOf_eq_some (h : strandedOf s r = some k) :
    ∃ t, (s.ledger.carrier k).transfer = some t ∧ t.stranded = true ∧ t.robot = r := by
  have hk := List.find?_some h
  show ∃ t, (s.shuttle k).transfer = some t ∧ _
  cases hx : (s.shuttle k).transfer with
  | none => rw [hx] at hk; exact nomatch hk
  | some t =>
    rw [hx] at hk
    obtain ⟨hs, hr⟩ := Bool.and_eq_true_iff.mp hk
    exact ⟨t, rfl, hs, beq_iff_eq.mp hr⟩

theorem strandedOf_eq_none (h : strandedOf s r = none) :
    ∀ j t, (s.ledger.carrier j).transfer = some t → t.stranded = true → t.robot ≠ r := by
  intro j t ht hs hr
  have hj := List.find?_eq_none.mp h j (List.mem_finRange j)
  have ht' : (s.shuttle j).transfer = some t := ht
  rw [ht'] at hj
  exact hj (Bool.and_eq_true_iff.mpr ⟨hs, beq_iff_eq.mpr hr⟩)

/-- R161: a robot that is not aboard a shuttle has no stranded record. -/
theorem Ledger.Lawful.not_stranded {v : Ledger} (h : v.Lawful l e) (hp : ∀ k, v.place r ≠ .shuttle k) :
    ∀ j t, (v.carrier j).transfer = some t → t.stranded = true → t.robot ≠ r := by
  rintro j t ht hs rfl
  exact hp j ((h.aboard t.robot j).mpr ((h.carriers j).stranded t ht hs).2)

/-- R147: a robot at a row that has no request is in no queue and in no record. -/
theorem Ledger.Lawful.unrequested (h : s.ledger.Lawful l e) (hp : s.ledger.place r = .row row)
    (hq : hasRequest s r = false) : ∀ j, r ∉ (s.ledger.carrier j).robots := by
  intro j hj
  obtain ⟨hqueue, hservice⟩ := Bool.or_eq_false_iff.mp hq
  rw [Option.isSome_eq_false_iff, Option.isNone_iff_eq_none] at hqueue hservice
  rcases Carrier.mem_robots.mp hj with ⟨q, hm, hr⟩ | ⟨t, ht, hr⟩
  · exact queueOf_eq_none hqueue j q hm hr
  · cases hs : t.stranded
    · exact serviceOf_eq_none hservice j t ht hs hr
    · exact h.not_stranded (fun k hk => nomatch hp.symm.trans hk) j t ht hs hr

/-! ### Starts and requests (R147, R153) -/

theorem nextRequest_mem {q : Request} (h : nextRequest s k = some q) : q ∈ (s.ledger.carrier k).queue := by
  unfold nextRequest at h
  dsimp only at h
  split at h
  next p hp =>
    cases h
    exact (List.mem_filter.mp (List.mem_of_find?_eq_some hp)).1
  next => exact (List.mem_filter.mp (List.mem_of_mem_head? h)).1

/-- R153. -/
theorem startTransfer_lawful (h : s.ledger.Lawful none e) {q : Request} (hq : q ∈ (s.ledger.carrier k).queue)
    (hi : (s.ledger.carrier k).state = .idle) : (startTransfer k q s).ledger.Lawful none e := by
  have ht : (s.ledger.carrier k).transfer = none :=
    (h.carriers k).transfer_none (fun g => by rw [hi]; cases g <;> decide) (by rw [hi]; decide)
  have hc : (s.ledger.carrier k).carried = none := (h.carriers k).carried_none (by rw [hi]; decide)
  have hsub : ∀ p ∈ (s.ledger.carrier k).queue.filter (fun p => decide (p.robot ≠ q.robot)),
      p ∈ (s.ledger.carrier k).queue := fun p hp => (List.mem_filter.mp hp).1
  unfold startTransfer
  dsimp only
  rw [leftFullQueue_ledger, startDrive_ledger, markRewrite_ledger, modShuttle_withCarrier]
  refine h.withCarrier k
    { stages := fun y hy _ => by cases hy; rfl
      stranded := fun y hy hys => by cases hy; exact nomatch hys
      loaded := fun r hr => nomatch hc.symm.trans hr
      carrying := fun y r hy _ hr => nomatch hc.symm.trans hr }
    rfl ⟨fun p hp => (h.backed k).queued p (hsub p hp), fun y hy _ hl => ?_⟩ (fun x p _ => ?_) ?_ fun p hp => ?_
  · cases hy
    exact (h.backed k).queued q hq hl
  · rintro (⟨g, hg, hgr, hgd⟩ | ⟨y, hy, _⟩)
    · by_cases hgq : g.robot = q.robot
      · obtain ⟨_, rfl⟩ := h.queue_unique hg hq hgq
        exact .inr ⟨_, rfl, hgr, hgd⟩
      · exact .inl ⟨g, List.mem_filter.mpr ⟨hg, by simpa using hgq⟩, hgr, hgd⟩
    · exact nomatch ht.symm.trans hy
  · have hnd := (List.nodup_append.mp (h.once k)).1
    simp only [Shuttle.carrier, Carrier.robots, Option.toList_some, List.map_cons, List.map_nil, List.nodup_append,
      List.nodup_singleton, true_and]
    refine ⟨hnd.sublist (List.filter_sublist.map _), fun a ha b hb hab => ?_⟩
    obtain ⟨g, hg, rfl⟩ := List.mem_map.mp ha
    rw [List.mem_singleton] at hb
    exact (by simpa using (List.mem_filter.mp hg).2 : g.robot ≠ q.robot) (hab.trans hb)
  · rcases Carrier.mem_robots.mp hp with ⟨g, hg, rfl⟩ | ⟨y, hy, rfl⟩
    · exact Carrier.queued_mem (hsub g hg)
    · cases hy
      exact Carrier.queued_mem hq

/-- R152. -/
theorem evaluateStart_lawful (h : s.ledger.Lawful none e) (k : ShuttleIx) :
    (evaluateStart k s).ledger.Lawful none e := by
  unfold evaluateStart
  split
  next hi =>
    split
    next q hq => exact startTransfer_lawful h (nextRequest_mem hq) hi.1
    next => exact h
  next => exact h

theorem joinQueue_ledger (k : ShuttleIx) (q : Request) (s : State) : (joinQueue k q s).ledger = s.ledger.join k q := by
  rw [joinQueue, push_ledger _ (by simp), markRewrite_ledger, modShuttle_withCarrier, reserveRow, modRow_row]
  exact Ledger.ext (Function.update_eq_self _ _) rfl rfl rfl rfl rfl

/-- R41: a granted reserve is of a row without occupant and reservation. -/
theorem reserveGranted_free (h : reserveGranted s row = true) :
    s.ledger.occupant row = none ∧ s.ledger.reserved row = none := by
  simp only [reserveGranted, Bool.and_eq_true, Option.isNone_iff_eq_none] at h
  obtain ⟨⟨⟨_, ho⟩, hr⟩, _⟩ := h
  exact ⟨ho, hr⟩

/-! ### Stages and aborts (R154 to R156, R164 to R166) -/

/-- R154. -/
theorem completeFetch_lawful (h : s.ledger.Lawful l e) (hx : (s.shuttle k).inService = some t)
    (hst : t.stage = .fetch) : (completeFetch k t s).ledger.Lawful l e := by
  rw [completeFetch, commandRobot_ledger]
  exact startDockStage_lawful h hx .board (.inl (h.serves_empty hx (.inl hst)))

/-- R156. -/
theorem completeCarry_lawful (h : s.ledger.Lawful l e) (hx : (s.shuttle k).inService = some t) :
    (completeCarry k t s).ledger.Lawful l e := by
  rw [completeCarry, commandRobot_ledger]
  exact startDockStage_lawful h hx .alight (.inr rfl)

theorem forEach_keeps {α : Type} {P : State → Prop} {f : α → State → State} (hf : ∀ x s, P s → P (f x s)) (xs : List α)
    {s : State} (h : P s) : P (forEach xs f s) := by
  unfold forEach
  induction xs generalizing s with
  | nil => exact h
  | cons x xs ih => exact ih (hf x s h)

theorem cancelFetch_free (h : s.ledger.Lawful none e) (hx : (s.shuttle k).inService = some t) (d : Nat)
    (hst : t.stage = .fetch) : (cancelFetch k t d s).ledger.Lawful none e
      ∧ ((cancelFetch k t d s).ledger.carrier k).transfer = none
      ∧ ((cancelFetch k t d s).ledger.carrier k).carried = none := by
  rw [cancelFetch_carrier]
  exact ⟨cancelFetch_lawful h (h.serves hx).1 d, rfl, h.serves_empty hx (.inl hst)⟩

/-- R164. -/
theorem abortTransfer_lawful (h : s.ledger.Lawful none e) (n : SlotIx) : (abortTransfer n s).ledger.Lawful none e := by
  unfold abortTransfer
  dsimp only
  split
  next k _ => exact dropRequests_lawful h k _ _
  next =>
    refine forEach_keeps (P := fun u => u.ledger.Lawful none e) (fun k u hu => ?_) _ h
    split
    next => exact hu
    next t hx =>
      split
      next =>
        split
        next hst =>
          have hcmd : (commandShuttle k .halt u).ledger = u.ledger := commandShuttle_ledger _ _ _
          obtain ⟨hlaw, ht, hc⟩ := cancelFetch_free (hcmd ▸ hu) ((inService_congr hcmd k).trans hx) 0 hst
          exact becomeIdle_lawful hlaw ht hc
        next hst => exact abortBoard_lawful hu hx 0 hst
        next => exact hu
        next => exact hu
      next => exact hu

/-- A stage is the one that the state of its shuttle names. -/
theorem Ledger.Lawful.stage_eq (h : s.ledger.Lawful l e) (hx : (s.shuttle k).inService = some t) {g : Stage}
    (hs : (s.shuttle k).state = g.state) : t.stage = g := by
  have hst : t.stage.state = g.state := ((h.serves hx).2.1).symm.trans hs
  revert hst
  cases t.stage <;> cases g <;> simp [Stage.state]

/-- A shuttle in a state of no stage, other than FAULT, has no transfer and carries nobody. -/
theorem Ledger.Lawful.rests (h : s.ledger.Lawful l e) (hs : (s.shuttle k).state = .idle
      ∨ (s.shuttle k).state = .toShelter ∨ (s.shuttle k).state = .sheltered) :
    (s.ledger.carrier k).transfer = none ∧ (s.ledger.carrier k).carried = none := by
  have hst : (s.ledger.carrier k).state = (s.shuttle k).state := rfl
  refine ⟨(h.carriers k).transfer_none (fun g => ?_) ?_, (h.carriers k).carried_none ?_⟩
  all_goals
    rw [hst]
    rcases hs with hs | hs | hs <;> rw [hs]
  iterate 3 cases g <;> decide
  all_goals decide

/-- R165. -/
theorem shelterShuttle_lawful (h : s.ledger.Lawful none e) (k : ShuttleIx) :
    (shelterShuttle k s).ledger.Lawful none e := by
  unfold shelterShuttle
  dsimp only
  have hdrop := dropRequests_lawful h k (fun q => (s.row q.source).sheltered || (s.row q.destination).sheltered)
    (.cancelled 1)
  generalize dropRequests k (fun q => (s.row q.source).sheltered || (s.row q.destination).sheltered) (.cancelled 1)
    s = u at hdrop
  split
  next hs => exact goToShelter_lawful hdrop (hdrop.rests (.inl hs)).1 (hdrop.rests (.inl hs)).2
  next hs =>
    split
    next t hx =>
      obtain ⟨hlaw, ht, hc⟩ := cancelFetch_free hdrop hx 1 (hdrop.stage_eq hx (g := .fetch) hs)
      exact goToShelter_lawful hlaw ht hc
    next => exact hdrop
  next hs =>
    split
    next t hx => exact abortBoard_lawful hdrop hx 1 (hdrop.stage_eq hx (g := .board) hs)
    next => exact hdrop
  all_goals exact hdrop

/-- R152, R166. -/
theorem calmerShuttle_lawful (h : s.ledger.Lawful none e) (k : ShuttleIx) :
    (calmerShuttle k s).ledger.Lawful none e := by
  unfold calmerShuttle
  dsimp only
  split
  next hs =>
    have ⟨ht, hc⟩ := h.rests (.inr hs.1)
    exact evaluateStart_lawful (modState_lawful h rfl ht (.inl hc)) k
  next => exact evaluateStart_lawful h k

/-- R158. -/
theorem toldShuttle_lawful (h : s.ledger.Lawful none e) (k : ShuttleIx) (cmd : Cmd) (what : Told) :
    (toldShuttle k cmd what s).ledger.Lawful none e := by
  unfold toldShuttle
  dsimp only
  split
  next purpose =>
    split
    next =>
      have hfail : (if (s.shuttle k).state = .toShelter then failShelter k s else failStage k s).ledger.Lawful none
          e := by
        split
        next hs => exact enterFault_lawful h (h.rests (.inr (.inl hs))).1
        next => exact failStage_lawful h k
      split
      next => exact modShuttle_ledger s k (fun x => { x with goAcknowledged := true }) rfl ▸ h
      next => exact hfail
      next => exact hfail
    next => exact h
  next => exact h

/-- R158. -/
theorem toldTransferRobot_lawful (h : s.ledger.Lawful none e) (r : RobotId) (cmd : Cmd) (what : Told) :
    (toldTransferRobot r cmd what s).ledger.Lawful none e := by
  unfold toldTransferRobot
  split
  next => exact h
  next k _ =>
    split
    next => exact h
    next =>
      have hfail : ∀ b : Bool, (if b then failStage k s else s).ledger.Lawful none e := by
        rintro (_ | _)
        · exact h
        · exact failStage_lawful h k
      dsimp only
      split
      · exact h
      · exact hfail _
      · exact hfail _

/-- R146. -/
theorem actOnShuttle_lawful (h : s.ledger.Lawful none e) (k : ShuttleIx) (rep : ShuttleReport) :
    (actOnShuttle k rep s).ledger.Lawful none e := by
  have hrest : ∀ b : Bool, (s.shuttle k).state = .idle ∨ (s.shuttle k).state = .toShelter
      ∨ (s.shuttle k).state = .sheltered → (if b then enterFault k s else s).ledger.Lawful none e := by
    rintro (_ | _) hs
    · exact h
    · exact enterFault_lawful h (h.rests hs).1
  unfold actOnShuttle
  dsimp only
  split
  next hs => exact hrest _ (.inl hs)
  next hs => exact hrest _ (.inr (.inr hs))
  next hs =>
    split
    next => exact enterFault_lawful h (h.rests (.inr (.inl hs))).1
    next =>
      split
      next =>
        have ⟨ht, hc⟩ := h.rests (.inr (.inl hs))
        exact modState_lawful h rfl ht (.inl hc)
      next => exact h
  next => exact h
  next => exact h
  next hs =>
    split
    next => exact h
    next t hx =>
      split
      next => exact failStage_lawful h k
      next =>
        split
        next => exact completeFetch_lawful h hx (h.stage_eq hx (g := .fetch) hs)
        next => exact h
  next =>
    split
    next => exact h
    next t hx =>
      split
      next => exact failStage_lawful h k
      next =>
        split
        next => exact completeCarry_lawful h hx
        next => exact h
  all_goals
    split
    next => exact failStage_lawful h k
    next => exact h

end Sys2Proof.Machine
end

section
/-!
SUPPORT. The placement of robots by their reports keeps the ledger lawful (R42 to R44, R162).
-/

namespace Sys2Proof.Machine

variable {l e : Option RobotId} {s u : State} {k : ShuttleIx} {t : Transfer} {r : RobotId} {row : RowId}

/-! ### Operations that move nobody -/

/-- Nobody moves from the ledger v to w, no reservation is made, and no robot is recorded WITHDRAWN. -/
structure Ledger.Still (v w : Ledger) : Prop where
  place : w.place = v.place
  occupant : w.occupant = v.occupant
  reserved : ∀ x q, w.reserved x = some q → v.reserved x = some q
  retired : ∀ x, w.retired x = true → v.retired x = true

theorem Ledger.Still.refl (v : Ledger) : v.Still v := ⟨rfl, rfl, fun _ _ => id, fun _ => id⟩

theorem Ledger.Still.trans {v w x : Ledger} (h : v.Still w) (g : w.Still x) : v.Still x :=
  ⟨g.place.trans h.place, g.occupant.trans h.occupant, fun y q => h.reserved y q ∘ g.reserved y q,
    fun y => h.retired y ∘ g.retired y⟩

theorem Ledger.Still.of_eq {v w : Ledger} (h : w = v) : v.Still w := h ▸ Ledger.Still.refl v

theorem modShuttle_still (k : ShuttleIx) (f : Shuttle → Shuttle) (s : State) :
    s.ledger.Still (modShuttle k f s).ledger := by
  rw [modShuttle_withCarrier]
  exact ⟨rfl, rfl, fun _ _ => id, fun _ => id⟩

theorem releaseRow_still (row : RowId) (r : RobotId) (s : State) : s.ledger.Still (releaseRow row r s).ledger := by
  rw [releaseRow_ledger]
  exact ⟨rfl, rfl, fun x q hx => (Ledger.Lawful.releaseAll_some hx).1, fun _ => id⟩

theorem dropRequests_still (k : ShuttleIx) (p : Request → Bool) (o : TransferOutcome) (s : State) :
    s.ledger.Still (dropRequests k p o s).ledger := by
  rw [dropRequests_ledger]
  exact ⟨rfl, rfl, fun x q hx => (Ledger.Lawful.releaseAll_some hx).1, fun _ => id⟩

theorem modActivity_still {f : Robot → Robot} (hp : (f (s.robot r)).place = (s.robot r).place)
    (ha : (f (s.robot r)).activity = (s.robot r).activity ∨ (f (s.robot r)).activity ≠ .withdrawn) :
    s.ledger.Still (modRobot r f s).ledger := by
  rw [modRobot_robot, hp]
  refine ⟨Function.update_eq_self _ _, rfl, fun _ _ => id, fun x hx => ?_⟩
  simp only [Function.update_apply] at hx
  split at hx
  next hxr =>
    rcases ha with ha | ha
    · rw [ha] at hx; exact hxr ▸ hx
    · exact absurd (beq_iff_eq.mp hx) ha
  next => exact hx

theorem enterFault_still (k : ShuttleIx) (s : State) : s.ledger.Still (enterFault k s).ledger :=
  (modShuttle_still k _ s).trans (dropRequests_still k _ _ _)

theorem becomeIdle_still (k : ShuttleIx) (s : State) : s.ledger.Still (becomeIdle k s).ledger := by
  unfold becomeIdle
  split
  · rw [goToShelter, startDrive_ledger]
    exact modShuttle_still k _ s
  · rw [push_ledger _ (by simp)]
    exact modShuttle_still k _ s

theorem giveUp_still (k : ShuttleIx) (row : RowId) (r : RobotId) (s : State) :
    s.ledger.Still (emptyTransfer k (releaseRow row r s)).ledger :=
  (releaseRow_still row r s).trans (modShuttle_still k _ _)

theorem failPlace_still (k : ShuttleIx) (s : State) : s.ledger.Still (failPlace k s).ledger := by
  unfold failPlace
  split
  · exact .refl _
  next t _ =>
    have hcmd : s.ledger.Still (commandShuttle k .halt s).ledger := .of_eq (commandShuttle_ledger _ _ _)
    exact ((hcmd.trans (giveUp_still k t.destination t.robot _)).trans (.of_eq (finishTransfer_ledger _ _ _ _))).trans
      (becomeIdle_still k _)

theorem haltBoarding_still (r : RobotId) (s : State) : s.ledger.Still (haltBoarding r s).ledger := by
  refine modActivity_still rfl ?_
  dsimp only
  split
  · exact .inr (by simp)
  · exact .inl rfl

theorem haltAboard_still (r : RobotId) (s : State) : s.ledger.Still (haltAboard r s).ledger := by
  refine modActivity_still rfl ?_
  dsimp only
  split
  · exact .inl rfl
  · exact .inr (by simp)

theorem failBoard_still (k : ShuttleIx) (t : Transfer) (cause : TransferCause) (s : State) :
    s.ledger.Still (failBoard k t cause s).ledger := by
  have hhalt : s.ledger.Still (haltBoth k t.robot s).ledger := .of_eq (haltBoth_ledger _ _ _)
  exact (((hhalt.trans (haltBoarding_still _ _)).trans (giveUp_still k t.destination t.robot _)).trans
    (.of_eq (finishTransfer_ledger _ _ _ _))).trans (enterFault_still k _)

theorem strand_still (k : ShuttleIx) (t : Transfer) (s : State) : s.ledger.Still (strand k t s).ledger := by
  unfold strand
  split
  · exact modShuttle_still k _ s
  · exact giveUp_still k _ _ s

theorem failAboard_still (k : ShuttleIx) (t : Transfer) (cause : TransferCause) (s : State) :
    s.ledger.Still (failAboard k t cause s).ledger := by
  have hhalt : s.ledger.Still (haltBoth k t.robot s).ledger := .of_eq (haltBoth_ledger _ _ _)
  exact (((hhalt.trans (haltAboard_still _ _)).trans (strand_still k t _)).trans
    (.of_eq (finishTransfer_ledger _ _ _ _))).trans (enterFault_still k _)

theorem failConflict_still (k : ShuttleIx) (s : State) : s.ledger.Still (failConflict k s).ledger := by
  unfold failConflict
  split
  next => exact .refl _
  next t _ =>
    split
    next =>
      have hcmd : s.ledger.Still (commandShuttle k .halt s).ledger := .of_eq (commandShuttle_ledger _ _ _)
      exact ((hcmd.trans (modShuttle_still k _ _)).trans (.of_eq (finishTransfer_ledger _ _ _ _))).trans
        (becomeIdle_still k _)
    next => exact failBoard_still k t _ s
    next => exact failAboard_still k t _ s
    next => exact failAboard_still k t _ s

/-! ### Leaving a place -/

/-- The queued request of a robot leaves with its reservation. -/
theorem dropRobotRequest_lawful (h : s.ledger.Lawful l e) (r : RobotId) (o : TransferOutcome) :
    (dropRobotRequest r o s).ledger.Lawful l e := by
  unfold dropRobotRequest
  split
  · exact dropRequests_lawful h _ _ o
  · exact h

theorem dropRobotRequest_still (r : RobotId) (o : TransferOutcome) (s : State) :
    s.ledger.Still (dropRobotRequest r o s).ledger := by
  unfold dropRobotRequest
  split
  · exact dropRequests_still _ _ o s
  · exact .refl _

/-- The transfers held stay, and the queues keep no request of the robot. -/
theorem drop_carrier {v : Ledger} {k j : ShuttleIx} {p : Request → Bool} :
    ((v.drop k p).carrier j).transfer = (v.carrier j).transfer
      ∧ ((v.drop k p).carrier j).carried = (v.carrier j).carried
      ∧ ((v.drop k p).carrier j).state = (v.carrier j).state
      ∧ ∀ q, q ∈ ((v.drop k p).carrier j).queue ↔ q ∈ (v.carrier j).queue ∧ ¬(j = k ∧ p q = true) := by
  simp only [Ledger.drop, Ledger.releaseAll, Ledger.withCarrier, Function.update_apply]
  split
  next hj => subst hj; simp
  next hj => simp [hj]

theorem dropRobotRequest_carrier (h : s.ledger.Lawful l e) (r : RobotId) (o : TransferOutcome) (j : ShuttleIx) :
    ((dropRobotRequest r o s).ledger.carrier j).transfer = (s.ledger.carrier j).transfer
      ∧ ∀ q ∈ ((dropRobotRequest r o s).ledger.carrier j).queue, q.robot ≠ r := by
  unfold dropRobotRequest
  split
  next k hk =>
    obtain ⟨p, hp, hpr⟩ := queueOf_eq_some hk
    rw [dropRequests_ledger]
    obtain ⟨ht, _, _, hq⟩ := drop_carrier (v := s.ledger) (k := k) (j := j) (p := fun q => q.robot == r)
    refine ⟨ht, fun q hm hr => ?_⟩
    obtain ⟨hmem, hn⟩ := (hq q).mp hm
    exact hn ⟨(h.queue_unique hmem hp (hr.trans hpr.symm)).1, beq_iff_eq.mpr hr⟩
  next hk => exact ⟨rfl, queueOf_eq_none hk j⟩

/-- R151, R161: what becomes of the requests of a robot that leaves its place. -/
theorem leaveTransfers_lawful (h : s.ledger.Lawful none e) (r : RobotId) :
    (leaveTransfers r s).ledger.Lawful none e
      ∧ s.ledger.Still (leaveTransfers r s).ledger
      ∧ (∀ j, ∀ q ∈ ((leaveTransfers r s).ledger.carrier j).queue, q.robot ≠ r)
      ∧ ∀ j t, ((leaveTransfers r s).ledger.carrier j).transfer = some t →
          (s.ledger.carrier j).transfer = some t ∧ (t.stranded = true → t.robot ≠ r) := by
  unfold leaveTransfers
  dsimp only
  have hlaw := dropRobotRequest_lawful h r (.failed .place)
  have hstill := dropRobotRequest_still r (.failed .place) s
  have hcar := dropRobotRequest_carrier h r (.failed .place)
  generalize dropRobotRequest r (.failed .place) s = u at hlaw hstill hcar
  split
  next k hk =>
    obtain ⟨t, ht, _, rfl⟩ := strandedOf_eq_some hk
    have ht' : (u.shuttle k).transfer = some t := ht
    rw [ht']
    have hledger : ∀ j, (emptyTransfer k (releaseRow t.destination t.robot u)).ledger.carrier j
        = if j = k then { u.ledger.carrier k with transfer := none } else u.ledger.carrier j := fun j => by
      rw [emptyTransfer_ledger, releaseRow_ledger]
      exact Function.update_apply _ _ _ _
    refine ⟨giveUp_lawful (hlaw.lapse _) ht, hstill.trans (giveUp_still k _ _ u), fun j q hq => ?_, fun j y hy => ?_⟩
    · rw [hledger] at hq
      refine (hcar j).2 q ?_
      split at hq
      next hj => exact hj ▸ hq
      next => exact hq
    · rw [hledger] at hy
      split at hy
      next => exact nomatch hy
      next hj => exact ⟨(hcar j).1 ▸ hy, fun _ hyr => hj (hlaw.transfer_unique hy ht hyr).1⟩
  next hk => exact ⟨hlaw, hstill, fun j => (hcar j).2, fun j y hy => ⟨(hcar j).1 ▸ hy, strandedOf_eq_none hk j y hy⟩⟩

/-- R42: a robot leaves its place; every other robot stays where it is, and it keeps no reservation but that of a
transfer in service. -/
theorem leavePlace_lawful (h : s.ledger.Lawful none e) (r : RobotId) :
    (leavePlace r s).ledger.Lawful none e
      ∧ (leavePlace r s).ledger.place = Function.update s.ledger.place r .unknown
      ∧ (∀ x, (leavePlace r s).ledger.occupant x = if s.ledger.occupant x = some r then none else s.ledger.occupant x)
      ∧ (∀ x, (leavePlace r s).ledger.retired x = true → s.ledger.retired x = true)
      ∧ ((∀ j t, (s.ledger.carrier j).transfer = some t → t.stranded = false → t.robot ≠ r) →
          ∀ x, (leavePlace r s).ledger.reserved x ≠ some r)
      ∧ ∀ x q, (leavePlace r s).ledger.reserved x = some q → s.ledger.reserved x = some q := by
  obtain ⟨hlaw, hstill, hqueue, hheld⟩ := leaveTransfers_lawful h r
  rw [leavePlace, vacate_ledger hlaw]
  refine ⟨hlaw.vacate fun j t ht hs => (hheld j t ht).2 hs, ?_, fun x => ?_, hstill.retired, fun hn x hx => ?_,
    hstill.reserved⟩
  · rw [Ledger.vacate, hstill.place]
  · rw [Ledger.vacate, hstill.occupant]
  · obtain ⟨j, ⟨q, hq, hr, _⟩ | ⟨t, ht, hr, _⟩⟩ := hlaw.requested x r hx
    · exact hqueue j q hq hr
    · obtain ⟨hold, hst⟩ := hheld j t ht
      cases hs : t.stranded
      · exact hn j t hold hs hr
      · exact hst hs hr

/-! ### Taking a place -/

/-- R42, R162: another robot's reservation of the row is released and its request ends. -/
theorem takeReservation_lawful (h : s.ledger.Lawful none e) (hr : s.ledger.reserved row ≠ some r) :
    (takeReservation row r s).ledger.Lawful none e
      ∧ s.ledger.Still (takeReservation row r s).ledger
      ∧ (takeReservation row r s).ledger.reserved row = none := by
  unfold takeReservation
  split
  next hn => exact ⟨h, .refl _, hn⟩
  next q hq =>
    rw [if_neg fun hqr : q = r => hr (hqr ▸ hq)]
    dsimp only
    have hrel : (releaseRow row q s).ledger.Lawful (some q) e := by
      rw [releaseRow_ledger]
      exact (h.lapse (some q)).release row
    have hstill := releaseRow_still row q s
    have hgone : (releaseRow row q s).ledger.reserved row = none := by
      rw [releaseRow_ledger]
      exact if_pos ⟨_, List.mem_singleton_self _, rfl, hq⟩
    have hstays : ∀ {w : State}, (releaseRow row q s).ledger.Still w.ledger → w.ledger.reserved row = none :=
      fun hw => Option.eq_none_iff_forall_ne_some.mpr fun p hp => nomatch hgone.symm.trans (hw.reserved row p hp)
    have honly : ∀ x, (releaseRow row q s).ledger.reserved x ≠ some q := fun x hx => by
      have hsame : x = row := by
        obtain ⟨j, hj⟩ := h.requested x q (hstill.reserved x q hx)
        obtain ⟨i, hi⟩ := h.requested row q hq
        obtain rfl := h.apart j i q hj.mem hi.mem
        rcases hj with ⟨p, hp, hpr, rfl⟩ | ⟨y, hy, hyr, rfl⟩ <;> rcases hi with ⟨g, hg, hgr, rfl⟩ | ⟨z, hz, hzr, rfl⟩
        · rw [(h.queue_unique hp hg (hpr.trans hgr.symm)).2]
        · exact absurd (hpr.trans hzr.symm) (h.queue_ne_transfer hp hz)
        · exact absurd (hgr.trans hyr.symm) (h.queue_ne_transfer hg hy)
        · rw [(h.transfer_unique hy hz (hyr.trans hzr.symm)).2]
      rw [hsame, hgone] at hx
      exact nomatch hx
    generalize releaseRow row q s = u at hrel hstill hgone hstays honly
    split
    next k hk =>
      obtain ⟨p, hp, hpq⟩ := queueOf_eq_some hk
      have hdrop := dropRequests_still k (fun x => x.robot == q) (.failed .conflict) u
      refine ⟨?_, hstill.trans hdrop, hstays hdrop⟩
      refine (dropRequests_lawful hrel k _ _).restore (fun j g hg hgq => ?_) fun j t ht _ htq => ?_
      all_goals
        rw [dropRequests_ledger] at *
        obtain ⟨htransfer, _, _, hqueue⟩ := drop_carrier (v := u.ledger) (k := k) (j := j) (p := fun x => x.robot == q)
      · obtain ⟨hmem, hn⟩ := (hqueue g).mp hg
        exact hn ⟨(hrel.queue_unique hmem hp (hgq.trans hpq.symm)).1, beq_iff_eq.mpr hgq⟩
      · exact hrel.queue_ne_transfer hp (htransfer ▸ ht) (hpq.trans htq.symm)
    next hk =>
      split
      next k hs =>
        obtain ⟨t, hx, rfl⟩ := serviceOf_eq_some hs
        exact ⟨failConflict_lawful hx hrel (honly _), hstill.trans (failConflict_still k u),
          hstays (failConflict_still k u)⟩
      next hs => exact ⟨hrel.restore (queueOf_eq_none hk) (serviceOf_eq_none hs), hstill, hgone⟩

/-- R42: a robot without a place is placed at an unoccupied row that nobody has reserved. -/
theorem settle_lawful (h : s.ledger.Lawful none e) (hp : s.ledger.place r = .unknown)
    (ho : s.ledger.occupant row = none) (hr : s.ledger.reserved row = none)
    (hw : s.ledger.retired r = true → e = some r) : (settle r row s).ledger.Lawful none e := by
  have hseat : (settle r row s).ledger = s.ledger.seat r row := by
    rw [settle, leaveSets_ledger, contextAtRow_ledger, modRow_row, modRobot_robot]
    refine Ledger.ext rfl (funext fun x => ?_) rfl (Function.update_eq_self _ _) rfl rfl
    simp only [Ledger.seat, Function.update_apply]
    split
    · exact hr
    · rfl
  rw [hseat]
  exact h.seat hp ho (fun q hq => nomatch hr.symm.trans hq) hw

theorem unplace_lawful (h : s.ledger.Lawful l e) (hp : s.ledger.place r = .unknown) :
    (unplace r s).ledger.Lawful l e ∧ (unplace r s).ledger.place = s.ledger.place :=
  have hp' : Place.unknown = (s.robot r).place := hp.symm
  ⟨modActivity_lawful h hp' (.inr (by simp)), (modActivity_still hp' (.inr (by simp))).place⟩

/-- R43. -/
theorem endBoarding_lawful (h : s.ledger.Lawful none e) (r : RobotId) : (endBoarding r s).ledger.Lawful none e := by
  unfold endBoarding
  split
  next =>
    split
    next hx =>
      split
      next hst => exact failPlace_lawful h hx (.inl hst)
      next hst => exact failPlace_lawful h hx (.inr hst)
      all_goals exact h
    next => exact h
  next => exact h

theorem endWork_lawful (h : s.ledger.Lawful none e) (r : RobotId) : (endWork r s).ledger.Lawful none e := by
  rw [endWork, leaveSets_ledger]
  refine endBoarding_lawful ?_ r
  rw [abandonOwned_ledger, endAbandoned_ledger]
  exact h

/-- R43. -/
theorem conflict_lawful (h : s.ledger.Lawful none e) {o : RobotId} (hp : s.ledger.place r = .unknown)
    (ho : s.ledger.occupant row = some o) : (conflict r o row s).ledger.Lawful none e := by
  obtain ⟨hlaw, hplace, hocc, -⟩ := leavePlace_lawful h o
  have hempty : (leavePlace o s).ledger.occupant row = none := by rw [hocc, if_pos ho]
  have hrow : (modRow row (fun x => { x with contested := true, occupant := none }) (leavePlace o s)).ledger
      = (leavePlace o s).ledger := modRow_ledger _ row _ ⟨hempty.symm, rfl⟩
  unfold conflict
  dsimp only
  generalize modRow row (fun x => { x with contested := true, occupant := none }) (leavePlace o s) = u at hrow
  have hu : ∀ x, u.ledger.place x = if x = o then .unknown else s.ledger.place x := fun x => by
    rw [hrow, hplace, Function.update_apply]
  obtain ⟨hlawo, hsame⟩ := unplace_lawful (hrow ▸ hlaw) (r := o) (by rw [hu, if_pos rfl])
  have hplacer : (unplace o u).ledger.place r = .unknown := by rw [hsame, hu, hp, ite_self]
  rw [leaveList_ledger]
  refine endWork_lawful (endWork_lawful ?_ o) r
  rw [setNotice_ledger]
  exact (unplace_lawful hlawo hplacer).1

/-- R42, last case, of a robot that has no live transfer to this row. -/
theorem placeAt_lawful (h : s.ledger.Lawful none e) (hw : s.ledger.retired r = true → e = some r)
    (hn : s.ledger.reserved row = some r →
      ∀ j t, (s.ledger.carrier j).transfer = some t → t.stranded = false → t.robot ≠ r) :
    (placeAt r row s).ledger.Lawful none e := by
  obtain ⟨hlaw, hplace, _, hretired, hgone, hres⟩ := leavePlace_lawful h r
  have hfree : (leavePlace r s).ledger.reserved row ≠ some r := fun hr => hgone (hn (hres row r hr)) row hr
  obtain ⟨htake, hstill, hnone⟩ := takeReservation_lawful hlaw hfree
  have hp : (takeReservation row r (leavePlace r s)).ledger.place r = .unknown := by
    rw [hstill.place, hplace, Function.update_self]
  unfold placeAt
  dsimp only
  generalize takeReservation row r (leavePlace r s) = u at htake hstill hnone hp
  split
  next o ho =>
    rw [if_neg]
    · exact conflict_lawful htake hp ho
    · rintro rfl
      exact nomatch hp.symm.trans ((htake.atRow o row).mpr ho)
  next ho => exact settle_lawful htake hp ho hnone fun hr => hw (hretired r (hstill.retired r hr))

/-- The reservation of a transfer that ends with cause PLACE is released. -/
theorem failPlace_unreserved (h : s.ledger.Lawful none e) (hx : (s.shuttle k).inService = some t) (x : RowId) :
    (failPlace k s).ledger.reserved x ≠ some t.robot := by
  intro hr
  have ht := (h.serves hx).1
  have hd : x = t.destination := h.transfer_dest ht ((failPlace_still k s).reserved x _ hr)
  subst hd
  unfold failPlace at hr
  rw [hx] at hr
  have hgive := (((modShuttle_still k (fun y => { y with transfer := none }) _).trans
    (.of_eq (finishTransfer_ledger _ k t (.failed .place)))).trans (becomeIdle_still k _)).reserved _ _ hr
  rw [releaseRow_ledger] at hgive
  exact (Ledger.Lawful.releaseAll_some hgive).2 (List.mem_singleton_self _)

/-- R42: an arrival at the robot's own reservation. -/
theorem arrive_lawful (h : s.ledger.Lawful none e) (hw : s.ledger.retired r = true → e = some r)
    (hr : s.ledger.reserved row = some r) : (arrive r row s).ledger.Lawful none e := by
  unfold arrive
  dsimp only
  have hmark : (modRobot r (fun b => { b with placementMark := false }) s).ledger = s.ledger :=
    modRobot_ledger s r _ ⟨rfl, rfl⟩
  generalize modRobot r (fun b => { b with placementMark := false }) s = u at hmark
  rw [← hmark] at h hw hr
  split
  next k hk =>
    obtain ⟨t, hx, rfl⟩ := serviceOf_eq_some hk
    have hplaced : t.stage = .fetch ∨ t.stage = .board → (placeAt t.robot row (failPlace k u)).ledger.Lawful none e :=
      fun hst => placeAt_lawful (failPlace_lawful h hx hst) (hw ∘ (failPlace_still k u).retired _)
        fun hres => absurd hres (failPlace_unreserved h hx row)
    rw [hx]
    dsimp only
    split
    next => rw [leaveSets_ledger, contextAtRow_ledger]; exact endTransfer_lawful h hx
    next => rw [leaveSets_ledger, contextAtRow_ledger]; exact endTransfer_lawful h hx
    next hst => exact hplaced (.inl hst)
    next hst => exact hplaced (.inr hst)
  next hserve =>
    split
    next k hk =>
      obtain ⟨t, ht, _, rfl⟩ := strandedOf_eq_some hk
      have ht' : (u.shuttle k).transfer = some t := ht
      rw [ht']
      dsimp only
      rw [leaveSets_ledger, contextAtRow_ledger]
      exact alight_lawful h ht (h.transfer_dest ht hr ▸ hr)
    next => exact placeAt_lawful h hw fun _ => serviceOf_eq_none hserve

theorem placed_lawful (h : s.ledger.Lawful none e) (hw : s.ledger.retired r = true → e = some r) (row : RowId) :
    (if ((endAbandoned r s).row row).reserved = some r then arrive r row (endAbandoned r s)
      else placeAt r row (endAbandoned r s)).ledger.Lawful none e := by
  have hend : (endAbandoned r s).ledger = s.ledger := endAbandoned_ledger s r
  generalize endAbandoned r s = u at hend
  rw [← hend] at h hw
  split
  next hr => exact arrive_lawful h hw hr
  next hr => exact placeAt_lawful h hw fun hres => absurd hres hr

/-- R42. -/
theorem placeByReport_lawful (h : s.ledger.Lawful none e) (hw : s.ledger.retired r = true → e = some r)
    (rep : RobotReport) : (placeByReport r rep s).ledger.Lawful none e := by
  unfold placeByReport
  split
  next => exact h
  next =>
    split
    next => exact h
    next =>
      split
      next => exact h
      next =>
        split
        next => exact (modRobot_ledger s r (fun b => { b with placementMark := false }) ⟨rfl, rfl⟩).symm ▸ h
        next => exact placed_lawful h hw rep.row

/-- R44. -/
theorem moveByReport_lawful (h : s.ledger.Lawful none e) (hw : s.ledger.retired r = true → e = some r)
    (rep : RobotReport) : (moveByReport r rep s).ledger.Lawful none e := by
  unfold moveByReport
  repeat' split
  case isFalse.isFalse.isFalse.isFalse.isFalse => exact placed_lawful h hw rep.row
  all_goals exact h

end Sys2Proof.Machine
end

section
/-!
SUPPORT. The planner, the reports and the notices between the blocks keep places, reservations and transfers lawful
(chapters 2, 3, 6 and 7).
-/

namespace Sys2Proof.Machine

variable {s u : State} {k : ShuttleIx} {t : Transfer} {r : RobotId} {row : RowId}

/-- Places, reservations and transfers are lawful, and no notice waits that would place a robot as WITHDRAWN. -/
abbrev State.Placed (s : State) : Prop := s.ledger.Lawful none none

theorem State.Placed.of_ledger {s t : State} (h : s.Placed) (ht : t.ledger = s.ledger) : t.Placed :=
  (congrArg (Ledger.Lawful none none) ht).mpr h

/-! ### The planner (R129, R131, R139, R140) -/

theorem row?_eq_some {b : Robot} : b.row? = some row ↔ b.place = .row row := by
  unfold Robot.row?
  split
  next x hx => simp [hx]
  next hx => simp only [reduceCtorEq, false_iff]; exact hx row

/-- R150: an accepted ROUND request is of a free row, for a robot that has no request. -/
theorem roundAccepted_eq_some {d : RowId} (h : roundAccepted s r d = some k) :
    hasRequest s r = false ∧ s.ledger.occupant d = none ∧ s.ledger.reserved d = none := by
  unfold roundAccepted at h
  split at h
  next =>
    dsimp only at h
    split at h
    next hc =>
      obtain ⟨_, _, _, hq, hg⟩ := hc
      exact ⟨hq, reserveGranted_free hg⟩
    next => exact nomatch h
  next => exact nomatch h

/-- R129 step 4. -/
theorem workFor_transfer {source d : RowId} (h : workFor s r row = some (.transfer source d k)) :
    roundAccepted s r d = some k := by
  unfold workFor at h
  split at h
  next => exact nomatch h
  next =>
    unfold workWithoutContext at h
    split at h
    next => exact nomatch h
    next =>
      split at h
      next => exact nomatch h
      next =>
        split at h
        next x _ =>
          obtain ⟨j, hj, hw⟩ := Option.map_eq_some_iff.mp h
          cases hw
          exact hj
        next => exact nomatch h

/-- R129: a robot at a row, not WITHDRAWN, is given its work. -/
theorem giveWork_placed (h : s.Placed) {w : Work} (hw : workFor s r row = some w) (hp : s.ledger.place r = .row row)
    (hd : s.ledger.retired r = false) : (giveWork r s w).Placed := by
  cases w with
  | resume c => exact h.of_ledger (startResume_ledger s r c)
  | target x => exact h.of_ledger (by simp [giveWork])
  | ownRow x => exact h.of_ledger (by simp [giveWork])
  | transfer source d k =>
    obtain ⟨hq, ho, hr⟩ := roundAccepted_eq_some (workFor_transfer hw)
    have hsame : (modRobot r (fun b => { b with target := some d }) (countAssigned (leaveList d s))).ledger
        = s.ledger := by
      rw [modRobot_ledger _ _ _ ⟨rfl, rfl⟩, countAssigned_ledger, leaveList_ledger]
    rw [State.Placed, giveWork, joinQueue_ledger, hsame]
    exact h.join k ho hr (h.unrequested hp hq) hd

theorem assign_placed (h : s.Placed) (hp : s.ledger.place r = .row row) (hd : s.ledger.retired r = false) :
    (assign r row s).Placed := by
  have hdrop := dropDisabledTarget_ledger s r row
  unfold assign
  dsimp only
  split
  next =>
    split
    next w hw => exact giveWork_placed (h.of_ledger hdrop) hw (hdrop ▸ hp) (hdrop ▸ hd)
    next => exact (h.of_ledger hdrop).of_ledger (setDoze_ledger _ r)
  next => exact h

/-- R127: a free robot is DOCKED. -/
theorem isFree_docked (h : isFree s r = true) : s.ledger.retired r = false := by
  simp only [isFree, freeButDoze, Bool.and_eq_true, beq_iff_eq] at h
  obtain ⟨⟨⟨⟨⟨⟨⟨_, hd⟩, _⟩, _⟩, _⟩, _⟩, _⟩, _⟩ := h
  show ((s.robot r).activity == .withdrawn) = false
  rw [hd]
  rfl

/-- R128. -/
theorem examine_placed (h : s.Placed) (r : RobotId) : (examine r s).Placed := by
  unfold examine
  split
  next =>
    split
    next row hrow =>
      split
      next hf => exact assign_placed h (row?_eq_some.mp hrow) (isFree_docked hf)
      next => exact h.of_ledger (by simp)
    next => exact h
  next => exact h

/-- R131. -/
theorem transferReported_placed (h : s.Placed) (r : RobotId) (row : RowId) (what : TransferReport) :
    (transferReported r row what s).Placed := by
  have hcleared : (push (.examine r) (reinsertRow row (clearTarget r s))).Placed :=
    h.of_ledger (by rw [push_ledger _ (by simp), reinsertRow_ledger, clearTarget_ledger])
  cases what with
  | ended => exact examine_placed h r
  | failed => exact hcleared
  | cancelled => exact hcleared

/-- R139, R151. -/
theorem cancelRoundRequests_placed (h : s.Placed) : (cancelRoundRequests s).Placed :=
  forEach_keeps (P := State.Placed) (fun k _ hu => dropRequests_lawful hu k _ _) _ h

/-- R139. -/
theorem windDown_placed (h : s.Placed) : (windDown s).Placed := by
  have hround : (modRound (fun x => { x with state := .winding }) s).Placed := h.of_ledger (modRound_ledger s _)
  exact (cancelRoundRequests_placed hround).of_ledger (push_ledger _ (by simp))

/-- R140. -/
theorem recallFleet_placed (h : s.Placed) : (recallFleet s).Placed := by
  have hround : (modRound (fun x => { x with state := .recalling }) s).Placed := h.of_ledger (modRound_ledger s _)
  have hcancel : (if s.round.state = .active then
      cancelRoundRequests (modRound (fun x => { x with state := .recalling }) s)
    else modRound (fun x => { x with state := .recalling }) s).Placed := by
    split
    · exact cancelRoundRequests_placed hround
    · exact hround
  unfold recallFleet
  exact hcancel.of_ledger (by rw [push_ledger _ (by simp), forEach_ledger _ _ fun r t => recallRobot_ledger t r])

/-! ### Reports (R39, R40, R154 to R157) -/

/-- R39: a robot is placed by its report and its activity recorded. -/
theorem robotStatus_placed (h : s.Placed) (r : RobotId) {rep : RobotReport} (hrep : rep.activity ≠ .withdrawn)
    (diff : Nat) : (robotStatus r rep diff s).Placed := by
  have hrecorded : (recordRobot r rep s).ledger.Lawful none (some r) := by
    rw [recordRobot_ledger]
    exact h.excuse (some r)
  have hplaced : (if ((recordRobot r rep s).robot r).placementMark then placeByReport r rep (recordRobot r rep s)
      else moveByReport r rep (recordRobot r rep s)).ledger.Lawful none (some r) := by
    split
    · exact placeByReport_lawful hrecorded (fun _ => rfl) rep
    · exact moveByReport_lawful hrecorded (fun _ => rfl) rep
  unfold robotStatus
  dsimp only
  generalize (if ((recordRobot r rep s).robot r).placementMark then placeByReport r rep (recordRobot r rep s)
      else moveByReport r rep (recordRobot r rep s)) = u at hplaced
  have hact : (if (u.robot r).placementMark then Activity.unknown else rep.activity) ≠ .withdrawn := by
    split
    · simp
    · exact hrep
  rw [State.Placed, pushAll_ledger _ (by simp)]
  have hlaw : (recordActivity r rep.activity u).ledger.Lawful none (some r) :=
    modActivity_lawful hplaced rfl (.inr hact)
  refine hlaw.unexcuse (beq_eq_false_iff_ne.mpr ?_)
  have hrec : ((recordActivity r rep.activity u).robot r).activity
      = if (u.robot r).placementMark then .unknown else rep.activity := by
    rw [recordActivity, State.robot, modRobot_robots, tget_tset, if_pos rfl]
    rfl
  exact fun hw => hact (hrec.symm.trans hw)

/-- R40. -/
theorem shuttleStatus_placed (h : s.Placed) (k : ShuttleIx) (rep : ShuttleReport) (diff : Nat) :
    (shuttleStatus k rep diff s).Placed :=
  actOnShuttle_lawful (h.of_ledger (by
    rw [shuttleEnergy_ledger, modShuttle_ledger _ k (fun x =>
      { x with road := some (min 4095 rep.road), faultCode := rep.faultCode }) rfl, noteFault_ledger])) k rep

/-- R154. -/
theorem placeFailure_placed (h : s.Placed) (hx : (s.shuttle k).inService = some t)
    (hst : t.stage = .fetch ∨ t.stage = .board) (rep : RobotReport) : (placeFailure t.robot k t rep s).Placed := by
  have hfail := failPlace_lawful h hx hst
  unfold placeFailure
  split
  · refine moveByReport_lawful hfail (fun hw => ?_) rep
    exact h.retired_ne (Carrier.transfer_mem (h.serves hx).1) ((failPlace_still k s).retired _ hw)
  · exact hfail

theorem leaveSets_placed (h : s.Placed) (r : RobotId) : (leaveSets r s).Placed := h.of_ledger (leaveSets_ledger s r)

/-- R155. -/
theorem boardReport_placed (h : s.Placed) (hx : (s.shuttle k).inService = some t) (hst : t.stage = .board)
    (rep : RobotReport) : (boardReport t.robot k t rep s).Placed := by
  have ht := (h.serves hx).1
  have hfail : (failBoard k t .board s).Placed := failBoard_lawful (h.lapse _) ht .board
  unfold boardReport
  split
  · exact leaveSets_placed (completeBoard_lawful h hx hst) t.robot
  split
  · split
    next d _ => exact completeAbort_lawful h hx d hst
    next => exact h
  split
  · exact h
  split
  · exact h
  split
  · exact hfail
  split
  · exact placeFailure_placed h hx (.inr hst) rep
  · exact hfail

/-- R157. -/
theorem alightReport_placed (h : s.Placed) (hx : (s.shuttle k).inService = some t) (rep : RobotReport) :
    (alightReport t.robot k t rep s).Placed := by
  unfold alightReport
  split
  · exact leaveSets_placed (endTransfer_lawful h hx) t.robot
  split
  · exact h
  · exact failAboard_lawful (h.lapse _) (h.serves hx).1 .alight

/-- R152, R154 to R157. -/
theorem arbiterReport_placed (h : s.Placed) (r : RobotId) (rep : RobotReport) : (arbiterReport r rep s).Placed := by
  unfold arbiterReport
  split
  next =>
    split
    next =>
      split
      next => exact evaluateStart_lawful h _
      next => exact h
    next => exact h
  next k hk =>
    obtain ⟨t, hx, rfl⟩ := serviceOf_eq_some hk
    rw [hx]
    dsimp only
    split
    next hst =>
      split
      next => exact h
      next => exact placeFailure_placed h hx (.inl hst) rep
    next hst => exact boardReport_placed h hx hst rep
    next =>
      split
      next => exact leaveSets_placed (endTransfer_lawful h hx) _
      next => exact h
    next => exact alightReport_placed h hx rep

/-! ### Notices (2.1) -/

/-- R65, R67, R68. -/
theorem tellOwner_placed (h : s.Placed) (i : LinkId) (owner : Owner) (cmd : Cmd) (what : Told) :
    (tellOwner i owner cmd what s).Placed := by
  unfold tellOwner
  split
  next =>
    cases owner with
    | planner => exact h.of_ledger (toldPlanner_ledger _ _ _ _)
    | arbiter => exact toldTransferRobot_lawful h _ _ _
    | supervisor => exact h.of_ledger (toldSupervisor_ledger _ _ _ _)
  next =>
    cases owner with
    | arbiter => exact toldShuttle_lawful h _ _ _
    | planner => exact h
    | supervisor => exact h

theorem handle_placed (h : s.Placed) {j : Job} (hj : j.orderly = true) : (handle j s).Placed := by
  cases j with
  | told i owner cmd what => exact tellOwner_placed h i owner cmd what
  | repeatLimit i q => exact h.of_ledger (checkRepeatLimit_ledger s i q)
  | robotLost r => exact h.of_ledger (plannerLost_ledger s r)
  | robotStatus r rep diff => exact robotStatus_placed h r (bne_iff_ne.mp hj) diff
  | shuttleStatus k rep diff => exact shuttleStatus_placed h k rep diff
  | accountReport r rep diff => exact h.of_ledger (accountReport_ledger s r rep diff)
  | plannerReport r rep diff => exact h.of_ledger (plannerReport_ledger s r rep diff)
  | arbiterReport r rep => exact arbiterReport_placed h r rep
  | stormReport r rep => exact h.of_ledger (stormReport_ledger s r rep)
  | examine r => exact examine_placed h r
  | examineBlock b => exact h.of_ledger (pushAll_ledger s (by simp))
  | transferReport r row what => exact transferReported_placed h r row what
  | closeCheck => exact h.of_ledger (checkClose_ledger s)
  | startRule k => exact evaluateStart_lawful h k
  | rowsCovered rows => exact h.of_ledger (coverRows_ledger s rows)
  | rowsSheltered b =>
    simp only [handle]
    split
    next k _ => exact shelterShuttle_lawful h k
    next => exact h
  | rowsReleased rows => exact h.of_ledger (releaseRobots_ledger s rows)
  | blockCalmer b =>
    simp only [handle]
    split
    next k _ => exact calmerShuttle_lawful h k
    next => exact h
  | scanComplete => exact h.of_ledger (completeScan_ledger s)

theorem withAgenda_placed (h : s.Placed) {js : List Job} (hj : js.all Job.orderly = true) :
    State.Placed { s with agenda := js } :=
  { h with orderly := hj }

theorem drainOne_placed (h : s.Placed) : (drainOne s).Placed := by
  unfold drainOne
  split
  next => exact h
  next j rest hjs =>
    have hall : (j :: rest).all Job.orderly = true := hjs ▸ h.orderly
    obtain ⟨hj, hrest⟩ := Bool.and_eq_true_iff.mp (List.all_cons ▸ hall)
    have hdone := (handle_placed (withAgenda_placed h (js := []) rfl) hj).of_ledger (commit_ledger s _)
    refine withAgenda_placed hdone ?_
    rw [List.all_append, hrest, Bool.and_true]
    exact hdone.orderly

theorem drainLoop_placed (fuel : Nat) (h : s.Placed) : (drainLoop fuel s).Placed := by
  induction fuel generalizing s with
  | zero => exact h
  | succ fuel ih =>
    rw [drainLoop]
    split
    · exact h
    · exact ih (drainOne_placed h)

theorem drain_placed (h : s.Placed) : (drain s).Placed := withAgenda_placed (drainLoop_placed _ h) rfl

theorem perform_placed {f : State → State} (hf : ∀ u, u.Placed → (f u).Placed) (h : PlacesLawful s) :
    (perform f s).Placed :=
  have hquiet : PlacesLawful { s with agenda := [] } :=
    { h with once := h.once }
  drain_placed ((hf _ (hquiet.ledger rfl)).of_ledger (commit_ledger s _))

/-! ### FieldLink (R59, R72, R75) -/

/-- R72. -/
theorem recover_placed (h : s.Placed) (i : LinkId) : (recover i s).Placed := by
  have hentry : ∀ f, (setNotice .linkState (modEntry i f s)).Placed := fun f =>
    h.of_ledger (by rw [setNotice_ledger, modEntry_ledger])
  unfold recover
  dsimp only
  split
  next =>
    have hmark : ∀ r u, u.Placed →
        (modRobot r (fun b => { b with placementMark := true, activity := .unknown }) u).Placed :=
      fun r u hu => modActivity_lawful hu rfl (.inr (by simp))
    have hu := hmark ⟨i.1, ‹_›⟩ _ (hentry fun e =>
      { e with errorCount := 0, recovery := 0, doze := false, synchronised := false, baseline := none })
    split
    next => exact hu.of_ledger (push_ledger _ (by simp))
    next => exact hu
  next => exact hentry _

theorem goodReply_placed (h : s.Placed) (i : LinkId) (t : Turn) (payload : List Byte) :
    (goodReply i t payload s).Placed := by
  unfold goodReply goodProbe
  split
  next =>
    dsimp only
    split
    next => exact recover_placed h i
    next => exact h.of_ledger (modEntry_ledger s i _)
  next => exact h.of_ledger (by simp)

theorem finishTurn_placed (h : s.Placed) (payload : Turn → Option (List Byte)) (noisy : Bool) :
    (finishTurn payload noisy s).Placed := by
  unfold finishTurn endTurn
  split
  next t _ =>
    have hidle : (modLink (fun l => { l with phase := .idle }) s).Placed := h.of_ledger (modLink_ledger s _)
    dsimp only
    split
    next => exact hidle
    next i _ =>
      split
      next =>
        have hnoise := hidle.of_ledger (countNoise_ledger _ i noisy)
        split
        next p _ => exact goodReply_placed hnoise i t p
        next => exact hnoise.of_ledger (badTurn_ledger _ i t)
      next => exact hidle
  next => exact h

end Sys2Proof.Machine
end

section
/-!
SUPPORT. Every command keeps places, reservations and transfers lawful (O59).
-/

namespace Sys2Proof.Machine

variable {s u : State} {k : ShuttleIx} {t : Transfer} {r : RobotId} {row : RowId}

/-! ### Resets, RUN entry and the end of RUN -/

/-- With every row empty, every robot without a place and every shuttle without work. -/
theorem placed_of_empty (ho : ∀ x, (s.row x).occupant = none) (hr : ∀ x, (s.row x).reserved = none)
    (hp : ∀ x, (s.robot x).place = .unknown)
    (hk : ∀ k, (s.shuttle k).carried = none ∧ (s.shuttle k).transfer = none ∧ (s.shuttle k).queue = [])
    (ha : s.agenda.all Job.orderly = true) : s.Placed where
  atRow r x := ⟨fun e => (nomatch (hp r).symm.trans e), fun e => nomatch (ho x).symm.trans e⟩
  aboard r k := ⟨fun e => (nomatch (hp r).symm.trans e), fun e => nomatch (hk k).1.symm.trans e⟩
  unreserved x _ := hr x
  backed k := ⟨fun q hq => (by rw [show (s.ledger.carrier k).queue = [] from (hk k).2.2] at hq; exact nomatch hq),
    fun t ht => nomatch (hk k).2.1.symm.trans ht⟩
  requested x r e := nomatch (hr x).symm.trans e
  once k := by
    rw [Carrier.robots, show (s.ledger.carrier k).queue = [] from (hk k).2.2,
      show (s.ledger.carrier k).transfer = none from (hk k).2.1]
    exact List.nodup_nil
  apart j k r hj := by
    rw [Carrier.robots, show (s.ledger.carrier j).queue = [] from (hk j).2.2,
      show (s.ledger.carrier j).transfer = none from (hk j).2.1] at hj
    exact nomatch hj
  carriers k :=
    { stages := fun t ht => nomatch (hk k).2.1.symm.trans ht
      stranded := fun t ht => nomatch (hk k).2.1.symm.trans ht
      loaded := fun r hc => nomatch (hk k).1.symm.trans hc
      carrying := fun t r ht => nomatch (hk k).2.1.symm.trans ht }
  retired r _ _ := ⟨hp r, fun k hm => by
    rw [Carrier.robots, show (s.ledger.carrier k).queue = [] from (hk k).2.2,
      show (s.ledger.carrier k).transfer = none from (hk k).2.1] at hm
    exact nomatch hm⟩
  orderly := ha

/-- R23. -/
theorem warmReset_placed (cause : ResetCause) (s : State) : (warmReset cause s).Placed := by
  refine placed_of_empty (fun x => ?_) (fun x => ?_) (fun x => ?_) (fun k => ?_) rfl
  · simp [warmReset, State.row, Row.keptByReset, Row.powerOn]
  · simp [warmReset, State.row, Row.keptByReset, Row.powerOn]
  · exact congrArg Robot.place (reset_robot x)
  · have hk : (warmReset cause s).shuttle k = Shuttle.afterReset := reset_shuttle k
    rw [hk]
    exact ⟨rfl, rfl, rfl⟩

/-- R33, R144. -/
theorem enterPlant_placed (h : s.Placed) (p : Plant) : (enterPlant p s).Placed := by
  refine placed_of_empty (fun x => ?_) (fun x => ?_) (fun x => ?_) (fun k => ?_) h.orderly
  · simp [enterPlant, State.row, Row.atRunEntry]
  · simp [enterPlant, State.row, Row.atRunEntry]
  · simp only [enterPlant, State.robot, tget_tabulate, Robot.atRunEntry]
    split
    · split <;> rfl
    · rfl
  · simp only [enterPlant, State.shuttle, tget_tabulate, Shuttle.atRunEntry]
    split <;> exact ⟨rfl, rfl, rfl⟩

/-- R166. -/
theorem shelterIdle_placed (h : s.Placed) : (shelterIdle s).Placed := by
  refine forEach_keeps (P := State.Placed) (fun k u hu => ?_) _ h
  split
  next hi =>
    obtain ⟨ht, hc⟩ := hu.rests (.inl hi.2.1)
    exact goToShelter_lawful hu ht hc
  next => exact hu

/-- R31 to R33. -/
theorem finishChecking_placed (h : s.Placed) : (finishChecking s).Placed := by
  unfold finishChecking
  dsimp only
  have hread : (modModes (fun x => { x with clamped := (readPlant s).2 }) s).Placed := h.of_ledger (modModes_ledger s _)
  split
  next => exact hread.of_ledger (modModes_ledger _ _)
  next =>
    refine shelterIdle_placed ?_
    refine (enterPlant_placed hread (readPlant s).1).of_ledger ?_
    rw [noteStorm_ledger, setFlags_ledger, expirePassed_ledger, markPool_ledger, startRunning_ledger, noteLinks_ledger]

/-- R35, R167: every reservation is one of a request or a transfer. -/
theorem releaseReservations_ledger (h : s.Placed) :
    (releaseReservations s).ledger = { s.ledger with reserved := fun _ => none } := by
  rw [releaseReservations_eq, releaseAll_ledger]
  refine Ledger.ext rfl (funext fun x => ?_) rfl rfl rfl rfl
  cases hx : s.ledger.reserved x with
  | none => simp [Ledger.releaseAll, hx]
  | some q =>
    refine if_pos ⟨(x, q), ?_, rfl, hx⟩
    obtain ⟨k, hk⟩ := h.requested x q hx
    refine List.mem_flatMap.mpr ⟨k, List.mem_finRange k, List.mem_append.mpr ?_⟩
    refine hk.imp (fun ⟨p, hp, hr, hd⟩ => List.mem_map.mpr ⟨p, hp, by rw [hr, hd]⟩) fun ⟨t, ht, hr, hd⟩ => ?_
    exact List.mem_map.mpr ⟨t, Option.mem_toList.mpr ht, by rw [hr, hd]⟩

theorem stopFleet_ledger (s : State) : (stopFleet s).ledger = { s.ledger with
    carrier := fun k => { s.ledger.carrier k with transfer := none, queue := [] } } := by
  refine Ledger.ext rfl rfl (funext fun x => ?_) (funext fun x => ?_) (funext fun x => ?_) rfl
  all_goals
    simp only [State.ledger, stopFleet, tget_tabulate]
    rfl

/-- R35, R167. -/
theorem leaveRun_placed (h : s.Placed) : (leaveRun s).Placed := by
  have ha : (answerLongOrders s).Placed := h.of_ledger (answerLongOrders_ledger s)
  unfold leaveRun
  dsimp only
  rw [State.Placed, modModes_ledger, stopUnits_ledger, noteStorm_ledger, stopFleet_ledger,
    releaseReservations_ledger ha]
  exact
    { ha with
      unreserved := fun _ _ => rfl
      backed := fun _ => ⟨nofun, nofun⟩
      requested := nofun
      once := fun _ => List.nodup_nil
      apart := nofun
      carriers := fun k => ⟨nofun, nofun, (ha.carriers k).loaded, nofun⟩
      retired := fun r _ hw => ⟨(ha.retired r nofun hw).1, nofun⟩ }

theorem requestSetup_placed (h : s.Placed) : (requestSetup s).Placed := by
  unfold requestSetup
  repeat' split
  · exact h
  · exact h.of_ledger (modModes_ledger s _)
  · exact h.of_ledger (modModes_ledger s _)
  · exact leaveRun_placed h

/-- R20. -/
theorem controlWrite_placed (h : s.Placed) (modeRequest statusPage : Bool) :
    (controlWrite modeRequest statusPage s).Placed := by
  have hbits : (modBoard (fun b => { b with modeRequest := modeRequest, statusPage := statusPage }) s).Placed :=
    h.of_ledger (modBoard_ledger s _)
  unfold controlWrite
  dsimp only
  split
  · exact hbits.of_ledger (modModes_ledger _ _)
  · exact requestSetup_placed hbits
  all_goals exact hbits

/-- R18, R19. -/
theorem registerWrite_placed {f : State → State} (hf : ∀ u, u.Placed → (f u).Placed) (h : s.Placed) :
    (registerWrite f s).Placed := by
  refine hf _ (drain_placed ?_)
  unfold restartSilence
  split
  next =>
    dsimp only
    split
    next => exact h.of_ledger (by simp)
    next => exact h.of_ledger (modBoard_ledger s _)
  next => exact h

/-- R14. -/
theorem abortMask_placed (h : s.Placed) (mask : Word) : (abortMask mask s).Placed := by
  refine forEach_keeps (P := State.Placed) (fun n u hu => ?_) _ h
  unfold abortSlot
  dsimp only
  split
  next =>
    split
    next => exact hu.of_ledger (abortQueued_ledger u n)
    next =>
      split
      next => exact hu
      next =>
        have hslot : (modSlot n (fun x => { x with abortRequested := true }) u).Placed :=
          hu.of_ledger (modSlot_ledger u n _)
        unfold actOnAbort
        repeat' split
        · exact hslot.of_ledger (abortScanOrder_ledger _ n)
        · exact hslot.of_ledger (abortClose_ledger _ n)
        · exact hslot.of_ledger (abortPark_ledger _ n)
        · exact abortTransfer_lawful hslot n
  next => exact hu

/-- R201. -/
theorem writeRegister_placed (h : s.Placed) (reg : Register) (v : Word) : (writeRegister reg v s).Placed := by
  cases reg with
  | id => exact registerWrite_placed (fun _ hu => hu) h
  | status => exact registerWrite_placed (fun _ hu => hu) h
  | control =>
    simp only [writeRegister]
    split
    · exact warmReset_placed .soft s
    · exact registerWrite_placed (fun _ hu => controlWrite_placed hu _ _) h
  | notice => exact registerWrite_placed (fun u hu => hu.of_ledger (clearNotices_ledger u v)) h
  | noticeEnable => exact registerWrite_placed (fun u hu => hu.of_ledger (writeEnable_ledger u v)) h
  | post => exact registerWrite_placed (fun u hu => hu.of_ledger (postMask_ledger u v)) h
  | abort => exact registerWrite_placed (fun _ hu => abortMask_placed hu v) h
  | answered => exact registerWrite_placed (fun u hu => hu.of_ledger (collectMask_ledger u v)) h

/-! ### Orders (R46 to R49, R139, R140, R149) -/

theorem firstDetail_eq_none {xs : List (Bool × Nat)} : firstDetail xs = none ↔ ∀ p ∈ xs, p.1 = true := by
  induction xs with
  | nil => simp [firstDetail]
  | cons x xs ih =>
    obtain ⟨ok, d⟩ := x
    cases ok <;> simp [firstDetail, ih]

/-- R46: a robot that is neither aboard a shuttle nor in service. -/
theorem withdrawRobot_placed (h : s.Placed) (hp : ∀ k, s.ledger.place r ≠ .shuttle k) (hs : serviceOf s r = none) :
    (withdrawRobot r s).Placed := by
  have hdrop := dropRobotRequest_lawful h r (.cancelled 2)
  have hcar := dropRobotRequest_carrier h r (.cancelled 2)
  have hstill := dropRobotRequest_still r (.cancelled 2) s
  have hunserved : ∀ j t, (s.ledger.carrier j).transfer = some t → t.robot ≠ r := fun j t ht => by
    cases hst : t.stranded
    · exact serviceOf_eq_none hs j t ht hst
    · exact h.not_stranded hp j t ht hst
  unfold withdrawRobot
  dsimp only
  have hbefore : (leavePolling (robotLink r)
      (abandonOwned r (endAbandoned r (dropRobotRequest r (.cancelled 2) s)))).ledger
      = (dropRobotRequest r (.cancelled 2) s).ledger := by
    rw [leavePolling_ledger, abandonOwned_ledger, endAbandoned_ledger]
  generalize leavePolling (robotLink r) (abandonOwned r (endAbandoned r (dropRobotRequest r (.cancelled 2) s))) = u
    at hbefore
  rw [← hbefore] at hdrop hcar
  have hgone : ∀ k, r ∉ (u.ledger.carrier k).robots := fun k hm => by
    rcases Carrier.mem_robots.mp hm with ⟨q, hq, hr⟩ | ⟨t, ht, hr⟩
    · exact (hcar k).2 q hq hr
    · exact hunserved k t ((hcar k).1 ▸ ht) hr
  have hvac := hdrop.vacate (r := r) fun j t ht _ hr => hgone j (hr ▸ Carrier.transfer_mem ht)
  rw [State.Placed, push_ledger _ (by simp), leaveSets_ledger, modRobot_robot, vacate_ledger hdrop]
  have hretire := hvac.retire (r := r) (Function.update_self ..) hgone
  have hplace : ((vacate r u).robot r).place = (u.ledger.vacate r).place r :=
    congrFun (congrArg Ledger.place (vacate_ledger hdrop r)) r
  simp only [hplace, Function.update_eq_self]
  exact hretire

/-- R46. -/
theorem serviceWithdrawRobot_placed (h : s.Placed) (n : SlotIx) (r : RobotId) :
    (serviceWithdrawRobot n r s).Placed := by
  unfold serviceWithdrawRobot
  dsimp only
  split
  next => exact h.of_ledger (refuseState_ledger s n _)
  next hd =>
    simp only [firstDetail_eq_none, List.forall_mem_cons, Bool.and_eq_true, Bool.not_eq_true',
      Option.isNone_iff_eq_none] at hd
    obtain ⟨_, ⟨_, hunaboard⟩, hs, _⟩ := hd
    refine (withdrawRobot_placed h (fun k hk => ?_) hs).of_ledger (answerDone_ledger _ n _)
    rw [show (s.robot r).place = .shuttle k from hk] at hunaboard
    exact nomatch hunaboard

/-- A shuttle without a robot, in a state of no stage, has no record. -/
theorem Carrier.Lawful.record_none {c : Carrier} (h : c.Lawful) (hs : ∀ g : Stage, c.state ≠ g.state)
    (hc : c.carried = none) : c.transfer = none := by
  refine Option.eq_none_iff_forall_ne_some.mpr fun t ht => ?_
  cases hst : t.stranded
  · exact hs t.stage (h.stages t ht hst)
  · exact nomatch hc.symm.trans (h.stranded t ht hst).2

/-- R47: the transfer in service at a shuttle is given up. -/
def cancelInService (k : ShuttleIx) (s : State) : State :=
  match (s.shuttle k).inService with
  | some t => cancelFetch k t 2 s
  | none => s

theorem withdrawShuttle_eq (k : ShuttleIx) (s : State) : withdrawShuttle k s
    = modShuttle k (fun x => { x with state := .withdrawn, deadline := none, goAcknowledged := false })
        (leavePolling (shuttleLink k) (dropRequests k (fun _ => true) (.cancelled 2) (cancelInService k s))) := rfl

/-- R47: a shuttle that carries nobody is without a transfer when its transfer has been given up. -/
theorem cancelInService_placed (h : s.Placed) (hc : (s.shuttle k).carried = none) : (cancelInService k s).Placed
    ∧ ((cancelInService k s).ledger.carrier k).transfer = none
    ∧ ((cancelInService k s).ledger.carrier k).carried = none := by
  unfold cancelInService
  split
  next t hx =>
    refine ⟨cancelFetch_lawful h (h.serves hx).1 2, ?_⟩
    rw [cancelFetch_carrier]
    exact ⟨rfl, hc⟩
  next hx =>
    refine ⟨h, Option.eq_none_iff_forall_ne_some.mpr fun t ht => ?_, hc⟩
    cases hst : t.stranded
    · exact nomatch hx.symm.trans (inService_eq_some_iff.mpr ⟨ht, hst⟩)
    · exact nomatch hc.symm.trans ((h.carriers k).stranded t ht hst).2

/-- R47: a shuttle that carries nobody. -/
theorem withdrawShuttle_placed (h : s.Placed) (hc : (s.shuttle k).carried = none) : (withdrawShuttle k s).Placed := by
  obtain ⟨hlaw, ht, hcarried⟩ := cancelInService_placed h hc
  rw [withdrawShuttle_eq]
  generalize cancelInService k s = w at hlaw ht hcarried
  have hdrop : (leavePolling (shuttleLink k) (dropRequests k (fun _ => true) (.cancelled 2) w)).ledger
      = w.ledger.drop k fun _ => true := by
    rw [leavePolling_ledger, dropRequests_ledger]
  have hcar := drop_carrier (v := w.ledger) (k := k) (j := k) (p := fun _ => true)
  refine modState_lawful (hdrop ▸ hlaw.drop k fun _ => true) rfl ?_ (.inl ?_) <;> rw [hdrop]
  · exact hcar.1.trans ht
  · exact hcar.2.1.trans hcarried

/-- R46, R47. -/
theorem serviceWithdraw_placed (h : s.Placed) (n : SlotIx) (ws : List Word) : (serviceWithdraw n ws s).Placed := by
  unfold serviceWithdraw
  split
  next r _ => exact serviceWithdrawRobot_placed h n r
  next k _ =>
    unfold serviceWithdrawShuttle
    dsimp only
    split
    next => exact h.of_ledger (refuseState_ledger s n _)
    next hd =>
      simp only [firstDetail_eq_none, List.forall_mem_cons, Bool.and_eq_true, Option.isNone_iff_eq_none] at hd
      obtain ⟨_, ⟨_, hc⟩, _⟩ := hd
      exact (withdrawShuttle_placed h hc).of_ledger (answerDone_ledger _ n _)

/-- R48. -/
theorem serviceReturn_placed (h : s.Placed) (n : SlotIx) (ws : List Word) : (serviceReturn n ws s).Placed := by
  unfold serviceReturn
  split
  next r _ =>
    unfold serviceReturnRobot
    dsimp only
    split
    next => exact h.of_ledger (refuseState_ledger s n _)
    next hd =>
      simp only [firstDetail_eq_none, List.forall_mem_cons] at hd
      obtain ⟨_, hw, _⟩ := hd
      have hvac : (vacate r s).Placed := by
        rw [State.Placed, vacate_ledger h]
        exact h.vacate fun j t ht _ hr => (h.retired r nofun hw).2 j (hr ▸ Carrier.transfer_mem ht)
      have hmod : (modRobot r (fun b => { b with activity := .unknown, placementMark := true }) (vacate r s)).Placed :=
        modActivity_lawful hvac rfl (.inr (by simp))
      exact hmod.of_ledger (by rw [answerDone_ledger, returnEntry_ledger])
  next k _ =>
    unfold serviceReturnShuttle
    dsimp only
    split
    next => exact h.of_ledger (refuseState_ledger s n _)
    next hd =>
      simp only [firstDetail_eq_none, List.forall_mem_cons, Bool.and_eq_true, Bool.or_eq_true, beq_iff_eq,
        Option.isNone_iff_eq_none] at hd
      obtain ⟨_, ⟨hst, hc⟩, _⟩ := hd
      have ht : (s.ledger.carrier k).transfer = none := by
        refine (h.carriers k).record_none (fun g => ?_) hc
        rcases hst with hst | hst <;> rw [show (s.ledger.carrier k).state = _ from hst] <;> cases g <;> decide
      have hroad : (returnEntry (shuttleLink k) (modShuttle k (fun x =>
          { x with road := if x.state = .withdrawn then none else x.road }) s)).ledger = s.ledger := by
        rw [returnEntry_ledger, modShuttle_ledger s k _ rfl]
      unfold returnShuttle
      dsimp only
      rw [State.Placed, answerDone_ledger, push_ledger _ (by simp)]
      exact becomeIdle_lawful (hroad ▸ h) (by rw [hroad]; exact ht) (by rw [hroad]; exact hc)

theorem hasRequest_eq_false (h : hasRequest s r = false) : queueOf s r = none ∧ serviceOf s r = none := by
  obtain ⟨hq, hs⟩ := Bool.or_eq_false_iff.mp h
  rw [Option.isSome_eq_false_iff, Option.isNone_iff_eq_none] at hq hs
  exact ⟨hq, hs⟩

/-- R49: a row that is empty or the robot's own, and that nobody has reserved. -/
theorem declareAt_placed (h : s.Placed) (ho : s.ledger.occupant row = none ∨ s.ledger.occupant row = some r)
    (hr : s.ledger.reserved row = none) : (declareAt r row s).Placed := by
  have hend := endAbandoned_ledger s r
  unfold declareAt
  generalize endAbandoned r s = u at hend
  obtain ⟨hlaw, hplace, hocc, -, -, hres⟩ := leavePlace_lawful (h.of_ledger hend) r
  rw [hend] at hplace hocc hres
  have hdocked : (modRobot r (fun b => { b with activity := .docked }) (leavePlace r u)).Placed :=
    modActivity_lawful hlaw rfl (.inr (by simp))
  refine settle_lawful hdocked ?_ ?_ ?_ fun hw => ?_
  · rw [modRobot_robot]
    simp only [Function.update_self]
    exact (congrFun hplace r).trans (Function.update_self ..)
  · refine (hocc row).trans ?_
    rcases ho with ho | ho <;> simp [ho]
  · exact Option.eq_none_iff_forall_ne_some.mpr fun q hq => nomatch hr.symm.trans (hres row q hq)
  · rw [modRobot_robot] at hw
    simp at hw

/-- R49. -/
theorem serviceDeclare_placed (h : s.Placed) (n : SlotIx) (ws : List Word) : (serviceDeclare n ws s).Placed := by
  unfold serviceDeclare
  dsimp only
  split
  next => exact h.of_ledger (refuseState_ledger s n _)
  next hd =>
    simp only [firstDetail_eq_none, declareChecks, List.forall_mem_cons, Bool.or_eq_true, beq_iff_eq,
      Option.isNone_iff_eq_none] at hd
    obtain ⟨_, _, _, _, _, _, _, ho, hr, _⟩ := hd
    exact (declareAt_placed h ho hr).of_ledger (answerDone_ledger _ n _)

/-- R149. -/
theorem moveRobot_placed (h : s.Placed) (n : SlotIx) (ws : List Word) : (moveRobot n ws s).Placed := by
  unfold moveRobot
  dsimp only
  split
  next => exact h.of_ledger (refuseState_ledger s n _)
  next hd =>
    simp only [firstDetail_eq_none, moveChecks, List.forall_mem_cons, beq_iff_eq, Bool.not_eq_true',
      Option.isNone_iff_eq_none] at hd
    obtain ⟨_, hdocked, _, hq, _, _, _, _, _, ho, hr, _⟩ := hd
    split
    next k source _ hrow =>
      split
      next => exact h.of_ledger (answer_ledger s n _ _ _)
      next =>
        have hbefore : (leaveList (fieldRow ws 3) (abandonOwned (fieldRobot ws 2) s)).ledger = s.ledger := by
          rw [leaveList_ledger, abandonOwned_ledger]
        rw [State.Placed, acceptMove, joinQueue_ledger, hbefore]
        refine h.join k ho hr (h.unrequested (row?_eq_some.mp hrow) hq) ?_
        show ((s.robot (fieldRobot ws 2)).activity == .withdrawn) = false
        rw [hdocked]
        rfl
    next => exact h.of_ledger (refuseState_ledger s n _)

/-- R139. -/
theorem stopFinish_placed (h : s.Placed) (n : SlotIx) (ws : List Word) : (stopFinish n ws s).Placed := by
  unfold stopFinish
  split
  · exact h.of_ledger (refuseState_ledger s n _)
  · exact (drain_placed (windDown_placed h)).of_ledger (answerDone_ledger _ n _)
  · exact h.of_ledger (answerDone_ledger s n _)
  · exact h.of_ledger (answerDone_ledger s n _)

/-- R140, R141. -/
theorem stopRecall_placed (h : s.Placed) (n : SlotIx) (ws : List Word) : (stopRecall n ws s).Placed := by
  have hhold : (modRound (fun x => { x with recalls := x.recalls ++ [n] }) s).Placed :=
    h.of_ledger (modRound_ledger s _)
  unfold stopRecall
  dsimp only
  split
  · exact h.of_ledger (refuseState_ledger s n _)
  · exact recallFleet_placed hhold
  · exact recallFleet_placed hhold
  · exact hhold

/-! ### Events of the line and of timers (R53, R120, R158, R166) -/

theorem dropKey_placed (h : s.Placed) : (dropKey s).Placed := by
  unfold dropKey
  split
  next => exact h
  next =>
    split
    next => exact leaveRun_placed h
    next => exact h.of_ledger (modLink_ledger s _)

theorem reachWindowEnd_placed (h : s.Placed) : (reachWindowEnd s).Placed := by
  have hwind := windDown_placed (h.of_ledger (advanceTo_ledger s s.round.windowEnd))
  unfold reachWindowEnd
  dsimp only
  split
  next =>
    split
    next => exact recallFleet_placed (drain_placed hwind)
    next => exact drain_placed hwind
  next => exact hwind

theorem reachDeadline_placed (h : s.Placed) (k : ShuttleIx) : (reachDeadline k s).Placed := by
  unfold reachDeadline
  split
  next => exact h
  next t _ =>
    have hadv : (advanceTo t s).Placed := h.of_ledger (advanceTo_ledger s t)
    dsimp only
    split
    next hst => exact enterFault_lawful hadv (hadv.rests (.inr (.inl hst))).1
    next => exact failStage_lawful hadv k

/-! ### Every command -/

theorem act_places {f : State → State} (hf : ∀ u, u.Placed → (f u).Placed) (h : PlacesLawful s) {t : State}
    (ht : act f s = .next t) : PlacesLawful t := by
  injection ht with ht
  subst ht
  split
  · exact h
  · exact (perform_placed hf h).places

theorem actWhen_places {due : State → Bool} {f : State → State} (hf : ∀ u, u.Placed → (f u).Placed)
    (h : PlacesLawful s) {t : State} (ht : actWhen due f s = .next t) : PlacesLawful t := by
  injection ht with ht
  subst ht
  split
  · exact h
  · exact (perform_placed hf h).places

/-- A command whose effect is no move of places, reservations or transfers. -/
theorem actWhen_idle_places {due : State → Bool} {f : State → State} (hf : ∀ u, (f u).ledger = u.ledger)
    (h : PlacesLawful s) {t : State} (ht : actWhen due f s = .next t) : PlacesLawful t :=
  actWhen_places (fun u hu => hu.of_ledger (hf u)) h ht

theorem takeHead_placed {effect : SlotIx → List Word → State → State}
    (he : ∀ n ws u, u.Placed → (effect n ws u).Placed) (h : s.Placed) : (takeHead effect s).Placed := by
  unfold takeHead
  split
  next => exact h
  next => exact he _ _ _ (h.of_ledger (by rw [modSlot_ledger, modBoard_ledger]))

theorem takeOrder_places {k : OrderKind} {accepts : List Word → Bool} {job : SlotIx → List Word → State → State}
    (hj : ∀ n ws u, u.Placed → (job n ws u).Placed) (h : PlacesLawful s) {t : State}
    (ht : takeOrder k accepts job s = .next t) : PlacesLawful t := by
  refine actWhen_places (fun u hu => takeHead_placed (fun n ws w hw => ?_) hu) h ht
  unfold checkOrder
  split
  next => exact hw.of_ledger (answer_ledger w n _ _ _)
  next =>
    split
    next => exact hw.of_ledger (answer_ledger w n _ _ _)
    next => exact hj n ws w hw

theorem takeOrder_idle_places {k : OrderKind} {accepts : List Word → Bool} {job : SlotIx → List Word → State → State}
    (hj : ∀ n ws u, (job n ws u).ledger = u.ledger) (h : PlacesLawful s) {t : State}
    (ht : takeOrder k accepts job s = .next t) : PlacesLawful t :=
  takeOrder_places (fun n ws u hu => hu.of_ledger (hj n ws u)) h ht

theorem setRow_ledger {effect : SlotIx → RowId → State → State} (he : ∀ n x u, (effect n x u).ledger = u.ledger)
    (n : SlotIx) (ws : List Word) (s : State) : (setRow effect n ws s).ledger = s.ledger := by
  unfold setRow
  dsimp only
  split
  · exact he n _ s
  · exact refuseState_ledger s n _

/-- Settles O59: the placement ledger is lawful through every operation, and with it the places, the reservations and
the transfers. -/
theorem placesKept : Obligations.PlacesKept := by
  intro c s t ht h
  cases c <;> simp only [exec] at ht
  case powerOnReset =>
    injection ht with ht
    subst ht
    exact { placesLawful_reset with once := placesLawful_reset.once }
  case pinResetAssert =>
    injection ht with ht
    subst ht
    rcases assertPin_eq s with he | he <;> rw [he]
    · exact h
    · have hr := (warmReset_placed s.board.resetCause s).places
      exact { hr with once := hr.once }
  case pinResetRelease =>
    injection ht with ht
    subst ht
    rcases releasePin_eq s with he | he <;> rw [he]
    · exact h
    · have hr := (warmReset_placed .pin s).places
      exact { hr with once := hr.once }
  case softReset => exact act_places (fun u _ => warmReset_placed .soft u) h ht
  case runRequest p =>
    exact act_places (fun _ hu => registerWrite_placed (fun _ hw => controlWrite_placed hw _ _) hu) h ht
  case setupRequest p =>
    exact act_places (fun _ hu => registerWrite_placed (fun _ hw => controlWrite_placed hw _ _) hu) h ht
  case statusPageSelect m p =>
    exact act_places (fun _ hu => registerWrite_placed (fun _ hw => controlWrite_placed hw _ _) hu) h ht
  case runEntryChecks => exact actWhen_places (fun _ hu => finishChecking_placed hu) h ht
  case setupAtFrameEnd => exact actWhen_places (fun _ hu => leaveRun_placed hu) h ht
  case post mask => exact act_places (fun _ hu => writeRegister_placed hu .post mask) h ht
  case abort mask => exact act_places (fun _ hu => writeRegister_placed hu .abort mask) h ht
  case answeredCollect mask => exact act_places (fun _ hu => writeRegister_placed hu .answered mask) h ht
  case noticeClear bits => exact act_places (fun _ hu => writeRegister_placed hu .notice bits) h ht
  case noticeEnableWrite v => exact act_places (fun _ hu => writeRegister_placed hu .noticeEnable v) h ht
  case registerWriteOther reg v => exact act_places (fun _ hu => writeRegister_placed hu reg v) h ht
  case hostMemoryWrite a v =>
    unfold execHostMemoryWrite at ht
    split at ht
    · exact nomatch ht
    · split at ht
      next reg _ => exact act_places (fun _ hu => writeRegister_placed hu reg v) h ht
      next =>
        injection ht with ht
        subst ht
        rw [writeMemory_frame]
        exact { h with once := h.once }
  case hostSilenceExpiry =>
    exact actWhen_idle_places (fun u => by rw [silenceExpires_ledger, advanceTo_ledger]) h ht
  case mirrorRewriteStart m => exact actWhen_idle_places (fun u => beginRewrite_ledger u m) h ht
  case mirrorRewriteEnd m => exact actWhen_idle_places (fun u => endRewrite_ledger u m) h ht
  case unknownOrder =>
    exact actWhen_places (fun _ hu => takeHead_placed (fun n _ u hw => hw.of_ledger (answer_ledger u n _ _ _)) hu) h ht
  case setRowEnable => exact takeOrder_idle_places (setRow_ledger fun n x u => enableRow_ledger u n x) h ht
  case setRowDisable => exact takeOrder_idle_places (setRow_ledger fun n x u => disableRow_ledger u n x) h ht
  case setRowClearContested => exact takeOrder_idle_places (setRow_ledger fun n x u => clearContested_ledger u n x) h ht
  case serviceWithdraw => exact takeOrder_places (fun n ws _ hu => serviceWithdraw_placed hu n ws) h ht
  case serviceReturn => exact takeOrder_places (fun n ws _ hu => serviceReturn_placed hu n ws) h ht
  case serviceDeclareAtRow => exact takeOrder_places (fun n ws _ hu => serviceDeclare_placed hu n ws) h ht
  case scanStations => exact takeOrder_idle_places (fun n ws u => scanStations_ledger u n ws) h ht
  case wipeStation => exact takeOrder_idle_places (fun n ws u => wipeStation_ledger u n ws) h ht
  case dayClose => exact takeOrder_idle_places (fun n ws u => takeDayClose_ledger u n ws) h ht
  case dayCloseDeferred => exact actWhen_idle_places runDeferredClose_ledger h ht
  case startRound => exact takeOrder_idle_places (fun n ws u => startRound_ledger u n ws) h ht
  case stopRoundFinish => exact takeOrder_places (fun n ws _ hu => stopFinish_placed hu n ws) h ht
  case stopRoundRecall => exact takeOrder_places (fun n ws _ hu => stopRecall_placed hu n ws) h ht
  case cleanRow => exact takeOrder_idle_places (fun n ws u => cleanRow_ledger u n ws) h ht
  case moveRobot => exact takeOrder_places (fun n ws _ hu => moveRobot_placed hu n ws) h ht
  case stormAlertWatch => exact takeOrder_idle_places (fun n ws u => alertWatch_ledger u n ws) h ht
  case stormAlertPark => exact takeOrder_idle_places (fun n ws u => alertPark_ledger u n ws) h ht
  case stormClear => exact takeOrder_idle_places (fun n ws u => stormClear_ledger u n ws) h ht
  case turnStart => exact actWhen_idle_places startTurn_ledger h ht
  case keyLeadExpiry => exact actWhen_idle_places beginSending_ledger h ht
  case frameSent => exact actWhen_places (fun _ hu => dropKey_placed hu) h ht
  case replyWindowExpiry => exact actWhen_places (fun _ hu => finishTurn_placed hu _ _) h ht
  case replyFrameEnd cs => exact actWhen_places (fun _ hu => finishTurn_placed hu _ _) h ht
  case replyLengthLimit cs => exact actWhen_places (fun _ hu => finishTurn_placed hu _ _) h ht
  case broadcastTurnEnd => exact actWhen_idle_places endBroadcast_ledger h ht
  case roundWindowEnd => exact actWhen_places (fun _ hu => reachWindowEnd_placed hu) h ht
  case roundHardEnd =>
    exact actWhen_places (fun u hu => recallFleet_placed (hu.of_ledger (advanceTo_ledger u u.round.hardEnd))) h ht
  case stageDeadlineExpiry k => exact actWhen_places (fun _ hu => reachDeadline_placed hu k) h ht
  case measurementEnd p => exact actWhen_idle_places (fun u => endMeasurement_ledger u p) h ht
  case periodicScanTimer => exact actWhen_idle_places periodicExpires_ledger h ht
  case wiperPulseEnd n => exact actWhen_idle_places (fun u => pulseExpires_ledger u n) h ht
  case anemometerPulse a => exact actWhen_idle_places (fun u => countPulse_ledger u a) h ht
  case anemometerWindowEnd a => exact actWhen_idle_places (fun u => windowEnds_ledger u a) h ht
  case parkDeadlineExpiry n => exact actWhen_idle_places (fun u => parkDeadline_ledger u n) h ht
  case holdOffExpiry n => exact actWhen_idle_places (fun u => holdOffExpires_ledger u n) h ht

end Sys2Proof.Machine
end

section
/-!
SUPPORT. The orders SET ROW (O19) and SERVICE RETURN (O21).
-/

namespace Sys2Proof.Machine

variable {s : State} {n : SlotIx} {rest : List SlotIx} {k : OrderKind} {kind w v top : Nat}

/-! ### Orders with a selecting word -/

theorem isKindSel_slotWords (hk : orderKind (s.mem (slotBase n)) = some k) (hw : w < 16)
    (hs : orderWord s n w = v ∨ top < orderWord s n w) : isKindSel k w v top (slotWords s n) = true := by
  have hkind : isKind k (slotWords s n) = true := by
    rw [isKind, slotWords_get s n (by decide), Nat.add_zero, hk]
    exact beq_self_eq_true _
  rw [isKindSel, hkind, field_slotWords s n hw]
  simpa using hs

theorem AtHead.orderKind (h : AtHead s n rest kind) (hk : orderKind (BitVec.ofNat 16 kind) = some k) :
    orderKind (s.mem (slotBase n)) = some k :=
  (orderKind_of h.kind).trans hk

/-- An order taken whose job gives rise to no notice. -/
theorem takeOrder_quiet (h : AtHead s n rest kind) {accepts : List Word → Bool} (ha : accepts (slotWords s n) = true)
    (hr : rangeFailure k (slotWords s n) = none) {job : SlotIx → List Word → State → State}
    (hq : (job n (slotWords s n) (takenAt s n rest)).agenda = []) :
    takeOrder k accepts job s = .next (commit s (job n (slotWords s n) (takenAt s n rest))) := by
  rw [takeOrder_eq h k ha hr job, drain_nil ((commit_agenda _ _).trans hq)]

theorem fieldRow_slotWords (s : State) (n : SlotIx) {i : Nat} (h : i < 16) :
    fieldRow (slotWords s n) i = Fin.ofNat 256 (orderWord s n i) := by
  rw [fieldRow, field_slotWords s n h]

/-! ### SET ROW (R45) -/

/-- R45: the rows and actions that SET ROW names, and no failed check. -/
theorem setRow_inRange (h : orderWord s n 2 ≤ 255) (ha : orderWord s n 3 ≤ 2) :
    rangeFailure .setRow (slotWords s n) = none := by
  simp [rangeFailure, firstOutOfRange, field_slotWords, h, ha]

/-- R45: a SET ROW command on a row, absent or present. -/
theorem exec_setRow (h : AtHead s n rest 1) (hrow : orderWord s n 2 ≤ 255) (ha : orderWord s n 3 = v) (hv : v ≤ 2)
    {effect : SlotIx → RowId → State → State} {row : RowId} (hr : Fin.ofNat 256 (orderWord s n 2) = row)
    (hq : (effect n row (takenAt s n rest)).agenda = []) :
    takeOrder .setRow (isKindSel .setRow 3 v 2) (setRow effect) s = .next
      (if ((takenAt s n rest).site row).present then commit s (effect n row (takenAt s n rest))
      else commit s (answer n .refusedState 0x80 [] (takenAt s n rest))) := by
  have hset : setRow effect n (slotWords s n) (takenAt s n rest)
      = if ((takenAt s n rest).site row).present then effect n row (takenAt s n rest)
        else answer n .refusedState 0x80 [] (takenAt s n rest) := by
    unfold setRow
    rw [fieldRow_slotWords s n (by decide), hr]
    rfl
  rw [takeOrder_quiet h (isKindSel_slotWords (h.orderKind rfl) (by decide) (.inl ha))
    (setRow_inRange hrow (ha ▸ hv)), hset]
  · split <;> rfl
  · rw [hset]
    split
    · exact hq
    · rfl

/-- Settles O19: each command on a present row does its one change; the order engine refuses the other actions. -/
theorem setRowOrders : Obligations.SetRowOrders := by
  unfold Obligations.SetRowOrders
  intro s n rest h hrow
  refine ⟨fun ha => exec_setRow h hrow ha (by decide) rfl rfl, fun ha => exec_setRow h hrow ha (by decide) rfl rfl,
    fun ha => ?_, fun ha c hc => ?_⟩
  · refine (exec_setRow h hrow ha (by decide) rfl (effect := clearContested) ?_).trans ?_
    · unfold clearContested
      split <;> rfl
    · unfold clearContested
      rw [apply_ite (commit s)]
      rfl
  · have hrange : rangeFailure .setRow (slotWords s n) = some 3 := by
      simp [rangeFailure, firstOutOfRange, field_slotWords, hrow, ha]
    have hrefused := (ordersRefused.1 s n rest h.released h.head).2
    simp only [List.mem_cons, List.not_mem_nil, or_false] at hc
    rcases hc with rfl | rfl | rfl
    all_goals
      exact (hrefused _ .setRow _ rfl (isKindSel_slotWords (h.orderKind rfl) (by decide) (.inr ha))).2 3
        h.running hrange

/-! ### Places left, and entries polled again (R42, R60) -/

section
variable {α : Type} {m : Nat}

theorem tset_tset (v : Table m α) (i : Fin m) (x y : α) : tset (tset v i x) i y = tset v i y :=
  table_ext fun j => by
    simp only [tget_tset]
    split <;> rfl

end

/-- R42: the rows once a robot has left its place. -/
def rowsWithout (r : RobotId) (s : State) : Table 256 Row :=
  match (s.robot r).place with
  | .row row => tset s.rows row
      { s.row row with occupant := if (s.row row).occupant = some r then none else (s.row row).occupant }
  | _ => s.rows

/-- R42: the shuttles once a robot has left its place. -/
def shuttlesWithout (r : RobotId) (s : State) : Table 8 Shuttle :=
  match (s.robot r).place with
  | .shuttle k => tset s.shuttles k
      { s.shuttle k with carried := if (s.shuttle k).carried = some r then none else (s.shuttle k).carried }
  | _ => s.shuttles

theorem vacate_eq (r : RobotId) (s : State) : vacate r s = { s with
    rows := rowsWithout r s, shuttles := shuttlesWithout r s
    robots := tset s.robots r { s.robot r with place := .unknown } } := by
  unfold vacate rowsWithout shuttlesWithout
  cases (s.robot r).place <;> rfl

/-- R60, R70: an entry polled again has error counter 0, so its link state changes where it was not LINKED. -/
theorem returnEntry_eq (i : LinkId) (s : State) : returnEntry i s = { s with
    link := { s.link with entries := tset s.link.entries i (s.entry i).atRunEntry }
    board := { s.board with
      notice := if (s.entry i).errorCount < 96 then s.board.notice else s.board.notice ||| 8#13 } } := by
  have hnew : ((modEntry i LinkEntry.atRunEntry s).entry i).state = .linked := by
    rw [modEntry_entry]
    rfl
  have hold : (s.entry i).state = .linked ↔ (s.entry i).errorCount < 96 := by
    unfold LinkEntry.state linkStateOf
    split
    next h => simp [h]
    next h =>
      split
      next => simp [h]
      next => split <;> simp [h]
  unfold returnEntry
  dsimp only
  rw [hnew]
  by_cases h : (s.entry i).errorCount < 96
  · rw [if_pos (hold.mpr h), if_pos h]
    rfl
  · rw [if_neg (fun hl => h (hold.mp hl)), if_neg h]
    rfl

/-- R65: a command for a polled station without one. -/
theorem setCommand_fresh {i : LinkId} (hp : (s.entry i).inPollList = true) (hc : (s.entry i).command = none) (cmd : Cmd)
    (owner : Owner) : setCommand i cmd owner s = modEntry i (fun e => e.withCommand cmd owner) s := by
  unfold setCommand
  dsimp only
  rw [if_pos hp, hc]

/-! ### SERVICE RETURN (R48) -/

theorem firstDetail_cons (b : Bool) (d : Nat) (xs : List (Bool × Nat)) :
    firstDetail ((b, d) :: xs) = if b then firstDetail xs else some d := by
  cases b <;> rfl

theorem serviceStation_robot {r : RobotId} (h : orderWord s n 2 = r.1) : serviceStation (slotWords s n) = .inl r := by
  have hf : field (slotWords s n) 2 = r.1 := (field_slotWords s n (by decide)).trans h
  unfold serviceStation
  split
  next hlt => exact congrArg Sum.inl (Fin.ext hf)
  next hn => exact absurd (hf ▸ r.2) hn

theorem serviceStation_shuttle {k : ShuttleIx} (h : orderWord s n 2 = 48 + k.1) :
    serviceStation (slotWords s n) = .inr k := by
  have hf : field (slotWords s n) 2 = 48 + k.1 := (field_slotWords s n (by decide)).trans h
  unfold serviceStation
  rw [dif_neg (by omega), hf]
  exact congrArg Sum.inr (Fin.ext (by simp [Fin.ofNat, Nat.mod_eq_of_lt k.2]))

theorem service_inRange (h : orderWord s n 2 ≤ 55) (ha : orderWord s n 3 < 2) :
    rangeFailure .service (slotWords s n) = none := by
  simp [rangeFailure, firstOutOfRange, field_slotWords, h, Nat.le_of_lt ha, Nat.ne_of_lt ha]

/-- R46 to R48: a SERVICE order of an action below DECLARE AT ROW is handed to its job. -/
theorem exec_service (h : AtHead s n rest 2) (hs : orderWord s n 2 ≤ 55) (ha : orderWord s n 3 = v) (hv : v < 2)
    (job : SlotIx → List Word → State → State) : takeOrder .service (isKindSel .service 3 v 2) job s
      = .next (drain (commit s (job n (slotWords s n) (takenAt s n rest)))) :=
  takeOrder_eq h .service (isKindSel_slotWords (h.orderKind rfl) (by decide) (.inl ha))
    (service_inRange hs (ha ▸ hv)) job

theorem serviceReturnRobot_eq (n : SlotIx) (r : RobotId) (u : State) : serviceReturnRobot n r u
    = if (u.robotConfig r).registered = false then answer n .refusedState 0x86 [] u
      else if (u.robot r).activity ≠ .withdrawn then answer n .refusedState (u.robot r).activity.code [] u
      else answer n .done 0 [] (returnEntry (robotLink r)
        (modRobot r (fun b => { b with activity := .unknown, placementMark := true }) (vacate r u))) := by
  unfold serviceReturnRobot
  simp only [firstDetail_cons]
  cases (u.robotConfig r).registered with
  | false => rfl
  | true => by_cases hw : (u.robot r).activity = .withdrawn <;> simp [hw, firstDetail, answerDone, refuseState]

theorem returnRobot_eq (r : RobotId) (u : State) :
    returnEntry (robotLink r)
      (modRobot r (fun b => { b with activity := .unknown, placementMark := true }) (vacate r u))
      = { u with
          robots := tset u.robots r { u.robot r with activity := .unknown, place := .unknown, placementMark := true }
          rows := rowsWithout r u, shuttles := shuttlesWithout r u
          link := { u.link with entries := tset u.link.entries (robotLink r) (u.entry (robotLink r)).atRunEntry }
          board := { u.board with
            notice :=
              if (u.entry (robotLink r)).errorCount < 96 then u.board.notice else u.board.notice ||| 8#13 } } := by
  rw [returnEntry_eq, vacate_eq, modRobot]
  dsimp only
  rw [tget_tset_self, tset_tset]
  rfl

theorem serviceReturnShuttle_eq (n : SlotIx) (k : ShuttleIx) (u : State) : serviceReturnShuttle n k u
    = if (u.shuttleConfig k).registered = false then answer n .refusedState 0x86 [] u
      else if (u.shuttle k).state ≠ .withdrawn ∧ (u.shuttle k).state ≠ .fault ∨ (u.shuttle k).carried ≠ none then
        answer n .refusedState (0x10 + (u.shuttle k).state.code) [] u
      else answer n .done 0 [] (returnShuttle k u) := by
  unfold serviceReturnShuttle
  simp only [firstDetail_cons]
  cases (u.shuttleConfig k).registered with
  | false => rfl
  | true =>
    have hrefused : (((u.shuttle k).state == .withdrawn || (u.shuttle k).state == .fault)
        && (u.shuttle k).carried.isNone) = false ↔ (u.shuttle k).state ≠ .withdrawn ∧ (u.shuttle k).state ≠ .fault
          ∨ (u.shuttle k).carried ≠ none := by
      simp only [Bool.and_eq_false_iff, Bool.or_eq_false_iff, beq_eq_false_iff_ne, Option.isNone_eq_false_iff,
        Option.isSome_iff_ne_none]
    simp only [← hrefused]
    cases ((u.shuttle k).state == .withdrawn || (u.shuttle k).state == .fault) && (u.shuttle k).carried.isNone <;> rfl

/-- R48, R60: a shuttle with its road position and its entry as SERVICE RETURN sets them. -/
def shuttleBack (k : ShuttleIx) (u : State) : State := { u with
  shuttles := tset u.shuttles k
    { u.shuttle k with road := if (u.shuttle k).state = .withdrawn then none else (u.shuttle k).road }
  link := { u.link with entries := tset u.link.entries (shuttleLink k) (u.entry (shuttleLink k)).atRunEntry }
  board := { u.board with
    notice := if (u.entry (shuttleLink k)).errorCount < 96 then u.board.notice else u.board.notice ||| 8#13 } }

theorem returnShuttle_eq (k : ShuttleIx) (u : State) :
    returnShuttle k u = push (.examineBlock (u.shuttleConfig k).block) (becomeIdle k (shuttleBack k u)) := by
  have hback : returnEntry (shuttleLink k)
      (modShuttle k (fun x => { x with road := if x.state = .withdrawn then none else x.road }) u)
      = shuttleBack k u := by
    rw [returnEntry_eq]
    rfl
  rw [← hback]
  rfl

theorem shuttleBack_sheltered (k : ShuttleIx) (u : State) (b : Nat) :
    blockSheltered (shuttleBack k u) b = blockSheltered u b :=
  blockSheltered_congr rfl (fun _ => rfl) b

/-- R48, R166: with no row of its block sheltered the shuttle becomes IDLE. -/
theorem returnShuttle_calm {k : ShuttleIx} {u : State} (h : blockSheltered u (u.shuttleConfig k).block = false) :
    returnShuttle k u = { shuttleBack k u with
      agenda := u.agenda ++ [.startRule k, .examineBlock (u.shuttleConfig k).block]
      shuttles := tset u.shuttles k { u.shuttle k with
        state := .idle, road := if (u.shuttle k).state = .withdrawn then none else (u.shuttle k).road
        deadline := none, goAcknowledged := false } } := by
  rw [returnShuttle_eq, becomeIdle_calm ((shuttleBack_sheltered k u _).trans h), modShuttle]
  dsimp only [shuttleBack, push]
  rw [tget_tset_self, tset_tset, List.append_assoc]
  rfl

/-- R48, R166: with a row of its block sheltered the shuttle is sent to its shelter. -/
theorem returnShuttle_sheltered {k : ShuttleIx} {u : State} (h : blockSheltered u (u.shuttleConfig k).block = true) :
    returnShuttle k u = { shuttleBack k u with
      agenda := u.agenda ++ [.examineBlock (u.shuttleConfig k).block]
      shuttles := tset u.shuttles k { u.shuttle k with
        state := .toShelter, road := if (u.shuttle k).state = .withdrawn then none else (u.shuttle k).road
        goAcknowledged := false
        deadline := some (later u (driveTimeout
          (driveDistance (if (u.shuttle k).state = .withdrawn then none else (u.shuttle k).road)
            (u.shuttleConfig k).shelter) (u.shuttleConfig k).speed)) }
      link := { u.link with entries := tset u.link.entries (shuttleLink k) { (u.entry (shuttleLink k)).atRunEntry with
        command := some { cmd := .shuttleGo (u.shuttleConfig k).shelter .shelter, owner := .arbiter,
                          sequence := none, sends := 0 } } } } := by
  have hentry : (shuttleBack k u).entry (shuttleLink k) = (u.entry (shuttleLink k)).atRunEntry := tget_tset_self _ _ _
  have hshuttle : (shuttleBack k u).shuttle k
      = { u.shuttle k with road := if (u.shuttle k).state = .withdrawn then none else (u.shuttle k).road } :=
    tget_tset_self _ _ _
  rw [returnShuttle_eq, becomeIdle_sheltered ((shuttleBack_sheltered k u _).trans h), goToShelter_eq, commandShuttle,
    setCommand_fresh (by exact hentry ▸ rfl) (by exact hentry ▸ rfl), shelterDeadline, hshuttle]
  dsimp only [shuttleBack, push, modShuttle, modEntry]
  rw [tget_tset_self, tget_tset_self, tset_tset, tset_tset]
  rfl

/-- Settles O21. -/
theorem stationsReturned : Obligations.StationsReturned := by
  unfold Obligations.StationsReturned
  refine ⟨fun s n rest r h hr ha => ?_, fun s n rest k h hk ha => ?_⟩
  · have hjob : serviceReturn n (slotWords s n) (takenAt s n rest) = serviceReturnRobot n r (takenAt s n rest) := by
      rw [serviceReturn, serviceStation_robot hr]
    refine (exec_service h (by omega) ha (by decide) serviceReturn).trans ?_
    rw [hjob, serviceReturnRobot_eq, returnRobot_eq, drain_nil]
    · rfl
    · rw [commit_agenda]
      split
      · rfl
      · split <;> rfl
  · have hjob : serviceReturn n (slotWords s n) (takenAt s n rest) = serviceReturnShuttle n k (takenAt s n rest) := by
      rw [serviceReturn, serviceStation_shuttle hk]
    have hexec : exec .serviceReturn s
        = .next (drain (commit s (serviceReturnShuttle n k (takenAt s n rest)))) := by
      rw [← hjob]
      exact exec_service h (by omega) ha (by decide) serviceReturn
    rw [hexec, serviceReturnShuttle_eq]
    refine ⟨fun hreg => ?_, fun hreg href => ?_, fun hreg hst hc => ?_⟩
    · rw [if_pos hreg, drain_nil rfl]
    · rw [if_neg (by simp [hreg]), if_pos href, drain_nil rfl]
    · rw [if_neg (by simp [hreg]), if_neg fun href => href.elim (fun hn => hst.elim hn.1 hn.2) (absurd hc)]
      cases hb : blockSheltered (takenAt s n rest) ((takenAt s n rest).shuttleConfig k).block with
      | false => rw [returnShuttle_calm hb]; rfl
      | true => rw [returnShuttle_sheltered hb]; rfl

end Sys2Proof.Machine
end

section
/-!
SUPPORT. What the reports of shuttles and robots do to a transfer (O47).
-/

namespace Sys2Proof.Machine

variable {s u : State} {k : ShuttleIx} {t : Transfer} {r : RobotId} {row : RowId} {n : SlotIx}

/-! ### Places left (R42) -/

theorem tget_rowsWithout (r : RobotId) (s : State) (x : RowId) : tget (rowsWithout r s) x = { s.row x with
    occupant := if (s.robot r).place = .row x ∧ (s.row x).occupant = some r then none else (s.row x).occupant } := by
  unfold rowsWithout
  split
  next y hy =>
    rw [hy, tget_tset]
    split
    next hx => subst hx; simp
    next hx => simp [Ne.symm hx, State.row]
  next hy =>
    rw [if_neg fun h => hy x h.1]
    rfl

theorem tget_shuttlesWithout (r : RobotId) (s : State) (j : ShuttleIx) :
    tget (shuttlesWithout r s) j = { s.shuttle j with
    carried := if (s.robot r).place = .shuttle j ∧ (s.shuttle j).carried = some r then none
      else (s.shuttle j).carried } := by
  unfold shuttlesWithout
  split
  next i hi =>
    rw [hi, tget_tset]
    split
    next hj => subst hj; simp
    next hj => simp [Ne.symm hj, State.shuttle]
  next hi =>
    rw [if_neg fun h => hi j h.1]
    rfl

/-- R41: the row at which the robot stood is left. -/
theorem rowsWithout_left (h : (s.robot r).place = .row row) : (tget (rowsWithout r s) row).occupant ≠ some r := by
  rw [tget_rowsWithout]
  dsimp only
  split
  next => exact nofun
  next hn => exact fun ho => hn ⟨h, ho⟩

/-- R41: the shuttle that carried the robot is left. -/
theorem shuttlesWithout_left (h : (s.robot r).place = .shuttle k) :
    (tget (shuttlesWithout r s) k).carried ≠ some r := by
  rw [tget_shuttlesWithout]
  dsimp only
  split
  next => exact nofun
  next hn => exact fun ho => hn ⟨h, ho⟩

/-! ### A command set leaves all but the table and the notices -/

@[simp] theorem setCommand_rows (i : LinkId) (cmd : Cmd) (owner : Owner) (s : State) :
    (setCommand i cmd owner s).rows = s.rows := by rw [setCommand_frame]

@[simp] theorem setCommand_robots (i : LinkId) (cmd : Cmd) (owner : Owner) (s : State) :
    (setCommand i cmd owner s).robots = s.robots := by rw [setCommand_frame]

@[simp] theorem setCommand_shuttles (i : LinkId) (cmd : Cmd) (owner : Owner) (s : State) :
    (setCommand i cmd owner s).shuttles = s.shuttles := by rw [setCommand_frame]

@[simp] theorem setCommand_board (i : LinkId) (cmd : Cmd) (owner : Owner) (s : State) :
    (setCommand i cmd owner s).board = s.board := by rw [setCommand_frame]

@[simp] theorem setCommand_memory (i : LinkId) (cmd : Cmd) (owner : Owner) (s : State) :
    (setCommand i cmd owner s).memory = s.memory := by rw [setCommand_frame]

@[simp] theorem setCommand_siteSecond (i : LinkId) (cmd : Cmd) (owner : Owner) (s : State) :
    (setCommand i cmd owner s).siteSecond = s.siteSecond := by rw [setCommand_frame]

/-! ### A shuttle's report (R40, R146) -/

theorem noteFault_eq (last code : Nat) (s : State) : noteFault last code s = { s with board := { s.board with
    notice := if code ≠ last ∧ code ≠ 0 then s.board.notice ||| 512#13 else s.board.notice } } := by
  unfold noteFault
  split <;> rfl

theorem arrives_iff {x : Shuttle} {rep : ShuttleReport} {target : Nat} : arrives x rep target = true ↔
    rep.state = .stopped ∧ x.goAcknowledged = true ∧ ∃ p, x.road = some p ∧ p ≤ target + 1 ∧ target ≤ p + 1 := by
  have hdiff : ∀ p, absDiff p target ≤ 1 ↔ p ≤ target + 1 ∧ target ≤ p + 1 := fun p => by
    unfold absDiff
    split <;> omega
  unfold arrives
  cases hr : x.road with
  | none => simp
  | some p => simp [hdiff, and_assoc]

/-- R154, R156: the shuttle at a dock. -/
theorem startDockStage_shuttle (hx : (s.shuttle k).inService = some t) (state : ShuttleState) (stage : Stage) :
    (startDockStage k state stage s).shuttle k = { s.shuttle k with
      state := state, goAcknowledged := false, transfer := some { t with stage := stage }
      deadline := some (later s s.params.boardTimeout) } := by
  have ht : (s.shuttle k).transfer = some t := (inService_eq_some_iff.mp hx).1
  unfold startDockStage
  rw [modShuttle_shuttle, if_pos rfl, ht]
  rfl

/-- R154. -/
theorem completeFetch_reaches (hx : (s.shuttle k).inService = some t) :
    (completeFetch k t s).shuttle k = { s.shuttle k with
      state := .board, goAcknowledged := false, transfer := some { t with stage := .board }
      deadline := some (later s s.params.boardTimeout) }
    ∧ Commanded (completeFetch k t s) (robotLink t.robot) (.board k) .arbiter := by
  refine ⟨?_, setCommand_commanded _ _ _ _⟩
  rw [completeFetch, commandRobot, setCommand_shuttle]
  exact startDockStage_shuttle hx .board .board

/-- R156. -/
theorem completeCarry_reaches (hx : (s.shuttle k).inService = some t) :
    (completeCarry k t s).shuttle k = { s.shuttle k with
      state := .alight, goAcknowledged := false, transfer := some { t with stage := .alight }
      deadline := some (later s s.params.boardTimeout) }
    ∧ Commanded (completeCarry k t s) (robotLink t.robot) (.alight t.destination) .arbiter := by
  refine ⟨?_, setCommand_commanded _ _ _ _⟩
  rw [completeCarry, commandRobot, setCommand_shuttle]
  exact startDockStage_shuttle hx .alight .alight

section
variable {rep : ShuttleReport}

/-- R146: a shuttle at rest. -/
theorem actOnShuttle_rest (h : (s.shuttle k).state = .idle ∨ (s.shuttle k).state = .sheltered) : actOnShuttle k rep s
    = if rep.state == .fault || rep.carried.isSome then enterFault k s else s := by
  unfold actOnShuttle
  dsimp only
  rcases h with h | h <;> rw [h]

theorem actOnShuttle_toShelter (h : (s.shuttle k).state = .toShelter) : actOnShuttle k rep s
    = if rep.state == .fault || rep.state == .halted || rep.carried.isSome then enterFault k s
      else if arrives (s.shuttle k) rep (s.shuttleConfig k).shelter then
        { s with shuttles := tset s.shuttles k { s.shuttle k with state := .sheltered, deadline := none } }
      else s := by
  unfold actOnShuttle
  dsimp only
  rw [h]
  rfl

theorem actOnShuttle_still (h : (s.shuttle k).state = .fault ∨ (s.shuttle k).state = .withdrawn) :
    actOnShuttle k rep s = s := by
  unfold actOnShuttle
  dsimp only
  rcases h with h | h <;> rw [h]

theorem actOnShuttle_fetch (h : (s.shuttle k).state = .fetch) (hx : (s.shuttle k).inService = some t) :
    actOnShuttle k rep s = if rep.state == .fault || rep.state == .halted || rep.carried.isSome then failStage k s
      else if arrives (s.shuttle k) rep (s.site t.source).road then completeFetch k t s else s := by
  unfold actOnShuttle
  dsimp only
  rw [h, hx]

theorem actOnShuttle_carry (h : (s.shuttle k).state = .carry) (hx : (s.shuttle k).inService = some t) :
    actOnShuttle k rep s = if rep.state == .fault || rep.state == .halted then failStage k s
      else if arrives (s.shuttle k) rep (s.site t.destination).road then completeCarry k t s else s := by
  unfold actOnShuttle
  dsimp only
  rw [h, hx]

theorem actOnShuttle_dock (h : (s.shuttle k).state = .board ∨ (s.shuttle k).state = .alight) : actOnShuttle k rep s
    = if rep.state == .fault then failStage k s else s := by
  unfold actOnShuttle
  dsimp only
  rcases h with h | h <;> rw [h]

end

/-! ### A robot's report (R154 to R157) -/

section
variable {rep : RobotReport}

theorem dockedAt_iff : dockedAt rep row = true ↔ rep.activity = .docked ∧ rep.row = row := by
  simp [dockedAt]

theorem moving_iff {a : Activity} : a.moving = true ↔ a = .boarding ∨ a = .aboard ∨ a = .alighting := by
  cases a <;> simp [Activity.moving]

theorem arrivesOutOfStage_iff : arrivesOutOfStage s r t rep = true ↔ (s.robot r).placementMark = false
    ∧ rep.row = t.destination ∧ ¬(rep.activity = .boarding ∨ rep.activity = .aboard ∨ rep.activity = .alighting) := by
  rw [← moving_iff]
  simp [arrivesOutOfStage, and_assoc]

/-! The four stages of a transfer of the robot that reports. -/

theorem arbiterReport_fetch (hk : serviceOf s r = some k) (hx : (s.shuttle k).inService = some t)
    (hs : t.stage = .fetch) :
    arbiterReport r rep s = if dockedAt rep t.source then s else placeFailure r k t rep s := by
  simp only [arbiterReport, hk, hx, hs]

theorem arbiterReport_board (hk : serviceOf s r = some k) (hx : (s.shuttle k).inService = some t)
    (hs : t.stage = .board) : arbiterReport r rep s = boardReport r k t rep s := by
  simp only [arbiterReport, hk, hx, hs]

theorem arbiterReport_carry (hk : serviceOf s r = some k) (hx : (s.shuttle k).inService = some t)
    (hs : t.stage = .carry) :
    arbiterReport r rep s = if dockedAt rep t.destination then leaveSets r (endTransfer k t s) else s := by
  simp only [arbiterReport, hk, hx, hs]

theorem arbiterReport_alight (hk : serviceOf s r = some k) (hx : (s.shuttle k).inService = some t)
    (hs : t.stage = .alight) : arbiterReport r rep s = alightReport r k t rep s := by
  simp only [arbiterReport, hk, hx, hs]

/-- A robot without a transfer in service. -/
theorem arbiterReport_unserved (hk : serviceOf s r = none) : arbiterReport r rep s
    = match queueOf s r with
      | some k => if rep.activity = .docked then evaluateStart k s else s
      | none => s := by
  cases hq : queueOf s r with
  | none => simp only [arbiterReport, hk, hq]
  | some k => simp only [arbiterReport, hk, hq]

theorem failStage_board (hx : (s.shuttle k).inService = some t) (hs : t.stage = .board) :
    failStage k s = failBoard k t .board s := by
  unfold failStage
  rw [hx]
  dsimp only
  rw [hs]

theorem failStage_alight (hx : (s.shuttle k).inService = some t) (hs : t.stage = .alight) :
    failStage k s = failAboard k t .alight s := by
  unfold failStage
  rw [hx]
  dsimp only
  rw [hs]

end

/-! ### Completed stages (R155, R157) -/

/-- R155: what a completed BOARD does before the drive is set. -/
def boardedState (k : ShuttleIx) (t : Transfer) (s : State) : State := { s with
  rows := rowsWithout t.robot s
  robots := tset s.robots t.robot { s.robot t.robot with place := .shuttle k }
  shuttles := tset (shuttlesWithout t.robot s) k { s.shuttle k with
    carried := some t.robot, state := .carry, transfer := some { t with stage := .carry, aborting := none }
    goAcknowledged := false
    deadline := some (later s (driveTimeout (driveDistance (s.shuttle k).road (s.site t.destination).road)
      (s.shuttleConfig k).speed)) } }

theorem completeBoard_eq (k : ShuttleIx) (t : Transfer) (s : State) : completeBoard k t s
    = commandShuttle k (.shuttleGo (s.site t.destination).road .carry) (boardedState k t s) := by
  have hroad : (tget (shuttlesWithout t.robot s) k).road = (s.shuttle k).road := by rw [tget_shuttlesWithout]
  unfold completeBoard boardRobot startDrive boardedState
  dsimp only
  rw [vacate_eq]
  simp only [modRobot, modShuttle, State.shuttle, tget_tset_self, tset_tset, hroad]
  simp only [tget_shuttlesWithout]
  rfl

/-- R157: what an ended transfer does before the shuttle goes on. -/
def alightedState (k : ShuttleIx) (t : Transfer) (s : State) : State := { s with
  rows := tset (rowsWithout t.robot s) t.destination
    { s.row t.destination with occupant := some t.robot, reserved := none }
  robots := tset s.robots t.robot { s.robot t.robot with place := .row t.destination }
  shuttles := tset (shuttlesWithout t.robot s) k { tget (shuttlesWithout t.robot s) k with transfer := none } }

theorem alighted_eq (k : ShuttleIx) (t : Transfer) (s : State) :
    emptyTransfer k (alightRobot t.robot t.destination s) = alightedState k t s := by
  unfold alightRobot emptyTransfer alightedState
  dsimp only
  rw [vacate_eq]
  simp only [modRobot, modRow, modShuttle, tget_tset_self, tset_tset]
  simp only [tget_rowsWithout]

/-- R157: the answer to the order, the report to the planner. -/
theorem finishTransfer_ended (ho : t.origin = some n) (k : ShuttleIx) (s : State) : finishTransfer k t .ended s
    = push (.transferReport t.robot t.destination .ended)
        (answer n (if (s.slot n).abortRequested then .doneLateAbort else .done) 0
          (transferResults s k t.destination) s) := by
  unfold finishTransfer
  rw [ho]
  exact if_pos (.inr rfl)

theorem answerTransfer_frame (k : ShuttleIx) (n : SlotIx) (d : RowId) (o : TransferOutcome) (s : State) :
    ∃ b m, answerTransfer k n d o s = { s with board := b, memory := m } := by
  cases o <;> exact ⟨_, _, answer_frame n _ _ _ s⟩

/-- R163: an outcome is answered and told, and changes nothing else. -/
theorem finishTransfer_frame (k : ShuttleIx) (t : Transfer) (o : TransferOutcome) (s : State) :
    ∃ b m a, finishTransfer k t o s = { s with board := b, memory := m, agenda := a } := by
  unfold finishTransfer
  cases t.origin with
  | none =>
    dsimp only
    split <;> exact ⟨_, _, _, rfl⟩
  | some n =>
    obtain ⟨b, m, h⟩ := answerTransfer_frame k n t.destination o s
    dsimp only
    rw [h]
    split <;> exact ⟨_, _, _, rfl⟩

/-- R11: the results of an answer. -/
theorem answer_result (n : SlotIx) (cls : AnswerClass) (d : Nat) (ws : List Word) (hwf : Memory.wf s.memory = true)
    {i : Nat} (hi : i < 13) : (answer n cls d ws s).mem (slotBase n + 19 + i) = ws.getD i 0 := by
  obtain ⟨_, _, _, _, hresults, _⟩ := answerWritten n cls d ws s hwf
  exact hresults i hi

/-- R157: what the answer to an ended transfer's order says. -/
theorem finishTransfer_ended_answered (ho : t.origin = some n) (hwf : Memory.wf s.memory = true) (k : ShuttleIx) :
    let v := finishTransfer k t .ended s
    AnsweredWith v n (if (s.slot n).abortRequested then 2 else 1) 0
      ∧ v.mem (slotBase n + 19) = word t.destination.1 ∧ v.mem (slotBase n + 20) = word (48 + k.1)
      ∧ v.mem (slotBase n + 21) = lowWord s.siteSecond ∧ v.mem (slotBase n + 22) = highWord s.siteSecond := by
  have hcode : (if (s.slot n).abortRequested then AnswerClass.doneLateAbort else .done).code
      = if (s.slot n).abortRequested then 2 else 1 := apply_ite AnswerClass.code _ _ _
  have hmem : ∀ j v a, (push j v).mem a = v.mem a := fun _ _ _ => rfl
  dsimp only
  rw [finishTransfer_ended ho]
  generalize (if (s.slot n).abortRequested then AnswerClass.doneLateAbort else .done) = cls at hcode
  have hans := answer_answeredWith n cls 0 (transferResults s k t.destination) hwf
  have hresult : ∀ i, i < 13 → (answer n cls 0 (transferResults s k t.destination) s).mem (slotBase n + 19 + i)
      = (transferResults s k t.destination).getD i 0 := fun i hi => answer_result n cls 0 _ hwf hi
  generalize answer n cls 0 (transferResults s k t.destination) s = v at hans hresult
  simp only [hmem]
  exact ⟨hcode ▸ hans.congr rfl rfl, hresult 0 (by decide), hresult 1 (by decide), hresult 2 (by decide),
    hresult 3 (by decide)⟩

/-- R157: an ended transfer leaves its shuttle IDLE, or on the way to its shelter, and is then told. -/
theorem endTransfer_eq (k : ShuttleIx) (t : Transfer) (s : State) : endTransfer k t s
    = if blockSheltered s (s.shuttleConfig k).block then
        finishTransfer k t .ended (goToShelter k (alightedState k t s))
      else push (.startRule k) (finishTransfer k t .ended
        (modShuttle k (fun x => { x with state := .idle, deadline := none, goAcknowledged := false })
          (alightedState k t s))) := by
  have hrows : ∀ x, ((alightedState k t s).row x).sheltered = (s.row x).sheltered := fun x => by
    unfold alightedState State.row
    rw [tget_tset, tget_rowsWithout]
    split
    next h => rw [h]
    next => rfl
  have hblock : blockSheltered (alightedState k t s) (shuttleBlock (alightedState k t s) k)
      = blockSheltered s (s.shuttleConfig k).block :=
    blockSheltered_congr (s := s) (t := alightedState k t s) rfl hrows (s.shuttleConfig k).block
  unfold endTransfer
  rw [alighted_eq]
  dsimp only
  rw [hblock]

/-! ### The statement -/

/-- R155: what a completed BOARD leaves. -/
theorem completeBoard_leaves (k : ShuttleIx) (x : Transfer) (u : State) :
    let t := completeBoard k x u
    let road := (u.site x.destination).road
    (t.robot x.robot).place = .shuttle k ∧ (t.shuttle k).carried = some x.robot
      ∧ (∀ row, (u.robot x.robot).place = .row row → (t.row row).occupant ≠ some x.robot)
      ∧ (t.shuttle k).state = .carry ∧ (t.shuttle k).transfer = some { x with stage := .carry, aborting := none }
      ∧ (t.shuttle k).deadline = some (later u
          (driveTimeout (driveDistance (u.shuttle k).road road) (u.shuttleConfig k).speed))
      ∧ Commanded t (shuttleLink k) (.shuttleGo road .carry) .arbiter := by
  dsimp only
  rw [completeBoard_eq]
  refine ⟨?_, ?_, fun row hrow => ?_, ?_, ?_, ?_, setCommand_commanded _ _ _ _⟩
  case refine_3 =>
    rw [State.row, commandShuttle, setCommand_rows]
    exact rowsWithout_left hrow
  all_goals simp [commandShuttle, State.robot, State.shuttle, boardedState]

/-- R157: the places that an ended transfer leaves. -/
theorem alightedState_leaves (k : ShuttleIx) (x : Transfer) (u : State) :
    ((alightedState k x u).robot x.robot).place = .row x.destination
      ∧ (alightedState k x u).row x.destination
          = { u.row x.destination with occupant := some x.robot, reserved := none }
      ∧ ((alightedState k x u).shuttle k).transfer = none
      ∧ ((u.robot x.robot).place = .shuttle k → ((alightedState k x u).shuttle k).carried ≠ some x.robot) := by
  refine ⟨?_, ?_, ?_, fun h => ?_⟩
  · simp [alightedState, State.robot]
  · simp [alightedState, State.row]
  · simp [alightedState, State.shuttle]
  · have hk : ((alightedState k x u).shuttle k).carried = (tget (shuttlesWithout x.robot u) k).carried := by
      simp [alightedState, State.shuttle]
    rw [hk]
    exact shuttlesWithout_left h

/-- R157: an ended transfer told by a shuttle that stands at the destination, in the state w. -/
theorem endTransfer_finished (k : ShuttleIx) (x : Transfer) (u : State) :
    ∃ w, w.robots = (alightedState k x u).robots ∧ w.rows = (alightedState k x u).rows ∧ w.board = u.board
      ∧ w.memory = u.memory ∧ w.siteSecond = u.siteSecond
      ∧ w.shuttle k = { (alightedState k x u).shuttle k with
          state := if blockSheltered u (u.shuttleConfig k).block then .toShelter else .idle
          deadline := (w.shuttle k).deadline, goAcknowledged := false }
      ∧ ∃ a, endTransfer k x u = { finishTransfer k x .ended w with agenda := a } := by
  rw [endTransfer_eq]
  split
  next =>
    refine ⟨goToShelter k (alightedState k x u), ?_, ?_, ?_, ?_, ?_, ?_, _, rfl⟩
    all_goals rw [goToShelter_eq, commandShuttle]
    · rw [setCommand_robots]; rfl
    · rw [setCommand_rows]; rfl
    · rw [setCommand_board]; rfl
    · rw [setCommand_memory]; rfl
    · rw [setCommand_siteSecond]; rfl
    · rw [setCommand_shuttle, modShuttle_shuttle, if_pos rfl]
  next =>
    refine ⟨modShuttle k (fun x => { x with state := .idle, deadline := none, goAcknowledged := false })
      (alightedState k x u), rfl, rfl, rfl, rfl, rfl, ?_, _, rfl⟩
    rw [modShuttle_shuttle, if_pos rfl]

/-- R157: what an ended transfer leaves. -/
theorem endTransfer_leaves (k : ShuttleIx) (x : Transfer) {u : State} (hwf : Memory.wf u.memory = true) :
    let t := endTransfer k x u
    let sheltered := blockSheltered u (u.shuttleConfig k).block
    (t.robot x.robot).place = .row x.destination
      ∧ t.row x.destination = { u.row x.destination with occupant := some x.robot, reserved := none }
      ∧ (t.shuttle k).transfer = none ∧ (t.shuttle k).state = (if sheltered then .toShelter else .idle)
      ∧ ((u.robot x.robot).place = .shuttle k → (t.shuttle k).carried ≠ some x.robot)
      ∧ ∀ n, x.origin = some n →
          AnsweredWith t n (if (u.slot n).abortRequested then 2 else 1) 0
          ∧ t.mem (slotBase n + 19) = word x.destination.1 ∧ t.mem (slotBase n + 20) = word (48 + k.1)
          ∧ t.mem (slotBase n + 21) = lowWord u.siteSecond ∧ t.mem (slotBase n + 22) = highWord u.siteSecond := by
  obtain ⟨w, hrobots, hrows, hboard, hmemory, hsecond, hshuttle, a, ht⟩ := endTransfer_finished k x u
  obtain ⟨hplace, hrow, htransfer, hcarried⟩ := alightedState_leaves k x u
  obtain ⟨fb, fm, fa, hf⟩ := finishTransfer_frame k x .ended w
  have htr : (endTransfer k x u).robots = (alightedState k x u).robots := by rw [ht, hf]; exact hrobots
  have htw : (endTransfer k x u).rows = (alightedState k x u).rows := by rw [ht, hf]; exact hrows
  have htk : (endTransfer k x u).shuttle k = w.shuttle k := by rw [ht, hf]; rfl
  refine ⟨?_, ?_, ?_, ?_, fun h => ?_, fun n ho => ?_⟩
  · rw [State.robot, htr]; exact hplace
  · rw [State.row, htw]; exact hrow
  · rw [htk, hshuttle]; exact htransfer
  · rw [htk, hshuttle]
  · rw [htk, hshuttle]; exact hcarried h
  · obtain ⟨hans, hresults⟩ := finishTransfer_ended_answered (s := w) ho (hmemory ▸ hwf) k
    have hslot : w.slot n = u.slot n := by rw [State.slot, hboard]; rfl
    rw [hslot] at hans
    rw [hsecond] at hresults
    rw [ht]
    exact ⟨hans.congr rfl rfl, hresults⟩

/-- R155: the reports in BOARD. -/
theorem boardReport_cases {rep : RobotReport} (hx : (u.shuttle k).inService = some t) (hs : t.stage = .board) :
    let docked := rep.activity = .docked ∧ rep.row = t.source
    let moving := rep.activity = .boarding ∨ rep.activity = .aboard ∨ rep.activity = .alighting
    let arrival := (u.robot r).placementMark = false ∧ rep.row = t.destination ∧ ¬moving
    let stopped := rep.activity = .halted ∨ rep.activity = .fault
    (rep.activity = .aboard → boardReport r k t rep u = leaveSets r (completeBoard k t u))
      ∧ (docked → t.aborting = none → boardReport r k t rep u = u)
      ∧ (∀ d, docked → t.aborting = some d → boardReport r k t rep u = completeAbort k t d u)
      ∧ (rep.activity = .boarding ∨ rep.activity = .returning ∧ t.aborting ≠ none → boardReport r k t rep u = u)
      ∧ (rep.activity ≠ .aboard → ¬docked → rep.activity ≠ .boarding →
          ¬(rep.activity = .returning ∧ t.aborting ≠ none) →
          boardReport r k t rep u
            = if arrival ∧ ¬stopped then moveByReport r rep (failPlace k u) else failStage k u) := by
  intro docked moving arrival stopped
  have hnot : ∀ {a : Activity}, rep.activity = a → a ≠ .docked → ¬dockedAt rep t.source = true := fun ha hn hd =>
    hn (ha.symm.trans (dockedAt_iff.mp hd).1)
  have haboard : docked → ¬rep.activity = .aboard := fun hd ha => nomatch ha.symm.trans hd.1
  refine ⟨fun ha => if_pos ha, fun hd hn => ?_, fun d hd hn => ?_, fun h => ?_, fun ha hd hb hr => ?_⟩
  · rw [boardReport, if_neg (haboard hd), if_pos (dockedAt_iff.mpr hd), hn]
  · rw [boardReport, if_neg (haboard hd), if_pos (dockedAt_iff.mpr hd), hn]
  · rw [boardReport]
    rcases h with h | ⟨h, hn⟩
    · rw [if_neg (by simp [h]), if_neg (hnot h (by decide)), if_pos h]
    · rw [if_neg (by simp [h]), if_neg (hnot h (by decide)), if_neg (by simp [h]),
        if_pos ⟨h, Option.isSome_iff_ne_none.mpr hn⟩]
  · have hkept : boardReport r k t rep u = if stopped then failBoard k t .board u
        else if arrivesOutOfStage u r t rep then placeFailure r k t rep u else failBoard k t .board u := by
      rw [boardReport, if_neg ha, if_neg (mt dockedAt_iff.mp hd), if_neg hb,
        if_neg fun h => hr (h.imp_right Option.isSome_iff_ne_none.mp)]
    rw [hkept, failStage_board hx hs]
    by_cases hstop : stopped
    · rw [if_pos hstop, if_neg fun h => h.2 hstop]
    · rw [if_neg hstop]
      by_cases harr : arrival
      · have hout := arrivesOutOfStage_iff.mpr harr
        rw [if_pos hout, if_pos ⟨harr, hstop⟩, placeFailure, if_pos hout]
      · rw [if_neg (mt arrivesOutOfStage_iff.mp harr), if_neg fun h => harr h.1]

/-- R40: a shuttle's report is recorded, and acted on. -/
theorem shuttleStatus_recorded (u : State) (k : ShuttleIx) (rep : ShuttleReport) (diff : Nat) :
    handle (.shuttleStatus k rep diff) u = actOnShuttle k rep
      { u with
        board := { u.board with notice :=
          if rep.faultCode ≠ (u.shuttle k).faultCode ∧ rep.faultCode ≠ 0 then u.board.notice ||| 512#13
          else u.board.notice }
        shuttles := tset u.shuttles k
          { u.shuttle k with road := some (min 4095 rep.road), faultCode := rep.faultCode }
        farm := { u.farm with shuttleEnergy := min 0xFFFFFFFF (u.farm.shuttleEnergy + diff) } } := by
  show shuttleStatus k rep diff u = _
  unfold shuttleStatus
  rw [noteFault_eq]
  rfl

theorem shuttleReports (v : State) (k : ShuttleIx) (rep : ShuttleReport) :
    let x := v.shuttle k
    let t := actOnShuttle k rep v
    let carries := rep.carried ≠ none
    let arrived := fun (target : Nat) => rep.state = .stopped ∧ x.goAcknowledged = true
      ∧ ∃ p, x.road = some p ∧ p ≤ target + 1 ∧ target ≤ p + 1
    let atDock := fun (y : Transfer) (state : ShuttleState) (stage : Stage) =>
      t.shuttle k = { x with
        state := state, goAcknowledged := false, transfer := some { y with stage := stage }
        deadline := some ((v.siteSecond + v.params.boardTimeout) % 4294967296) }
    (x.state = .idle ∨ x.state = .sheltered →
      t = if rep.state = .fault ∨ carries then enterFault k v else v)
    ∧ (x.state = .toShelter →
      (rep.state = .fault ∨ rep.state = .halted ∨ carries → t = enterFault k v)
      ∧ (¬carries → arrived (v.shuttleConfig k).shelter →
          t = { v with shuttles := tset v.shuttles k { x with state := .sheltered, deadline := none } })
      ∧ (rep.state ≠ .fault → rep.state ≠ .halted → ¬carries → ¬arrived (v.shuttleConfig k).shelter → t = v))
    ∧ (x.state = .fault ∨ x.state = .withdrawn → t = v)
    ∧ (∀ y, x.state = .fetch → x.inService = some y →
      (rep.state = .fault ∨ rep.state = .halted ∨ carries → t = failStage k v)
      ∧ (¬carries → arrived (v.site y.source).road →
          atDock y .board .board ∧ Commanded t (robotLink y.robot) (.board k) .arbiter)
      ∧ (rep.state ≠ .fault → rep.state ≠ .halted → ¬carries → ¬arrived (v.site y.source).road → t = v))
    ∧ (∀ y, x.state = .carry → x.inService = some y →
      (rep.state = .fault ∨ rep.state = .halted → t = failStage k v)
      ∧ (arrived (v.site y.destination).road →
          atDock y .alight .alight ∧ Commanded t (robotLink y.robot) (.alight y.destination) .arbiter)
      ∧ (rep.state ≠ .fault → rep.state ≠ .halted → ¬arrived (v.site y.destination).road → t = v))
    ∧ (x.state = .board ∨ x.state = .alight → t = if rep.state = .fault then failStage k v else v) := by
  intro x t carries arrived atDock
  have hcarries : rep.carried.isSome = true ↔ carries := Option.isSome_iff_ne_none
  have hempty : (rep.state == .fault || rep.state == .halted || rep.carried.isSome) = true
      ↔ rep.state = .fault ∨ rep.state = .halted ∨ carries := by
    simp only [Bool.or_eq_true, beq_iff_eq, hcarries, or_assoc]
  have hloaded : (rep.state == .fault || rep.state == .halted) = true ↔ rep.state = .fault ∨ rep.state = .halted := by
    simp only [Bool.or_eq_true, beq_iff_eq]
  have hgoes : ∀ {target}, arrived target → ¬(rep.state = .fault ∨ rep.state = .halted) := fun h hf =>
    hf.elim (fun e => nomatch h.1.symm.trans e) fun e => nomatch h.1.symm.trans e
  have hgoesEmpty : ∀ {target}, ¬carries → arrived target → ¬(rep.state = .fault ∨ rep.state = .halted ∨ carries) :=
    fun hc h hf => hf.elim (fun e => hgoes h (.inl e)) (Or.elim · (fun e => hgoes h (.inr e)) hc)
  refine ⟨fun h => ?_, fun h => ⟨fun hf => ?_, fun hc ha => ?_, fun h1 h2 hc ha => ?_⟩, actOnShuttle_still,
    fun y h hx => ⟨fun hf => ?_, fun hc ha => ?_, fun h1 h2 hc ha => ?_⟩,
    fun y h hx => ⟨fun hf => ?_, fun ha => ?_, fun h1 h2 ha => ?_⟩, fun h => ?_⟩
  · refine (actOnShuttle_rest h).trans (if_congr ?_ rfl rfl)
    simp only [Bool.or_eq_true, beq_iff_eq, hcarries]
  · exact (actOnShuttle_toShelter h).trans (if_pos (hempty.mpr hf))
  · exact (actOnShuttle_toShelter h).trans
      ((if_neg (mt hempty.mp (hgoesEmpty hc ha))).trans (if_pos (arrives_iff.mpr ha)))
  · exact (actOnShuttle_toShelter h).trans ((if_neg (mt hempty.mp (not_or.mpr ⟨h1, not_or.mpr ⟨h2, hc⟩⟩))).trans
      (if_neg (mt arrives_iff.mp ha)))
  · exact (actOnShuttle_fetch h hx).trans (if_pos (hempty.mpr hf))
  · have ht : t = completeFetch k y v := (actOnShuttle_fetch h hx).trans
      ((if_neg (mt hempty.mp (hgoesEmpty hc ha))).trans (if_pos (arrives_iff.mpr ha)))
    dsimp only [atDock]
    rw [ht]
    exact completeFetch_reaches hx
  · exact (actOnShuttle_fetch h hx).trans ((if_neg (mt hempty.mp (not_or.mpr ⟨h1, not_or.mpr ⟨h2, hc⟩⟩))).trans
      (if_neg (mt arrives_iff.mp ha)))
  · exact (actOnShuttle_carry h hx).trans (if_pos (hloaded.mpr hf))
  · have ht : t = completeCarry k y v := (actOnShuttle_carry h hx).trans
      ((if_neg (mt hloaded.mp (hgoes ha))).trans (if_pos (arrives_iff.mpr ha)))
    dsimp only [atDock]
    rw [ht]
    exact completeCarry_reaches hx
  · exact (actOnShuttle_carry h hx).trans ((if_neg (mt hloaded.mp (not_or.mpr ⟨h1, h2⟩))).trans
      (if_neg (mt arrives_iff.mp ha)))
  · exact (actOnShuttle_dock h).trans (if_congr beq_iff_eq rfl rfl)

theorem placeFailure_eq (u : State) (r : RobotId) (k : ShuttleIx) (t : Transfer) (rep : RobotReport)
    [Decidable ((u.robot r).placementMark = false ∧ rep.row = t.destination
      ∧ ¬(rep.activity = .boarding ∨ rep.activity = .aboard ∨ rep.activity = .alighting))] :
    placeFailure r k t rep u = if (u.robot r).placementMark = false ∧ rep.row = t.destination
      ∧ ¬(rep.activity = .boarding ∨ rep.activity = .aboard ∨ rep.activity = .alighting)
      then moveByReport r rep (failPlace k u) else failPlace k u :=
  if_congr arrivesOutOfStage_iff rfl rfl

/-- Settles O47: the shuttle's report, the robot's report stage by stage, and what the stages leave. -/
theorem stageReports : Obligations.StageReports := by
  unfold Obligations.StageReports
  refine ⟨shuttleStatus_recorded, shuttleReports, fun u r rep k x hk hx => ⟨fun hs => ⟨fun hd => ?_, fun hd => ?_⟩,
    fun hs => ?_, fun hs => ?_, fun hs => ?_⟩, fun u r rep hk => ?_,
    fun u k x _ => ⟨completeBoard_leaves k x u, fun hwf => endTransfer_leaves k x hwf⟩⟩
  · exact (arbiterReport_fetch hk hx hs).trans (if_pos (dockedAt_iff.mpr hd))
  · exact ((arbiterReport_fetch hk hx hs).trans (if_neg (mt dockedAt_iff.mp hd))).trans (placeFailure_eq u r k x rep)
  · have ht : handle (.arbiterReport r rep) u = boardReport r k x rep u := arbiterReport_board hk hx hs
    rw [ht]
    exact boardReport_cases hx hs
  · exact (arbiterReport_carry hk hx hs).trans (if_congr dockedAt_iff rfl rfl)
  · refine (arbiterReport_alight hk hx hs).trans ((if_congr dockedAt_iff rfl ?_))
    rw [failStage_alight hx hs]
  · exact arbiterReport_unserved hk

end Sys2Proof.Machine
end

section
/-!
SUPPORT. The checks of RUN entry (O15).
-/

namespace Sys2Proof.Machine

variable {s t : State} {p : Plant}

/-! ### What a CHECKING reads (R31) -/

theorem readPlant_congr (h : ∀ a, checkedWord t a = checkedWord s a) : readPlant t = readPlant s := by
  have hnat : checkedNat t = checkedNat s := funext fun a => congrArg BitVec.toNat (h a)
  have hbit : checkedBit t = checkedBit s := funext fun a => funext fun i => congrArg (BitVec.getLsbD · i) (h a)
  unfold readPlant readSiteRow readStation readRobot readShuttle readParams readWrittenParams readAnemometer
  simp only [hnat, hbit]

/-! ### The first failure (R32) -/

/-- The first index in ascending order that gives something. -/
theorem findSome?_finRange_eq_some {α : Type} {m : Nat} {f : Fin m → Option α} {x : α}
    (h : (List.finRange m).findSome? f = some x) : ∃ i, f i = some x ∧ ∀ j, j < i → f j = none := by
  obtain ⟨before, i, after, hlist, hi, hbefore⟩ := List.findSome?_eq_some_iff.mp h
  refine ⟨i, hi, fun j hj => hbefore j ?_⟩
  have hsorted : (before ++ i :: after).Pairwise (· < ·) := hlist ▸ List.pairwise_lt_finRange m
  have hmem : j ∈ before ++ i :: after := hlist ▸ List.mem_finRange j
  rcases List.mem_append.mp hmem with hm | hm
  · exact hm
  · rcases List.mem_cons.mp hm with rfl | hm
    · exact absurd hj (lt_irrefl j)
    · have hlt := (List.pairwise_cons.mp (List.pairwise_append.mp hsorted).2.1).1 j hm
      exact absurd hj (not_lt_of_gt hlt)

theorem findSome?_finRange_eq_none {α : Type} {m : Nat} {f : Fin m → Option α} :
    (List.finRange m).findSome? f = none ↔ ∀ i, f i = none := by
  simp [List.findSome?_eq_none_iff]

theorem firstFailure_eq_none : firstFailure s p = none ↔ (∀ r, checkRow s p r = none) ∧ (∀ n, checkStation p n = none)
    ∧ (∀ r, checkRobot p r = none) ∧ ∀ k, checkShuttle p k = none := by
  unfold firstFailure
  simp only [← findSome?_finRange_eq_none]
  show _ ↔ allRows.findSome? _ = none ∧ allStations.findSome? _ = none ∧ allRobots.findSome? _ = none
    ∧ allShuttles.findSome? _ = none
  cases allRows.findSome? (checkRow s p) <;> cases allStations.findSome? (checkStation p)
    <;> cases allRobots.findSome? (checkRobot p) <;> simp

theorem firstFailure_eq_some {f : CheckFailure} (h : firstFailure s p = some f) :
    (∃ r, checkRow s p r = some f ∧ ∀ q, q < r → checkRow s p q = none)
      ∨ (∀ r, checkRow s p r = none) ∧
        ((∃ n, checkStation p n = some f ∧ ∀ m, m < n → checkStation p m = none)
        ∨ (∀ n, checkStation p n = none) ∧
          ((∃ r, checkRobot p r = some f ∧ ∀ q, q < r → checkRobot p q = none)
          ∨ (∀ r, checkRobot p r = none) ∧ ∃ k, checkShuttle p k = some f ∧ ∀ j, j < k → checkShuttle p j = none)) := by
  unfold firstFailure at h
  split at h
  next g hg =>
    cases h
    exact .inl (findSome?_finRange_eq_some hg)
  next hrows =>
    refine .inr ⟨findSome?_finRange_eq_none.mp hrows, ?_⟩
    split at h
    next g hg =>
      cases h
      exact .inl (findSome?_finRange_eq_some hg)
    next hstations =>
      refine .inr ⟨findSome?_finRange_eq_none.mp hstations, ?_⟩
      split at h
      next g hg =>
        cases h
        exact .inl (findSome?_finRange_eq_some hg)
      next hrobots => exact .inr ⟨findSome?_finRange_eq_none.mp hrobots, findSome?_finRange_eq_some h⟩

/-! ### The checks of one record (R32) -/

theorem stationWordOk_iff {r : RowId} : stationWordOk s p r = true ↔ checkedNat s (siteRowAddress r + 4) = 0xFFFF
    ∨ ∃ n : StationIx, checkedNat s (siteRowAddress r + 4) = n.1 ∧ (tget p.stations n).used = true := by
  unfold stationWordOk
  dsimp only
  split
  next hlt =>
    refine ⟨fun h => .inr ⟨_, rfl, h⟩, ?_⟩
    rintro (hw | ⟨n, hn, hu⟩)
    · omega
    · exact (congrArg (fun m => (tget p.stations m).used) (Fin.ext hn)).trans hu
  next hge =>
    refine beq_iff_eq.trans ⟨.inl, ?_⟩
    rintro (hw | ⟨n, hn, _⟩)
    · exact hw
    · exact absurd (hn ▸ n.2) hge

theorem channelTaken_iff {n : StationIx} {c : Nat} : channelTaken p n c = true ↔ ∃ m, m < n
    ∧ (tget p.stations m).used = true ∧ ((tget p.stations m).clean = c ∨ (tget p.stations m).soiled = c) := by
  simp [channelTaken, allStations, and_assoc]

theorem homeOk_iff {x : RobotConfig} : homeOk p x = true ↔ ∃ row : RowId, x.home = row.1
    ∧ (tget p.site row).present = true ∧ (tget p.site row).block = x.block := by
  unfold homeOk
  split
  next hlt =>
    rw [Bool.and_eq_true, beq_iff_eq]
    refine ⟨fun h => ⟨⟨x.home, hlt⟩, rfl, h⟩, ?_⟩
    rintro ⟨row, hrow, h⟩
    obtain rfl : (⟨x.home, hlt⟩ : RowId) = row := Fin.ext hrow
    exact h
  next hge => exact ⟨nofun, fun ⟨row, hrow, _⟩ => absurd (hrow ▸ row.2) hge⟩

theorem homeShared_iff {r : RobotId} {x : RobotConfig} : (allRobots.any fun q => decide (q.1 < r.1)
      && (tget p.robots q).registered && (tget p.robots q).home == x.home) = true
    ↔ ∃ q, q < r ∧ (tget p.robots q).registered = true ∧ (tget p.robots q).home = x.home := by
  simp [allRobots, and_assoc]

theorem blockShared_iff {k : ShuttleIx} {x : ShuttleConfig} : (allShuttles.any fun j => decide (j.1 < k.1)
      && (tget p.shuttles j).registered && (tget p.shuttles j).block == x.block) = true
    ↔ ∃ j, j < k ∧ (tget p.shuttles j).registered = true ∧ (tget p.shuttles j).block = x.block := by
  simp [allShuttles, and_assoc]

theorem bnot_iff {b : Bool} : (!b) = true ↔ b = false := by cases b <;> simp

/-- R32: the checks of a row. -/
theorem checkRow_eq (s : State) (p : Plant) (r : RowId) :
    let x := tget p.site r
    let w := checkedNat s (siteRowAddress r + 4)
    checkRow s p r =
      if x.present = false then none
      else if x.length < 10 ∨ 1023 < x.length then some (.rowLength, r.1)
      else if 7 < x.block then some (.rowBlock, r.1)
      else if w = 0xFFFF ∨ ∃ n : StationIx, w = n.1 ∧ (tget p.stations n).used = true then none
      else some (.rowStation, r.1) :=
  if_congr bnot_iff rfl (if_congr Iff.rfl rfl (if_congr Iff.rfl rfl (if_congr stationWordOk_iff rfl rfl)))

/-- R32: the checks of a station. -/
theorem checkStation_eq (p : Plant) (n : StationIx) :
    let x := tget p.stations n
    let shared : Nat → Bool := fun c => decide (∃ m, m < n ∧ (tget p.stations m).used = true
      ∧ ((tget p.stations m).clean = c ∨ (tget p.stations m).soiled = c))
    checkStation p n =
      if x.used = false then none
      else if 31 < x.clean ∨ 31 < x.soiled then some (.channelRange, n.1)
      else if x.clean = x.soiled ∨ shared x.clean = true ∨ shared x.soiled = true then some (.channelReused, n.1)
      else none := by
  intro x shared
  have hshared : ∀ c, channelTaken p n c = true ↔ shared c = true := fun c =>
    channelTaken_iff.trans (decide_eq_true_iff).symm
  exact if_congr bnot_iff rfl (if_congr Iff.rfl rfl
    (if_congr (or_congr Iff.rfl (or_congr (hshared x.clean) (hshared x.soiled))) rfl rfl))

/-- R32: the checks of a robot. -/
theorem checkRobot_eq (p : Plant) (r : RobotId) :
    let x := tget p.robots r
    checkRobot p r =
      if x.registered = false then none
      else if ∃ row : RowId, x.home = row.1 ∧ (tget p.site row).present = true ∧ (tget p.site row).block = x.block then
        if ∃ q, q < r ∧ (tget p.robots q).registered = true ∧ (tget p.robots q).home = x.home then
          some (.homeShared, r.1)
        else none
      else some (.robotHome, r.1) := by
  have hhome : (!homeOk p (tget p.robots r)) = true ↔ ¬∃ row : RowId, (tget p.robots r).home = row.1
      ∧ (tget p.site row).present = true ∧ (tget p.site row).block = (tget p.robots r).block :=
    bnot_iff.trans (Bool.eq_false_iff.trans (not_congr homeOk_iff))
  exact if_congr bnot_iff rfl ((if_congr hhome rfl (if_congr homeShared_iff rfl rfl)).trans (ite_not ..))

/-- R32: the checks of a shuttle. -/
theorem checkShuttle_eq (p : Plant) (k : ShuttleIx) :
    let x := tget p.shuttles k
    checkShuttle p k =
      if x.registered = false then none
      else if 7 < x.block then some (.shuttleBlock, k.1)
      else if ∃ j, j < k ∧ (tget p.shuttles j).registered = true ∧ (tget p.shuttles j).block = x.block then
        some (.shuttleShared, k.1)
      else none :=
  if_congr bnot_iff rfl (if_congr Iff.rfl rfl (if_congr blockShared_iff rfl rfl))

section
variable {α : Type} {c : Prop} [Decidable c] {x : α} {y : Option α}

theorem ite_none_eq_none : (if c then none else y) = none ↔ (¬c → y = none) := by
  split <;> simp [*]

theorem ite_some_eq_none : (if c then some x else y) = none ↔ ¬c ∧ y = none := by
  split <;> simp [*]

end

theorem checkRow_eq_none {r : RowId} : checkRow s p r = none ↔ ((tget p.site r).present = true →
    10 ≤ (tget p.site r).length ∧ (tget p.site r).length ≤ 1023 ∧ (tget p.site r).block ≤ 7
      ∧ (checkedNat s (siteRowAddress r + 4) = 0xFFFF
        ∨ ∃ n : StationIx, checkedNat s (siteRowAddress r + 4) = n.1 ∧ (tget p.stations n).used = true)) := by
  have hlength : ¬((tget p.site r).length < 10 ∨ 1023 < (tget p.site r).length)
      ↔ 10 ≤ (tget p.site r).length ∧ (tget p.site r).length ≤ 1023 := by omega
  rw [checkRow_eq]
  simp only [ite_none_eq_none, ite_some_eq_none, hlength, reduceCtorEq, imp_false, not_not, Bool.not_eq_false, not_lt,
    and_assoc]

theorem checkStation_eq_none {n : StationIx} : checkStation p n = none ↔ ((tget p.stations n).used = true →
    (tget p.stations n).clean ≤ 31 ∧ (tget p.stations n).soiled ≤ 31
      ∧ (tget p.stations n).clean ≠ (tget p.stations n).soiled
      ∧ ∀ m, m < n → (tget p.stations m).used = true →
        (tget p.stations m).clean ≠ (tget p.stations n).clean ∧ (tget p.stations m).clean ≠ (tget p.stations n).soiled
        ∧ (tget p.stations m).soiled ≠ (tget p.stations n).clean
        ∧ (tget p.stations m).soiled ≠ (tget p.stations n).soiled) := by
  have hfree : ∀ c, ¬(∃ m, m < n ∧ (tget p.stations m).used = true
      ∧ ((tget p.stations m).clean = c ∨ (tget p.stations m).soiled = c))
      ↔ ∀ m, m < n → (tget p.stations m).used = true →
        (tget p.stations m).clean ≠ c ∧ (tget p.stations m).soiled ≠ c := fun c => by
    simp only [not_exists, not_and, not_or]
  rw [checkStation_eq]
  simp only [ite_none_eq_none, ite_some_eq_none, Bool.not_eq_false, not_or, not_lt, decide_eq_true_eq, hfree, and_true,
    and_assoc]
  refine imp_congr_right fun _ => and_congr_right fun _ => and_congr_right fun _ => and_congr_right fun _ =>
    ⟨fun ⟨hc, hs⟩ m hm hu => ⟨(hc m hm hu).1, (hs m hm hu).1, (hc m hm hu).2, (hs m hm hu).2⟩,
      fun h => ⟨fun m hm hu => ?_, fun m hm hu => ?_⟩⟩
  · obtain ⟨hcc, _, hsc, _⟩ := h m hm hu
    exact ⟨hcc, hsc⟩
  · obtain ⟨_, hcs, _, hss⟩ := h m hm hu
    exact ⟨hcs, hss⟩

theorem checkRobot_eq_none {r : RobotId} : checkRobot p r = none ↔ ((tget p.robots r).registered = true →
    (∃ row : RowId, (tget p.robots r).home = row.1 ∧ (tget p.site row).present = true
      ∧ (tget p.site row).block = (tget p.robots r).block)
      ∧ ∀ q, q < r → (tget p.robots q).registered = true → (tget p.robots q).home ≠ (tget p.robots r).home) := by
  have hfree : ¬(∃ q, q < r ∧ (tget p.robots q).registered = true ∧ (tget p.robots q).home = (tget p.robots r).home)
      ↔ ∀ q, q < r → (tget p.robots q).registered = true → (tget p.robots q).home ≠ (tget p.robots r).home := by
    simp only [not_exists, not_and, ne_eq]
  rw [checkRobot_eq, ← ite_not (p := ∃ row : RowId, _)]
  simp only [ite_none_eq_none, ite_some_eq_none, Bool.not_eq_false, not_not, and_true, hfree]

theorem checkShuttle_eq_none {k : ShuttleIx} : checkShuttle p k = none ↔ ((tget p.shuttles k).registered = true →
    (tget p.shuttles k).block ≤ 7
      ∧ ∀ j, j < k → (tget p.shuttles j).registered = true →
          (tget p.shuttles j).block ≠ (tget p.shuttles k).block) := by
  rw [checkShuttle_eq]
  simp only [ite_none_eq_none, ite_some_eq_none, Bool.not_eq_false, not_lt, and_true, not_exists, not_and, ne_eq]

/-! ### The statement -/

/-- R31: the state in which the checks are made, with the plant read and its count kept. -/
def plantRead (s : State) : State :=
  { s with agenda := [], modes := { s.modes with clamped := (readPlant s).2 } }

theorem finishChecking_failed {f : CheckFailure} (h : firstFailure (plantRead s) (readPlant s).1 = some f) :
    finishChecking { s with agenda := [] } = { plantRead s with modes := { (plantRead s).modes with
      mode := .setup, refusal := f.1, refusalIndex := f.2, checkRead := [] } } := by
  have hread : readPlant { s with agenda := [] } = readPlant s := readPlant_congr fun _ => rfl
  have hstate : modModes (fun x => { x with clamped := (readPlant s).2 }) { s with agenda := [] } = plantRead s := rfl
  simp only [finishChecking, hread, hstate, h]
  exact Eq.refl (modModes _ (plantRead s))

theorem finishChecking_passed (h : firstFailure (plantRead s) (readPlant s).1 = none) :
    finishChecking { s with agenda := [] } = enterRun (readPlant s).1 (plantRead s) := by
  have hread : readPlant { s with agenda := [] } = readPlant s := readPlant_congr fun _ => rfl
  have hstate : modModes (fun x => { x with clamped := (readPlant s).2 }) { s with agenda := [] } = plantRead s := rfl
  simp only [finishChecking, hread, hstate, h]

/-- Settles O15: the end of CHECKING, and the checks record by record. -/
theorem runEntryChecks : Obligations.RunEntryChecks := by
  unfold Obligations.RunEntryChecks
  refine ⟨fun s hr hm => ?_, fun s p => ⟨?_, fun f hf => firstFailure_eq_some hf⟩,
    fun s p => ⟨checkRow_eq s p, checkStation_eq p, checkRobot_eq p, checkShuttle_eq p⟩, rfl⟩
  · have hexec : exec .runEntryChecks s = .next (drain (commit s (finishChecking { s with agenda := [] }))) := by
      show actWhen (fun s => s.modes.mode == .checking) finishChecking s = _
      exact actWhen_eq finishChecking hr (beq_iff_eq.mpr hm)
    rw [hexec]
    refine ⟨fun f hf => ?_, fun hf => ?_, Nat.min_le_left _ _⟩
    · rw [finishChecking_failed hf, drain_nil (commit_agenda _ _)]
      rfl
    · rw [finishChecking_passed hf]
      rfl
  · rw [firstFailure_eq_none]
    exact and_congr (forall_congr' fun _ => checkRow_eq_none) (and_congr (forall_congr' fun _ => checkStation_eq_none)
      (and_congr (forall_congr' fun _ => checkRobot_eq_none) (forall_congr' fun _ => checkShuttle_eq_none)))

end Sys2Proof.Machine
end

section
/-!
SUPPORT. The taking of the plant and the parameters at RUN entry (O16).
-/

namespace Sys2Proof.Machine

variable {s : State}

/-! ### The nearest value of a range or a list (R29) -/

theorem clampTo_nearest {lo hi v : Nat} (h : lo ≤ hi) : lo ≤ clampTo lo hi v ∧ clampTo lo hi v ≤ hi
    ∧ ∀ x, lo ≤ x → x ≤ hi → absDiff v (clampTo lo hi v) ≤ absDiff v x := by
  have hcases : v < lo ∧ clampTo lo hi v = lo ∨ hi < v ∧ clampTo lo hi v = hi
      ∨ lo ≤ v ∧ v ≤ hi ∧ clampTo lo hi v = v := by
    unfold clampTo
    split
    · omega
    · split <;> omega
  refine ⟨by omega, by omega, fun x hlo hhi => ?_⟩
  unfold absDiff
  split <;> split <;> omega

/-- x is no nearer to v than m, and no lower where it is as near. -/
def Nearer (v m x : Nat) : Prop := absDiff v m < absDiff v x ∨ absDiff v m = absDiff v x ∧ m ≤ x

theorem nearer_iff {v m x : Nat} : Nearer v m x ↔ (v - m) + (m - v) < (v - x) + (x - v)
    ∨ (v - m) + (m - v) = (v - x) + (x - v) ∧ m ≤ x := by
  have habs : ∀ a, absDiff v a = (v - a) + (a - v) := fun a => by
    unfold absDiff
    split <;> omega
  rw [Nearer, habs, habs]

theorem Nearer.refl (v m : Nat) : Nearer v m m := .inr ⟨rfl, le_refl m⟩

/-- R29: the nearest of a rising list, the lower of two where midway. -/
theorem nearestListed_nearest (v : Nat) {xs : List Nat} (hne : xs ≠ []) (hxs : xs.Pairwise (· < ·)) :
    nearestListed v xs ∈ xs ∧ ∀ x ∈ xs, Nearer v (nearestListed v xs) x := by
  induction xs with
  | nil => exact absurd rfl hne
  | cons a rest ih =>
    obtain ⟨hfirst, hrest⟩ := List.pairwise_cons.mp hxs
    cases rest with
    | nil => exact ⟨List.mem_singleton_self a, fun x hx => List.mem_singleton.mp hx ▸ Nearer.refl v a⟩
    | cons b rest =>
      have hab : a < b := hfirst b (List.mem_cons_self ..)
      have hbx : ∀ x ∈ b :: rest, b ≤ x := fun x hx => by
        rcases List.mem_cons.mp hx with rfl | hm
        · exact le_refl x
        · exact le_of_lt ((List.pairwise_cons.mp hrest).1 x hm)
      obtain ⟨hmem, hnear⟩ := ih (List.cons_ne_nil b rest) hrest
      rw [nearestListed]
      split
      next hc =>
        refine ⟨List.mem_cons_self .., fun x hx => ?_⟩
        rcases List.mem_cons.mp hx with rfl | hm
        · exact Nearer.refl v x
        · have hx' := hbx x hm
          rw [nearer_iff]
          omega
      next hc =>
        refine ⟨List.mem_cons_of_mem a hmem, fun x hx => ?_⟩
        rcases List.mem_cons.mp hx with rfl | hm
        · have hb := nearer_iff.mp (hnear b (List.mem_cons_self ..))
          rw [nearer_iff]
          omega
        · exact hnear x hm

/-! ### The words read (R31) -/

theorem checkedNat_unraced {a : Nat} (h : ∀ q ∈ s.modes.checkRead, q.1 ≠ a) : checkedNat s a = (s.mem a).toNat := by
  have hfind : s.modes.checkRead.find? (fun p => p.1 == a) = none :=
    List.find?_eq_none.mpr fun q hq => by simpa using h q hq
  rw [checkedNat, checkedWord, hfind]

theorem checkedNat_raced {a : Nat} {before after : List (Nat × Word)} {w : Word}
    (hs : s.modes.checkRead = before ++ (a, w) :: after) (h : ∀ q ∈ before, q.1 ≠ a) : checkedNat s a = w.toNat := by
  have hbefore : before.find? (fun p => p.1 == a) = none := List.find?_eq_none.mpr fun q hq => by simpa using h q hq
  have hfind : s.modes.checkRead.find? (fun p => p.1 == a) = some (a, w) := by
    rw [hs, List.find?_append, hbefore, List.find?_cons_of_pos (by simp)]
    rfl
  rw [checkedNat, checkedWord, hfind]

/-! ### The parameters (R28, R29) -/

theorem readParams_written (h : checkedNat s 0x0200 = 0x4643) : readParams s = readWrittenParams s := if_pos h

theorem readParams_default (h : checkedNat s 0x0200 ≠ 0x4643) : readParams s = (Params.default, 0) := if_neg h

theorem readWrittenParams_anemometer (s : State) (i : AnemIx) :
    tget (readWrittenParams s).1.anemometers i = (readAnemometer s i).1 := by
  simp [readWrittenParams]

/-! ### The plant (R24 to R27) -/

theorem readPlant_site (s : State) (r : RowId) : tget (readPlant s).1.site r = (readSiteRow s r).1 := by
  simp [readPlant]

theorem readPlant_station (s : State) (n : StationIx) : tget (readPlant s).1.stations n = readStation s n := by
  simp [readPlant]

theorem readPlant_robot (s : State) (r : RobotId) : tget (readPlant s).1.robots r = (readRobot s r).1 := by
  simp [readPlant]

theorem readPlant_shuttle (s : State) (k : ShuttleIx) : tget (readPlant s).1.shuttles k = (readShuttle s k).1 := by
  simp [readPlant]

theorem readPlant_clamped (s : State) : (readPlant s).2 = min 255 ((allRows.map fun r => (readSiteRow s r).2).sum
    + (allRobots.map fun r => (readRobot s r).2).sum + (allShuttles.map fun k => (readShuttle s k).2).sum
    + (readParams s).2) := by
  simp [readPlant]

theorem readSiteRow_eq (s : State) (r : RowId) : (readSiteRow s r).1
      = (if checkedBit s (0x06A0 + 8 * r.1) 0 then
          { present := true, enabledAtStart := checkedBit s (0x06A0 + 8 * r.1) 1
            block := checkedNat s (0x06A0 + 8 * r.1 + 1), length := checkedNat s (0x06A0 + 8 * r.1 + 2)
            yield := checkedNat s (0x06A0 + 8 * r.1 + 3)
            station := if h : checkedNat s (0x06A0 + 8 * r.1 + 4) < 16 then
              some ⟨checkedNat s (0x06A0 + 8 * r.1 + 4), h⟩ else none
            road := clampTo 0 4095 (checkedNat s (0x06A0 + 8 * r.1 + 5)) }
        else { present := false, enabledAtStart := false, block := 0, length := 0, yield := 0, station := none
               road := 0 })
    ∧ (readSiteRow s r).2 = if checkedBit s (0x06A0 + 8 * r.1) 0 then
        (takeClamped 0 4095 (checkedNat s (0x06A0 + 8 * r.1 + 5))).2 else 0 := by
  unfold readSiteRow
  exact ⟨apply_ite Prod.fst _ _ _, apply_ite Prod.snd _ _ _⟩

theorem readRobot_eq (s : State) (r : RobotId) : (readRobot s r).1
      = (if checkedBit s (0x03A0 + 16 * r.1 + 11) 0 then
          { registered := true, surfaceSensor := checkedBit s (0x03A0 + 16 * r.1 + 11) 1
            block := checkedNat s (0x03A0 + 16 * r.1 + 12), home := checkedNat s (0x03A0 + 16 * r.1 + 13)
            speed := clampTo 5 40 (checkedNat s (0x03A0 + 16 * r.1 + 14))
            epm := clampTo 1 4095 (checkedNat s (0x03A0 + 16 * r.1 + 15)) }
        else { registered := false, surfaceSensor := false, block := 0, home := 0, speed := 0, epm := 0 })
    ∧ (readRobot s r).2 = if checkedBit s (0x03A0 + 16 * r.1 + 11) 0 then
        (takeClamped 5 40 (checkedNat s (0x03A0 + 16 * r.1 + 14))).2
          + (takeClamped 1 4095 (checkedNat s (0x03A0 + 16 * r.1 + 15))).2 else 0 := by
  unfold readRobot
  exact ⟨apply_ite Prod.fst _ _ _, apply_ite Prod.snd _ _ _⟩

theorem readShuttle_eq (s : State) (k : ShuttleIx) : (readShuttle s k).1
      = (if checkedBit s (0x0320 + 16 * k.1 + 12) 0 then
          { registered := true, block := checkedNat s (0x0320 + 16 * k.1 + 13)
            shelter := clampTo 0 4095 (checkedNat s (0x0320 + 16 * k.1 + 14))
            speed := clampTo 10 300 (checkedNat s (0x0320 + 16 * k.1 + 15)) }
        else { registered := false, block := 0, shelter := 0, speed := 0 })
    ∧ (readShuttle s k).2 = if checkedBit s (0x0320 + 16 * k.1 + 12) 0 then
        (takeClamped 0 4095 (checkedNat s (0x0320 + 16 * k.1 + 14))).2
          + (takeClamped 10 300 (checkedNat s (0x0320 + 16 * k.1 + 15))).2 else 0 := by
  unfold readShuttle
  exact ⟨apply_ite Prod.fst _ _ _, apply_ite Prod.snd _ _ _⟩

/-- Settles O16: the parameters, the plant with its count, and the nearest values. -/
theorem parametersTaken : Obligations.ParametersTaken := by
  unfold Obligations.ParametersTaken
  refine ⟨fun s => ⟨fun h => readParams_default h, fun h => ?_, fun h => ?_⟩, fun s => ⟨fun r => ?_, fun n => ?_,
    fun r => ?_, fun k => ?_, rfl, ?_, fun a => ⟨fun i => rfl, checkedNat_unraced, fun _ _ _ => checkedNat_raced⟩⟩,
    fun lo hi v => clampTo_nearest, fun v xs hxs => ?_⟩
  · rw [readParams_written h]
    refine ⟨rfl, rfl, rfl, rfl, rfl, rfl, rfl, rfl, rfl, rfl, rfl, rfl, rfl, rfl, rfl, rfl, rfl, fun i => ?_⟩
    dsimp only
    rw [readWrittenParams_anemometer]
    simp only [← Nat.add_assoc]
    exact ⟨rfl, rfl, rfl, rfl, rfl, rfl, rfl, rfl, rfl⟩
  · rw [readParams_written h]
    dsimp only
    simp only [readWrittenParams_anemometer]
    simp only [readWrittenParams, tget_tabulate, ← Nat.add_assoc]
    rfl
  · exact (readPlant_site s r).trans (readSiteRow_eq s r).1
  · exact readPlant_station s n
  · exact (readPlant_robot s r).trans (readRobot_eq s r).1
  · exact (readPlant_shuttle s k).trans (readShuttle_eq s k).1
  · rw [readPlant_clamped]
    simp only [(readSiteRow_eq s _).2, (readRobot_eq s _).2, (readShuttle_eq s _).2]
    rfl
  · simp only [List.mem_cons, List.not_mem_nil, or_false] at hxs
    rcases hxs with rfl | rfl
    · exact nearestListed_nearest v (by decide) (by decide)
    · exact nearestListed_nearest v (by decide) (by decide)

end Sys2Proof.Machine
end

section
/-!
SUPPORT. What the supervisor, the planner and the arbiter change when a robot loses its place, and what they leave
alone (R42, R43, R46, R49).
-/

namespace Sys2Proof.Machine

variable {s t u : State} {r q : RobotId} {k : ShuttleIx} {row : RowId} {c : CtxIx}

/-! ### The supervisor (9.5) -/

/-- From s to t only the supervisor's part has changed: alert records, row flags, storm marks, notices, answers and the
agenda. No release mark is set. -/
structure Supervised (s t : State) : Prop where
  robots : ∀ q, ∃ m : StormMarks, (m.release = true → (s.robot q).storm.release = true)
    ∧ t.robot q = { s.robot q with storm := m }
  rows : ∀ x, ∃ a b, t.row x = { s.row x with sheltered := a, watch := b }
  rest : t = { s with
    rows := t.rows, robots := t.robots, alerts := t.alerts, board := t.board, memory := t.memory, agenda := t.agenda }

theorem Supervised.refl (s : State) : Supervised s s := ⟨fun _ => ⟨_, id, rfl⟩, fun _ => ⟨_, _, rfl⟩, rfl⟩

theorem Supervised.trans (h : Supervised s t) (g : Supervised t u) : Supervised s u where
  robots q := by
    obtain ⟨m, hm, ht⟩ := h.robots q
    obtain ⟨n, hn, hu⟩ := g.robots q
    rw [ht] at hn hu
    exact ⟨n, hm ∘ hn, hu⟩
  rows x := by
    obtain ⟨a, b, ht⟩ := h.rows x
    obtain ⟨c, d, hu⟩ := g.rows x
    exact ⟨c, d, by rw [hu, ht]⟩
  rest := g.rest.trans (by rw [h.rest])

theorem modStorm_supervised {f : Robot → Robot} {m : StormMarks} (hf : f (s.robot r) = { s.robot r with storm := m })
    (hm : m.release = true → (s.robot r).storm.release = true) : Supervised s (modRobot r f s) where
  robots q := by
    unfold State.robot
    rw [modRobot_robots, tget_tset]
    split
    next hq => subst hq; exact ⟨m, hm, hf⟩
    next => exact ⟨_, id, rfl⟩
  rows _ := ⟨_, _, rfl⟩
  rest := rfl

theorem setFlags_supervised (s : State) : Supervised s (setFlags s) where
  robots _ := ⟨_, id, rfl⟩
  rows x := ⟨_, _, tget_tabulate _ x⟩
  rest := rfl

/-- What changes alert records, notices, answers and the agenda alone. -/
theorem Supervised.of_frame (h : t = { s with
    alerts := t.alerts, board := t.board, memory := t.memory, agenda := t.agenda }) : Supervised s t := by
  rw [h]
  exact ⟨fun _ => ⟨_, id, rfl⟩, fun _ => ⟨_, _, rfl⟩, rfl⟩

theorem forEach_supervised {α : Type} {f : α → State → State} (hf : ∀ x s, Supervised s (f x s)) (xs : List α)
    (s : State) : Supervised s (forEach xs f s) :=
  forEach_keeps (P := Supervised s) (fun x _ h => h.trans (hf x _)) xs (.refl s)

theorem dropRelease_supervised (rows : List RowId) (s : State) : Supervised s (dropRelease rows s) :=
  forEach_supervised (fun _ v => by refine modStorm_supervised rfl ?_; exact nofun) _ s

theorem modAlert_supervised (n : AlertIx) (f : Alert → Alert) (s : State) : Supervised s (modAlert n f s) :=
  .of_frame rfl

theorem changeAlert_supervised (n : AlertIx) (f : Alert → Alert) (s : State) : Supervised s (changeAlert n f s) := by
  have hrefresh : ∀ v, Supervised v (refreshFlags v) := fun v =>
    ((setFlags_supervised v).trans (dropRelease_supervised _ _)).trans (.of_frame rfl)
  unfold changeAlert
  dsimp only
  split
  · exact (modAlert_supervised n f s).trans (hrefresh _)
  · exact ((modAlert_supervised n f s).trans (.of_frame rfl)).trans (hrefresh _)

theorem answer_supervised (n : SlotIx) (cls : AnswerClass) (d : Nat) (ws : List Word) (s : State) :
    Supervised s (answer n cls d ws s) := .of_frame (by rw [answer_frame])

theorem answerHeld_supervised (n : AlertIx) (cls : AnswerClass) (d : Nat) (ws : List Word) (s : State) :
    Supervised s (answerHeld n cls d ws s) := by
  unfold answerHeld
  split
  · exact (modAlert_supervised n _ s).trans (answer_supervised _ cls d ws _)
  · exact .refl s

theorem checkParked_supervised (n : AlertIx) (s : State) : Supervised s (checkParked n s) := by
  unfold checkParked
  dsimp only
  split
  · exact (changeAlert_supervised n _ s).trans (answerHeld_supervised n _ _ _ _)
  · exact .refl s

theorem dropTarget_supervised (r : RobotId) (s : State) : Supervised s (dropTarget r s) := by
  unfold dropTarget
  split
  · exact .refl s
  · exact modStorm_supervised rfl id

/-- R195. -/
theorem leaveSets_supervised (r : RobotId) (s : State) : Supervised s (leaveSets r s) := by
  unfold leaveSets
  refine (forEach_supervised (fun n v => ?_) allAlerts s).trans (dropTarget_supervised r _)
  dsimp only
  split
  · exact (modAlert_supervised n _ v).trans (checkParked_supervised n _)
  · exact .refl v

namespace Supervised

theorem pool (h : Supervised s t) : t.pool = s.pool := by rw [h.rest]
theorem plant (h : Supervised s t) : t.plant = s.plant := by rw [h.rest]
theorem shuttles (h : Supervised s t) : t.shuttles = s.shuttles := by rw [h.rest]
theorem round (h : Supervised s t) : t.round = s.round := by rw [h.rest]
theorem link (h : Supervised s t) : t.link = s.link := by rw [h.rest]

theorem place (h : Supervised s t) (q : RobotId) : (t.robot q).place = (s.robot q).place := by
  obtain ⟨m, -, hq⟩ := h.robots q; rw [hq]

theorem activity (h : Supervised s t) (q : RobotId) : (t.robot q).activity = (s.robot q).activity := by
  obtain ⟨m, -, hq⟩ := h.robots q; rw [hq]

theorem mark (h : Supervised s t) (q : RobotId) : (t.robot q).placementMark = (s.robot q).placementMark := by
  obtain ⟨m, -, hq⟩ := h.robots q; rw [hq]

theorem pass (h : Supervised s t) (q : RobotId) : (t.robot q).pass = (s.robot q).pass := by
  obtain ⟨m, -, hq⟩ := h.robots q; rw [hq]

theorem context (h : Supervised s t) (q : RobotId) : (t.robot q).context = (s.robot q).context := by
  obtain ⟨m, -, hq⟩ := h.robots q; rw [hq]

theorem homing (h : Supervised s t) (q : RobotId) : (t.robot q).homingMark = (s.robot q).homingMark := by
  obtain ⟨m, -, hq⟩ := h.robots q; rw [hq]

theorem unreleased (h : Supervised s t) (hq : (s.robot q).storm.release = false) :
    (t.robot q).storm.release = false := by
  obtain ⟨m, hm, hrobot⟩ := h.robots q
  rw [hrobot]
  exact Bool.eq_false_iff.mpr fun hr => by simp [hm hr] at hq

theorem occupant (h : Supervised s t) (x : RowId) : (t.row x).occupant = (s.row x).occupant := by
  obtain ⟨a, b, hx⟩ := h.rows x; rw [hx]

theorem reserved (h : Supervised s t) (x : RowId) : (t.row x).reserved = (s.row x).reserved := by
  obtain ⟨a, b, hx⟩ := h.rows x; rw [hx]

theorem contested (h : Supervised s t) (x : RowId) : (t.row x).contested = (s.row x).contested := by
  obtain ⟨a, b, hx⟩ := h.rows x; rw [hx]

theorem tr (h : Supervised s t) (x : RowId) : (t.row x).tr = (s.row x).tr := by
  obtain ⟨a, b, hx⟩ := h.rows x; rw [hx]

end Supervised

/-! ### The planner and the context pool (6.5, chapter 8) -/

/-- From s to t only the planner's part has changed: passes and contexts may have ended, with their effects on the rows
and the accounts, the list and the pool. -/
structure Worked (s t : State) : Prop where
  robots : ∀ q, ∃ c p, (c = none ∨ c = (s.robot q).context) ∧ (p = none ∨ p = (s.robot q).pass)
    ∧ t.robot q = { s.robot q with context := c, pass := p }
  rows : ∀ x, (t.row x).occupant = (s.row x).occupant ∧ (t.row x).reserved = (s.row x).reserved
    ∧ (t.row x).contested = (s.row x).contested
  rest : t = { s with
    rows := t.rows, robots := t.robots, pool := t.pool, round := t.round, farm := t.farm, mirrors := t.mirrors
    agenda := t.agenda }

theorem Worked.refl (s : State) : Worked s s :=
  ⟨fun _ => ⟨_, _, .inr rfl, .inr rfl, rfl⟩, fun _ => ⟨rfl, rfl, rfl⟩, rfl⟩

theorem Worked.trans (h : Worked s t) (g : Worked t u) : Worked s u where
  robots q := by
    obtain ⟨c, p, hc, hp, ht⟩ := h.robots q
    obtain ⟨d, o, hd, ho, hu⟩ := g.robots q
    rw [ht] at hd ho hu
    exact ⟨d, o, hd.elim .inl fun e => e ▸ hc, ho.elim .inl fun e => e ▸ hp, hu⟩
  rows x := by
    obtain ⟨ho, hr, hc⟩ := h.rows x
    obtain ⟨ho', hr', hc'⟩ := g.rows x
    exact ⟨ho'.trans ho, hr'.trans hr, hc'.trans hc⟩
  rest := g.rest.trans (by rw [h.rest])

/-- What changes the pool, the round record, the accounts, marks and the agenda alone. -/
theorem Worked.of_frame (h : t = { s with
    pool := t.pool, round := t.round, farm := t.farm, mirrors := t.mirrors, agenda := t.agenda }) : Worked s t := by
  rw [h]
  exact ⟨fun _ => ⟨_, _, .inr rfl, .inr rfl, rfl⟩, fun _ => ⟨rfl, rfl, rfl⟩, rfl⟩

theorem Worked.marked (h : Worked s t) (m : MirrorId) : Worked s (markRewrite m t) := h.trans (.of_frame rfl)

theorem Worked.farm (h : Worked s t) (f : Farm → Farm) : Worked s (modFarm f t) := h.trans (.of_frame rfl)

theorem modRow_worked {f : Row → Row} (hf : ∀ x, (f x).occupant = x.occupant ∧ (f x).reserved = x.reserved
    ∧ (f x).contested = x.contested) : Worked s (modRow row f s) where
  robots _ := ⟨_, _, .inr rfl, .inr rfl, rfl⟩
  rows x := by
    unfold State.row
    rw [modRow_rows, tget_tset]
    split
    next hx => subst hx; exact hf _
    next => exact ⟨rfl, rfl, rfl⟩
  rest := rfl

theorem modRobot_worked {f : Robot → Robot} (hf : ∀ b, ∃ c p, (c = none ∨ c = b.context) ∧ (p = none ∨ p = b.pass)
    ∧ f b = { b with context := c, pass := p }) : Worked s (modRobot r f s) where
  robots q := by
    unfold State.robot
    rw [modRobot_robots, tget_tset]
    split
    next hq => subst hq; exact hf _
    next => exact ⟨_, _, .inr rfl, .inr rfl, rfl⟩
  rows _ := ⟨rfl, rfl, rfl⟩
  rest := rfl

theorem clearPass_worked (r : RobotId) (s : State) : Worked s (clearPass r s) :=
  (modRobot_worked fun _ => ⟨_, none, .inr rfl, .inl rfl, rfl⟩).trans (.of_frame rfl)

theorem Worked.modRow (h : Worked s t) {f : Row → Row} (hf : ∀ x, (f x).occupant = x.occupant
    ∧ (f x).reserved = x.reserved ∧ (f x).contested = x.contested) : Worked s (modRow row f t) :=
  h.trans (modRow_worked hf)

theorem setTransmission_worked (row : RowId) (tr : Nat) (s : State) : Worked s (setTransmission row tr s) := by
  unfold setTransmission recomputeDaily
  dsimp only
  refine .modRow (.modRow (.refl s) ?_) ?_ <;> exact fun _ => ⟨rfl, rfl, rfl⟩

theorem passEffect_worked (row : RowId) (n : Nat) (s : State) : Worked s (passEffect row n s) := by
  unfold passEffect
  dsimp only
  refine .marked (.marked (.farm (.modRow (setTransmission_worked row _ s) ?_) _) _) _
  exact fun _ => ⟨rfl, rfl, rfl⟩

theorem countPass_worked (f : Nat) (s : State) : Worked s (countPass f s) := .of_frame rfl

theorem abandonEffect_worked (row : RowId) (n : Nat) (s : State) : Worked s (abandonEffect row n s) := by
  unfold abandonEffect
  dsimp only
  split
  · exact passEffect_worked row n s
  · exact (passEffect_worked row n s).trans (countPass_worked _ _)

theorem freeRecord_worked (c : CtxIx) (s : State) : Worked s (freeRecord c s) := by
  unfold freeRecord
  dsimp only
  split
  · exact (modRobot_worked fun _ => ⟨none, _, .inl rfl, .inr rfl, rfl⟩).trans (.of_frame rfl)
  · exact .of_frame rfl

theorem freeContext_worked (c : CtxIx) (s : State) : Worked s (freeContext c s) := by
  unfold freeContext
  dsimp only
  split
  · exact (freeRecord_worked c s).trans (.of_frame rfl)
  · exact (freeRecord_worked c s).trans (.of_frame rfl)

theorem abandonContext_worked (c : CtxIx) (s : State) : Worked s (abandonContext c s) := by
  have hfree := (abandonEffect_worked (s.context c).rowId (s.context c).covered s).trans (freeContext_worked c _)
  unfold abandonContext
  dsimp only
  split
  · split
    · exact hfree.trans (clearPass_worked _ _)
    · exact hfree
  · exact hfree

theorem abandonOwned_worked (r : RobotId) (s : State) : Worked s (abandonOwned r s) := by
  unfold abandonOwned
  split
  · exact abandonContext_worked _ s
  · exact .refl s

theorem contextAtRow_worked (r : RobotId) (row : RowId) (s : State) : Worked s (contextAtRow r row s) := by
  unfold contextAtRow
  split
  · split
    · exact .of_frame rfl
    · exact abandonContext_worked _ s
  · exact .refl s

theorem endUnstarted_worked (r : RobotId) (row : RowId) (s : State) : Worked s (endUnstarted r row s) := by
  refine (clearPass_worked r s).trans ?_
  show Worked _ (reinsertRow row _)
  unfold reinsertRow
  split
  · exact .of_frame rfl
  · exact .refl _

theorem endWithEffect_worked (r : RobotId) (row : RowId) (n : Nat) (s : State) : Worked s (endWithEffect r row n s) :=
  ((clearPass_worked r s).trans (passEffect_worked row n _)).trans (countPass_worked _ _)

/-- R137. -/
theorem endAbandoned_worked (r : RobotId) (s : State) : Worked s (endAbandoned r s) := by
  unfold endAbandoned
  split
  next => exact .refl s
  next =>
    split
    next =>
      split
      · exact endUnstarted_worked r _ s
      · exact endWithEffect_worked r _ _ s
    next =>
      split
      · exact (abandonContext_worked _ s).trans (clearPass_worked r _)
      · exact endWithEffect_worked r _ _ s

namespace Worked

theorem plant (h : Worked s t) : t.plant = s.plant := by rw [h.rest]
theorem shuttles (h : Worked s t) : t.shuttles = s.shuttles := by rw [h.rest]
theorem alerts (h : Worked s t) : t.alerts = s.alerts := by rw [h.rest]
theorem link (h : Worked s t) : t.link = s.link := by rw [h.rest]

theorem place (h : Worked s t) (q : RobotId) : (t.robot q).place = (s.robot q).place := by
  obtain ⟨c, p, -, -, hq⟩ := h.robots q; rw [hq]

theorem activity (h : Worked s t) (q : RobotId) : (t.robot q).activity = (s.robot q).activity := by
  obtain ⟨c, p, -, -, hq⟩ := h.robots q; rw [hq]

theorem mark (h : Worked s t) (q : RobotId) : (t.robot q).placementMark = (s.robot q).placementMark := by
  obtain ⟨c, p, -, -, hq⟩ := h.robots q; rw [hq]

theorem passless (h : Worked s t) (hq : (s.robot q).pass = none) : (t.robot q).pass = none := by
  obtain ⟨c, p, -, hp, hrobot⟩ := h.robots q
  rw [hrobot]
  exact hp.elim id fun e => e.trans hq

theorem contextless (h : Worked s t) (hq : (s.robot q).context = none) : (t.robot q).context = none := by
  obtain ⟨c, p, hc, -, hrobot⟩ := h.robots q
  rw [hrobot]
  exact hc.elim id fun e => e.trans hq

theorem occupant (h : Worked s t) (x : RowId) : (t.row x).occupant = (s.row x).occupant := (h.rows x).1
theorem reserved (h : Worked s t) (x : RowId) : (t.row x).reserved = (s.row x).reserved := (h.rows x).2.1
theorem contested (h : Worked s t) (x : RowId) : (t.row x).contested = (s.row x).contested := (h.rows x).2.2

end Worked

/-! ### The arbiter (chapter 7) -/

/-- From s to t only the arbiter's part has changed: shuttles, reservations, pending commands, answers, marks and the
agenda; a robot may have been halted. -/
structure Arbitrated (s t : State) : Prop where
  robots : ∀ q, ∃ a, t.robot q = { s.robot q with activity := a }
  rows : ∀ x, ∃ v, t.row x = { s.row x with reserved := v }
  carried : ∀ j, (t.shuttle j).carried = (s.shuttle j).carried
  rest : t = { s with
    rows := t.rows, robots := t.robots, shuttles := t.shuttles, link := t.link, board := t.board, memory := t.memory
    mirrors := t.mirrors, agenda := t.agenda }

theorem Arbitrated.refl (s : State) : Arbitrated s s := ⟨fun _ => ⟨_, rfl⟩, fun _ => ⟨_, rfl⟩, fun _ => rfl, rfl⟩

theorem Arbitrated.trans (h : Arbitrated s t) (g : Arbitrated t u) : Arbitrated s u where
  robots q := by
    obtain ⟨a, ht⟩ := h.robots q
    obtain ⟨b, hu⟩ := g.robots q
    exact ⟨b, by rw [hu, ht]⟩
  rows x := by
    obtain ⟨v, ht⟩ := h.rows x
    obtain ⟨w, hu⟩ := g.rows x
    exact ⟨w, by rw [hu, ht]⟩
  carried j := (g.carried j).trans (h.carried j)
  rest := g.rest.trans (by rw [h.rest])

/-- What changes commands, answers, marks and the agenda alone. -/
theorem Arbitrated.of_frame (h : t = { s with
    link := t.link, board := t.board, memory := t.memory, mirrors := t.mirrors, agenda := t.agenda }) :
    Arbitrated s t := by
  rw [h]
  exact ⟨fun _ => ⟨_, rfl⟩, fun _ => ⟨_, rfl⟩, fun _ => rfl, rfl⟩

theorem modShuttle_arbitrated {f : Shuttle → Shuttle} (hf : ∀ x, (f x).carried = x.carried) :
    Arbitrated s (modShuttle k f s) where
  robots _ := ⟨_, rfl⟩
  rows _ := ⟨_, rfl⟩
  carried j := by
    rw [modShuttle_shuttle]
    split
    next hj => rw [hf, hj]
    next => rfl
  rest := rfl

theorem releaseRow_arbitrated (row : RowId) (r : RobotId) (s : State) : Arbitrated s (releaseRow row r s) where
  robots _ := ⟨_, rfl⟩
  rows x := by
    unfold releaseRow State.row
    rw [modRow_rows, tget_tset]
    split
    next hx => subst hx; exact ⟨_, rfl⟩
    next => exact ⟨_, rfl⟩
  carried _ := rfl
  rest := rfl

theorem modActivity_arbitrated {f : Robot → Robot} (hf : ∀ b, ∃ a, f b = { b with activity := a }) :
    Arbitrated s (modRobot r f s) where
  robots q := by
    unfold State.robot
    rw [modRobot_robots, tget_tset]
    split
    next hq => subst hq; exact hf _
    next => exact ⟨_, rfl⟩
  rows _ := ⟨_, rfl⟩
  carried _ := rfl
  rest := rfl

theorem setCommand_arbitrated (i : LinkId) (cmd : Cmd) (owner : Owner) (s : State) :
    Arbitrated s (setCommand i cmd owner s) :=
  .of_frame (by rw [setCommand_frame])

theorem finishTransfer_arbitrated (k : ShuttleIx) (x : Transfer) (o : TransferOutcome) (s : State) :
    Arbitrated s (finishTransfer k x o s) := by
  obtain ⟨b, m, a, h⟩ := finishTransfer_frame k x o s
  exact .of_frame (by rw [h])

theorem answerTransfer_arbitrated (k : ShuttleIx) (n : SlotIx) (d : RowId) (o : TransferOutcome) (s : State) :
    Arbitrated s (answerTransfer k n d o s) := by
  obtain ⟨b, m, h⟩ := answerTransfer_frame k n d o s
  exact .of_frame (by rw [h])

theorem forEach_arbitrated {α : Type} {f : α → State → State} (hf : ∀ x s, Arbitrated s (f x s)) (xs : List α)
    (s : State) : Arbitrated s (forEach xs f s) :=
  forEach_keeps (P := Arbitrated s) (fun x _ h => h.trans (hf x _)) xs (.refl s)

theorem dropRequests_arbitrated (k : ShuttleIx) (p : Request → Bool) (o : TransferOutcome) (s : State) :
    Arbitrated s (dropRequests k p o s) := by
  unfold dropRequests
  dsimp only
  split
  · exact .refl s
  · rw [leftFullQueue_eq]
    have hleft : ∀ v, Arbitrated v (markRewrite (.shuttle k) (modShuttle k (fun x =>
        { x with queue := (s.shuttle k).queue.filter fun q => !p q }) v)) := fun v =>
      (modShuttle_arbitrated (by exact fun _ => rfl)).trans (.of_frame rfl)
    refine ((((hleft s).trans (forEach_arbitrated (fun q => releaseRow_arbitrated _ _) _ _)).trans
      (forEach_arbitrated (fun a => answerTransfer_arbitrated k _ _ o) _ _)).trans
      (forEach_arbitrated (fun q _ => .of_frame rfl) _ _)).trans (.of_frame rfl)

theorem emptyTransfer_arbitrated (k : ShuttleIx) (s : State) : Arbitrated s (emptyTransfer k s) :=
  modShuttle_arbitrated fun _ => rfl

theorem becomeIdle_arbitrated (k : ShuttleIx) (s : State) : Arbitrated s (becomeIdle k s) := by
  unfold becomeIdle
  split
  · rw [goToShelter_eq]
    exact (modShuttle_arbitrated (by exact fun _ => rfl)).trans (setCommand_arbitrated _ _ _ _)
  · exact (modShuttle_arbitrated (by exact fun _ => rfl)).trans (.of_frame rfl)

theorem enterFault_arbitrated (k : ShuttleIx) (s : State) : Arbitrated s (enterFault k s) :=
  (modShuttle_arbitrated (by exact fun _ => rfl)).trans (dropRequests_arbitrated k _ _ _)

theorem giveUp_arbitrated (k : ShuttleIx) (row : RowId) (r : RobotId) (s : State) :
    Arbitrated s (emptyTransfer k (releaseRow row r s)) :=
  (releaseRow_arbitrated row r s).trans (emptyTransfer_arbitrated k _)

/-- R43, R154. -/
theorem failPlace_arbitrated (k : ShuttleIx) (s : State) : Arbitrated s (failPlace k s) := by
  unfold failPlace
  split
  · exact .refl s
  · exact (((setCommand_arbitrated _ _ _ s).trans (giveUp_arbitrated k _ _ _)).trans
      (finishTransfer_arbitrated k _ _ _)).trans (becomeIdle_arbitrated k _)

theorem haltBoth_arbitrated (k : ShuttleIx) (r : RobotId) (s : State) : Arbitrated s (haltBoth k r s) :=
  (setCommand_arbitrated _ _ _ s).trans (setCommand_arbitrated _ _ _ _)

theorem failBoard_arbitrated (k : ShuttleIx) (x : Transfer) (cause : TransferCause) (s : State) :
    Arbitrated s (failBoard k x cause s) := by
  have hhalt : Arbitrated s (haltBoarding x.robot (haltBoth k x.robot s)) :=
    (haltBoth_arbitrated k x.robot s).trans (modActivity_arbitrated fun _ => ⟨_, rfl⟩)
  exact ((hhalt.trans (giveUp_arbitrated k _ _ _)).trans (finishTransfer_arbitrated k x _ _)).trans
    (enterFault_arbitrated k _)

theorem failAboard_arbitrated (k : ShuttleIx) (x : Transfer) (cause : TransferCause) (s : State) :
    Arbitrated s (failAboard k x cause s) := by
  have hhalt : Arbitrated s (haltAboard x.robot (haltBoth k x.robot s)) :=
    (haltBoth_arbitrated k x.robot s).trans (modActivity_arbitrated fun _ => ⟨_, rfl⟩)
  have hstrand : ∀ v, Arbitrated v (strand k x v) := fun v => by
    unfold strand
    split
    · exact modShuttle_arbitrated (by exact fun _ => rfl)
    · exact giveUp_arbitrated k _ _ v
  exact ((hhalt.trans (hstrand _)).trans (finishTransfer_arbitrated k x _ _)).trans (enterFault_arbitrated k _)

theorem failConflict_arbitrated (k : ShuttleIx) (s : State) : Arbitrated s (failConflict k s) := by
  unfold failConflict
  split
  next => exact .refl s
  next =>
    split
    · exact (((setCommand_arbitrated _ _ _ s).trans (emptyTransfer_arbitrated k _)).trans
        (finishTransfer_arbitrated k _ _ _)).trans (becomeIdle_arbitrated k _)
    · exact failBoard_arbitrated k _ _ s
    · exact failAboard_arbitrated k _ _ s
    · exact failAboard_arbitrated k _ _ s

/-- R42, R162. -/
theorem takeReservation_arbitrated (row : RowId) (r : RobotId) (s : State) :
    Arbitrated s (takeReservation row r s) := by
  unfold takeReservation
  split
  next => exact .refl s
  next q _ =>
    split
    next => exact .refl s
    next =>
      refine (releaseRow_arbitrated row q s).trans ?_
      dsimp only
      split
      · exact dropRequests_arbitrated _ _ _ _
      · split
        · exact failConflict_arbitrated _ _
        · exact .refl _

theorem dropRobotRequest_arbitrated (r : RobotId) (o : TransferOutcome) (s : State) :
    Arbitrated s (dropRobotRequest r o s) := by
  unfold dropRobotRequest
  split
  · exact dropRequests_arbitrated _ _ o s
  · exact .refl s

/-- R151, R161. -/
theorem leaveTransfers_arbitrated (r : RobotId) (s : State) : Arbitrated s (leaveTransfers r s) := by
  refine (dropRobotRequest_arbitrated r (.failed .place) s).trans ?_
  unfold leaveTransfers
  dsimp only
  split
  · split
    · exact giveUp_arbitrated _ _ _ _
    · exact .refl _
  · exact .refl _

/-- R43. -/
theorem endBoarding_arbitrated (r : RobotId) (s : State) : Arbitrated s (endBoarding r s) := by
  unfold endBoarding
  split
  next =>
    split
    next x _ =>
      cases x.stage with
      | fetch | board => exact failPlace_arbitrated _ s
      | carry | alight => exact .refl s
    next => exact .refl s
  next => exact .refl s

namespace Arbitrated

theorem pool (h : Arbitrated s t) : t.pool = s.pool := by rw [h.rest]
theorem plant (h : Arbitrated s t) : t.plant = s.plant := by rw [h.rest]
theorem round (h : Arbitrated s t) : t.round = s.round := by rw [h.rest]
theorem alerts (h : Arbitrated s t) : t.alerts = s.alerts := by rw [h.rest]

theorem place (h : Arbitrated s t) (q : RobotId) : (t.robot q).place = (s.robot q).place := by
  obtain ⟨a, hq⟩ := h.robots q; rw [hq]

theorem mark (h : Arbitrated s t) (q : RobotId) : (t.robot q).placementMark = (s.robot q).placementMark := by
  obtain ⟨a, hq⟩ := h.robots q; rw [hq]

theorem pass (h : Arbitrated s t) (q : RobotId) : (t.robot q).pass = (s.robot q).pass := by
  obtain ⟨a, hq⟩ := h.robots q; rw [hq]

theorem context (h : Arbitrated s t) (q : RobotId) : (t.robot q).context = (s.robot q).context := by
  obtain ⟨a, hq⟩ := h.robots q; rw [hq]

theorem occupant (h : Arbitrated s t) (x : RowId) : (t.row x).occupant = (s.row x).occupant := by
  obtain ⟨v, hx⟩ := h.rows x; rw [hx]

theorem contested (h : Arbitrated s t) (x : RowId) : (t.row x).contested = (s.row x).contested := by
  obtain ⟨v, hx⟩ := h.rows x; rw [hx]

theorem tr (h : Arbitrated s t) (x : RowId) : (t.row x).tr = (s.row x).tr := by
  obtain ⟨v, hx⟩ := h.rows x; rw [hx]

end Arbitrated

/-! ### Robots that the arbiter leaves as they are -/

theorem emptyTransfer_robots (k : ShuttleIx) (s : State) : (emptyTransfer k s).robots = s.robots := rfl

theorem releaseRow_robots (row : RowId) (r : RobotId) (s : State) : (releaseRow row r s).robots = s.robots := rfl

theorem finishTransfer_robots (k : ShuttleIx) (x : Transfer) (o : TransferOutcome) (s : State) :
    (finishTransfer k x o s).robots = s.robots := by
  obtain ⟨b, m, a, h⟩ := finishTransfer_frame k x o s
  rw [h]

theorem becomeIdle_robots (k : ShuttleIx) (s : State) : (becomeIdle k s).robots = s.robots := by
  unfold becomeIdle
  split
  · rw [goToShelter_eq, commandShuttle, setCommand_robots, modShuttle_robots]
  · rfl

theorem forEach_robots {α : Type} {f : α → State → State} (hf : ∀ x s, (f x s).robots = s.robots) (xs : List α)
    (s : State) : (forEach xs f s).robots = s.robots :=
  forEach_keeps (P := fun v => v.robots = s.robots) (fun x v h => (hf x v).trans h) xs rfl

theorem dropRequests_robots (k : ShuttleIx) (p : Request → Bool) (o : TransferOutcome) (s : State) :
    (dropRequests k p o s).robots = s.robots := by
  unfold dropRequests
  dsimp only
  split
  · rfl
  · rw [push_robots, leftFullQueue_eq]
    dsimp only
    refine (forEach_robots ?_ _ _).trans ((forEach_robots (fun a v => ?_) _ _).trans (forEach_robots ?_ _ _))
    · exact fun _ _ => rfl
    · obtain ⟨b, m, h⟩ := answerTransfer_frame k a.1 a.2.destination o v
      rw [h]
    · exact fun _ _ => rfl

theorem dropRobotRequest_robots (r : RobotId) (o : TransferOutcome) (s : State) :
    (dropRobotRequest r o s).robots = s.robots := by
  unfold dropRobotRequest
  split
  · exact dropRequests_robots _ _ o s
  · rfl

theorem leaveTransfers_robots (r : RobotId) (s : State) : (leaveTransfers r s).robots = s.robots := by
  refine Eq.trans ?_ (dropRobotRequest_robots r (.failed .place) s)
  unfold leaveTransfers
  dsimp only
  split
  · split <;> rfl
  · rfl

theorem failPlace_robots (k : ShuttleIx) (s : State) : (failPlace k s).robots = s.robots := by
  unfold failPlace
  split
  · rfl
  · rw [becomeIdle_robots, finishTransfer_robots, emptyTransfer_robots, releaseRow_robots, commandShuttle,
      setCommand_robots]

theorem endBoarding_robots (r : RobotId) (s : State) : (endBoarding r s).robots = s.robots := by
  unfold endBoarding
  split
  next =>
    split
    next x _ =>
      cases x.stage with
      | fetch | board => exact failPlace_robots _ s
      | carry | alight => rfl
    next => rfl
  next => rfl

end Sys2Proof.Machine
end

section
/-!
SUPPORT. What becomes of a robot's pass and context when its work ends (R137, R175, R176), and where a robot that is
settled at a row is left (R42).
-/

namespace Sys2Proof.Machine

variable {s t u : State} {r q : RobotId} {k : ShuttleIx} {row : RowId} {c : CtxIx}

/-! ### The pool when a record is freed (R175) -/

theorem freeRecord_pool (c : CtxIx) (s : State) : (freeRecord c s).pool = { s.pool with
    records := tset s.pool.records c { s.context c with owner := none, link := s.pool.head }
    head := some c, freeCount := s.pool.freeCount + 1
    armed := s.pool.armed || decide (s.params.poolLow < s.pool.freeCount + 1) } := by
  unfold freeRecord
  cases (s.context c).owner <;> rfl

theorem freeRecord_pool_congr (hp : t.pool = s.pool) (hl : t.plant = s.plant) (c : CtxIx) :
    (freeRecord c t).pool = (freeRecord c s).pool := by
  rw [freeRecord_pool, freeRecord_pool, State.context, State.params, hp, hl]
  rfl

theorem freeContext_pool (c : CtxIx) (s : State) : (freeContext c s).pool = (freeRecord c s).pool := by
  unfold freeContext
  cases (s.context c).owner <;> rfl

/-- R168: the robots once a record has been freed. -/
theorem freeContext_context (c : CtxIx) (s : State) (q : RobotId) : ((freeContext c s).robot q).context
    = if (s.context c).owner = some q then none else (s.robot q).context := by
  have hrobots : (freeContext c s).robots = (freeRecord c s).robots := by
    unfold freeContext
    cases (s.context c).owner <;> rfl
  unfold State.robot
  rw [hrobots]
  unfold freeRecord
  cases ho : (s.context c).owner with
  | none => rfl
  | some r =>
    refine (congrArg Robot.context (tget_tset _ _ _ _)).trans ?_
    by_cases hq : q = r
    · rw [if_pos hq, if_pos (hq ▸ rfl)]
    · rw [if_neg hq, if_neg fun h => hq (Option.some.inj h).symm]

/-! ### A context abandoned (R176) -/

@[simp] theorem passEffect_pool (row : RowId) (n : Nat) (s : State) : (passEffect row n s).pool = s.pool := by
  simp [passEffect, setTransmission, recomputeDaily]

theorem abandonEffect_pool (row : RowId) (n : Nat) (s : State) : (abandonEffect row n s).pool = s.pool := by
  unfold abandonEffect
  dsimp only
  split
  · exact passEffect_pool row n s
  · rw [countPass, modRound_pool, passEffect_pool]

theorem abandonContext_pool (c : CtxIx) (s : State) : (abandonContext c s).pool = (freeRecord c s).pool := by
  have hpool := abandonEffect_pool (s.context c).rowId (s.context c).covered s
  have hplant := (abandonEffect_worked (s.context c).rowId (s.context c).covered s).plant
  unfold abandonContext
  dsimp only
  rw [← freeRecord_pool_congr hpool hplant, ← freeContext_pool]
  split
  · split <;> rfl
  · rfl

theorem clearPass_context (r : RobotId) (s : State) (q : RobotId) :
    ((clearPass r s).robot q).context = (s.robot q).context := by
  refine (congrArg Robot.context (tget_tset _ _ _ _)).trans ?_
  split
  next h => rw [h]; rfl
  next => rfl

theorem clearPass_pass (r : RobotId) (s : State) : ((clearPass r s).robot r).pass = none :=
  congrArg Robot.pass (tget_tset_self _ _ _)

theorem abandonContext_context (c : CtxIx) (s : State) (q : RobotId) : ((abandonContext c s).robot q).context
    = if (s.context c).owner = some q then none else (s.robot q).context := by
  have hfree : ((freeContext c (abandonEffect (s.context c).rowId (s.context c).covered s)).robot q).context
      = if (s.context c).owner = some q then none else (s.robot q).context := by
    rw [freeContext_context, State.context, abandonEffect_pool, State.robot, abandonEffect_robots]
    rfl
  rw [← hfree]
  unfold abandonContext
  dsimp only
  split
  · split
    · exact clearPass_context _ _ q
    · rfl
  · rfl

/-- R110. -/
theorem passEffect_tr (row : RowId) (n : Nat) (s : State) : ((passEffect row n s).row row).tr
    = 32768 - lossAfter (lossOf (s.row row).tr) s.params.efficiency (effectFraction s row n) := by
  simp [State.row, passEffect, setTransmission, recomputeDaily]

/-- R110, R176: the row's transmission after the partial effect of an abandoned context. -/
theorem abandonContext_tr (c : CtxIx) (s : State) : ((abandonContext c s).row (s.context c).rowId).tr
    = 32768 - lossAfter (lossOf (s.row (s.context c).rowId).tr) s.params.efficiency
        (effectFraction s (s.context c).rowId (s.context c).covered) := by
  have heffect : ∀ (x : RowId) (n : Nat) (v : State), (abandonEffect x n v).rows = (passEffect x n v).rows := by
    intro x n v
    unfold abandonEffect
    dsimp only
    split
    · rfl
    · rw [countPass, modRound_rows]
  have hfree : ∀ v, (freeContext c v).rows = v.rows := fun v => by
    have hrecord : (freeRecord c v).rows = v.rows := by rw [freeRecord_frame]
    unfold freeContext
    cases (v.context c).owner <;> exact hrecord
  have hrows : (abandonContext c s).rows = (passEffect (s.context c).rowId (s.context c).covered s).rows := by
    refine Eq.trans ?_ ((hfree _).trans (heffect _ _ s))
    unfold abandonContext
    dsimp only
    split
    · split <;> rfl
    · rfl
  rw [← passEffect_tr, State.row, hrows]
  rfl

/-! ### The work of a robot ends (R43, R46) -/

/-- The pool, the plant and the robots' contexts are as they were. -/
def SameContexts (s t : State) : Prop :=
  t.pool = s.pool ∧ t.plant = s.plant ∧ ∀ q, (t.robot q).context = (s.robot q).context

theorem endUnstarted_contexts (r : RobotId) (row : RowId) (s : State) : SameContexts s (endUnstarted r row s) := by
  unfold endUnstarted reinsertRow
  split
  · exact ⟨rfl, rfl, clearPass_context r s⟩
  · exact ⟨rfl, rfl, clearPass_context r s⟩

theorem endWithEffect_contexts (r : RobotId) (row : RowId) (n : Nat) (s : State) :
    SameContexts s (endWithEffect r row n s) := ⟨rfl, rfl, clearPass_context r s⟩

/-- R137: a pass that ends abandoned takes along the context that it resumes, or none. -/
theorem endAbandoned_cases (r : RobotId) (s : State) : SameContexts s (endAbandoned r s)
    ∨ ∃ c, (s.robot r).context = some c ∧ endAbandoned r s = clearPass r (abandonContext c s) := by
  unfold endAbandoned
  split
  next => exact .inl ⟨rfl, rfl, fun _ => rfl⟩
  next =>
    split
    next =>
      split
      · exact .inl (endUnstarted_contexts r _ s)
      · exact .inl (endWithEffect_contexts r _ _ s)
    next =>
      split
      next c hc => exact .inr ⟨c, hc, rfl⟩
      next => exact .inl (endWithEffect_contexts r _ _ s)

theorem endAbandoned_idle (h : (s.robot r).pass = none) : endAbandoned r s = s := by
  unfold endAbandoned
  rw [h]

theorem endAbandoned_pass (r : RobotId) (s : State) : ((endAbandoned r s).robot r).pass = none := by
  have hunstarted : ∀ row, ((endUnstarted r row s).robot r).pass = none := fun row => by
    unfold endUnstarted reinsertRow
    split <;> exact clearPass_pass r s
  unfold endAbandoned
  split
  next h => exact h
  next =>
    split
    next =>
      split
      · exact hunstarted _
      · exact clearPass_pass r s
    next =>
      split
      · exact clearPass_pass r _
      · exact clearPass_pass r s

/-- R168: the record that a robot's context index names is its own. -/
def OwnsContext (s : State) (r : RobotId) : Prop := ∀ c, (s.robot r).context = some c → (s.context c).owner = some r

/-- R43, R46: after the end of a robot's pass and the abandonment of its context. -/
structure WorkEnded (r : RobotId) (s t : State) : Prop where
  contextless : (t.robot r).context = none
  others : ∀ q, q ≠ r → (t.robot q).context = (s.robot q).context
  untouched : (s.robot r).context = none → t.pool = s.pool
  freed : ∀ c, (s.robot r).context = some c → t.pool = (freeRecord c s).pool

/-- R137, R176: a robot's own context is abandoned once, with its pass or after it. -/
theorem abandonOwned_endAbandoned (h : OwnsContext s r) : WorkEnded r s (abandonOwned r (endAbandoned r s)) := by
  have habandoned : ∀ {c v}, (v.robot r).context = some c → (v.context c).owner = some r →
      ∀ q, ((abandonContext c v).robot q).context = if q = r then none else (v.robot q).context := fun hc ho q => by
    rw [abandonContext_context, ho]
    by_cases hq : q = r
    · rw [if_pos hq, if_pos (hq ▸ rfl)]
    · rw [if_neg hq, if_neg fun e => hq (Option.some.inj e).symm]
  rcases endAbandoned_cases r s with ⟨hpool, hplant, hcontext⟩ | ⟨c, hc, hend⟩
  · generalize endAbandoned r s = v at hpool hplant hcontext
    unfold abandonOwned
    rw [hcontext r]
    cases hc : (s.robot r).context with
    | none =>
      exact ⟨(hcontext r).trans hc, fun q _ => hcontext q, fun _ => hpool, fun c h' => nomatch h'.symm.trans hc⟩
    | some c =>
      have ho : (v.context c).owner = some r := by
        rw [State.context, hpool]
        exact h c hc
      have hrobots := habandoned ((hcontext r).trans hc) ho
      refine ⟨(hrobots r).trans (if_pos rfl), fun q hq => ((hrobots q).trans (if_neg hq)).trans (hcontext q),
        fun h' => (nomatch hc.symm.trans h'), fun d hd => ?_⟩
      obtain rfl : c = d := Option.some.inj (hc.symm.trans hd)
      exact (abandonContext_pool c v).trans (freeRecord_pool_congr hpool hplant c)
  · have hrobots : ∀ q, ((endAbandoned r s).robot q).context = if q = r then none else (s.robot q).context := by
      intro q
      rw [hend, clearPass_context]
      exact habandoned hc (h c hc) q
    have hnone : ((endAbandoned r s).robot r).context = none := (hrobots r).trans (if_pos rfl)
    have hpool : (endAbandoned r s).pool = (freeRecord c s).pool := by
      rw [hend]
      exact abandonContext_pool c s
    unfold abandonOwned
    rw [hnone]
    refine ⟨hnone, fun q hq => (hrobots q).trans (if_neg hq), fun h' => (nomatch hc.symm.trans h'), fun d hd => ?_⟩
    obtain rfl : c = d := Option.some.inj (hc.symm.trans hd)
    exact hpool

/-- R168: another robot's record is untouched when a robot's work ends. -/
theorem WorkEnded.owns (h : WorkEnded r s t) (hr : OwnsContext s r) (hq : q ≠ r) (ho : OwnsContext s q) :
    OwnsContext t q := fun c hc => by
  rw [h.others q hq] at hc
  cases hx : (s.robot r).context with
  | none =>
    rw [State.context, h.untouched hx]
    exact ho c hc
  | some d =>
    have hne : c ≠ d := fun e => hq (Option.some.inj ((ho c hc).symm.trans (e ▸ hr d hx)))
    rw [State.context, h.freed d hx, freeRecord_pool]
    dsimp only
    rw [tget_tset_ne _ hne]
    exact ho c hc

end Sys2Proof.Machine
end

section
/-!
SUPPORT. A robot that leaves its place and is settled at a row (R42), and SERVICE DECLARE AT ROW (O22).
-/

namespace Sys2Proof.Machine

variable {s t u : State} {n : SlotIx} {rest : List SlotIx} {r q : RobotId} {k : ShuttleIx} {row : RowId} {c : CtxIx}

/-! ### What stands while a robot is settled -/

/-- From s to t nobody moves, and no pass or context begins. -/
structure Unmoved (s t : State) : Prop where
  place : ∀ q, (t.robot q).place = (s.robot q).place
  mark : ∀ q, (t.robot q).placementMark = (s.robot q).placementMark
  activity : ∀ q, (t.robot q).activity = (s.robot q).activity
  passless : ∀ q, (s.robot q).pass = none → (t.robot q).pass = none
  occupant : ∀ x, (t.row x).occupant = (s.row x).occupant
  contested : ∀ x, (t.row x).contested = (s.row x).contested

/-- From s to t nobody moves, and every reservation and every shuttle stays as it is. -/
structure Standing (s t : State) : Prop extends Unmoved s t where
  reserved : ∀ x, (t.row x).reserved = (s.row x).reserved
  shuttles : t.shuttles = s.shuttles

theorem Unmoved.trans (h : Unmoved s t) (g : Unmoved t u) : Unmoved s u where
  place q := (g.place q).trans (h.place q)
  mark q := (g.mark q).trans (h.mark q)
  activity q := (g.activity q).trans (h.activity q)
  passless q := g.passless q ∘ h.passless q
  occupant x := (g.occupant x).trans (h.occupant x)
  contested x := (g.contested x).trans (h.contested x)

theorem Standing.trans (h : Standing s t) (g : Standing t u) : Standing s u where
  toUnmoved := h.toUnmoved.trans g.toUnmoved
  reserved x := (g.reserved x).trans (h.reserved x)
  shuttles := g.shuttles.trans h.shuttles

theorem Supervised.standing (h : Supervised s t) : Standing s t :=
  ⟨⟨h.place, h.mark, h.activity, fun q hq => (h.pass q).trans hq, h.occupant, h.contested⟩, h.reserved, h.shuttles⟩

theorem Worked.standing (h : Worked s t) : Standing s t :=
  ⟨⟨h.place, h.mark, h.activity, fun _ => h.passless, h.occupant, h.contested⟩, h.reserved, h.shuttles⟩

theorem Arbitrated.unmoved (h : Arbitrated s t) (hr : t.robots = s.robots) : Unmoved s t :=
  ⟨h.place, h.mark, fun q => congrArg (fun v => (tget v q).activity) hr, fun q hq => (h.pass q).trans hq, h.occupant,
    h.contested⟩

/-! ### A robot settled at a row (R42) -/

/-- The robot has the row as its place, and the row the robot as its occupant. -/
def seated (r : RobotId) (row : RowId) (s : State) : State := { s with
  robots := tset s.robots r { s.robot r with place := .row row, placementMark := false }
  rows := tset s.rows row { s.row row with occupant := some r } }

theorem settle_eq (r : RobotId) (row : RowId) (s : State) :
    settle r row s = leaveSets r (contextAtRow r row (seated r row s)) := rfl

theorem settle_standing (r : RobotId) (row : RowId) (s : State) : Standing (seated r row s) (settle r row s) :=
  (contextAtRow_worked r row _).standing.trans (leaveSets_supervised r _).standing

theorem seated_robot (r : RobotId) (row : RowId) (s : State) :
    (seated r row s).robot r = { s.robot r with place := .row row, placementMark := false } := tget_tset_self _ _ _

theorem seated_row (r : RobotId) (row : RowId) (s : State) :
    (seated r row s).row row = { s.row row with occupant := some r } := tget_tset_self _ _ _

theorem seated_row_ne {x : RowId} (h : x ≠ row) : (seated r row s).row x = s.row x := tget_tset_ne _ h _

theorem settle_place (r : RobotId) (row : RowId) (s : State) : ((settle r row s).robot r).place = .row row := by
  rw [(settle_standing r row s).place, seated_robot]

theorem settle_mark (r : RobotId) (row : RowId) (s : State) : ((settle r row s).robot r).placementMark = false := by
  rw [(settle_standing r row s).mark, seated_robot]

theorem settle_activity (r : RobotId) (row : RowId) (s : State) :
    ((settle r row s).robot r).activity = (s.robot r).activity := by
  rw [(settle_standing r row s).activity, seated_robot]

theorem settle_pass (h : (s.robot r).pass = none) : ((settle r row s).robot r).pass = none :=
  (settle_standing r row s).passless r (by rw [seated_robot]; exact h)

theorem settle_occupant (r : RobotId) (row : RowId) (s : State) : ((settle r row s).row row).occupant = some r := by
  rw [(settle_standing r row s).occupant, seated_row]

theorem settle_occupant_ne {x : RowId} (h : x ≠ row) : ((settle r row s).row x).occupant = (s.row x).occupant := by
  rw [(settle_standing r row s).occupant, seated_row_ne h]

theorem settle_reserved (r : RobotId) (row : RowId) (s : State) (x : RowId) :
    ((settle r row s).row x).reserved = (s.row x).reserved := by
  rw [(settle_standing r row s).reserved]
  by_cases h : x = row
  · rw [h, seated_row]
  · rw [seated_row_ne h]

theorem settle_shuttles (r : RobotId) (row : RowId) (s : State) : (settle r row s).shuttles = s.shuttles :=
  (settle_standing r row s).shuttles

theorem contextAtRow_some (h : (s.robot r).context = some c) : contextAtRow r row s
    = if (s.context c).rowId = row then leaveList row s else abandonContext c s := by
  unfold contextAtRow
  rw [h]

/-- R42: a context saved on the row stands, and keeps the row out of the list. -/
theorem settle_keeps (h : (s.robot r).context = some c) (hrow : (s.context c).rowId = row) :
    ((settle r row s).robot r).context = some c ∧ (settle r row s).pool = s.pool
      ∧ ∀ p ∈ (settle r row s).round.candidates, p.1 ≠ row := by
  have hc : ((seated r row s).robot r).context = some c := by rw [seated_robot]; exact h
  have hsets := leaveSets_supervised r (leaveList row (seated r row s))
  rw [settle_eq, contextAtRow_some hc, if_pos (by exact hrow)]
  refine ⟨(hsets.context r).trans hc, hsets.pool, fun p hp => ?_⟩
  rw [hsets.round] at hp
  exact of_decide_eq_true (List.mem_filter.mp hp).2

/-- R42, R176: a context saved on another row is abandoned. -/
theorem settle_abandons (h : (s.robot r).context = some c) (hrow : (s.context c).rowId ≠ row)
    (ho : (s.context c).owner = some r) :
    ((settle r row s).robot r).context = none ∧ (settle r row s).pool = (freeContext c s).pool
      ∧ ((settle r row s).row (s.context c).rowId).tr = 32768 - lossAfter (lossOf (s.row (s.context c).rowId).tr)
          s.params.efficiency (effectFraction s (s.context c).rowId (s.context c).covered) := by
  have hc : ((seated r row s).robot r).context = some c := by rw [seated_robot]; exact h
  have hsets := leaveSets_supervised r (abandonContext c (seated r row s))
  rw [settle_eq, contextAtRow_some hc, if_neg (by exact hrow)]
  refine ⟨?_, ?_, ?_⟩
  · rw [hsets.context, abandonContext_context]
    exact if_pos ho
  · rw [hsets.pool, abandonContext_pool, freeContext_pool]
    exact freeRecord_pool_congr (s := s) (t := seated r row s) rfl rfl c
  · have htr : ((seated r row s).row (s.context c).rowId).tr = (s.row (s.context c).rowId).tr := by
      rw [seated_row_ne hrow]
    rw [hsets.tr, ← htr]
    exact abandonContext_tr c (seated r row s)

/-! ### Leaving a place (R42, R151, R161) -/

/-- A request that leaves its queue leaves the transfers and the states as they are. -/
theorem dropRobotRequest_shuttle (r : RobotId) (o : TransferOutcome) (s : State) (j : ShuttleIx) :
    ((dropRobotRequest r o s).shuttle j).transfer = (s.shuttle j).transfer
      ∧ ((dropRobotRequest r o s).shuttle j).carried = (s.shuttle j).carried
      ∧ ((dropRobotRequest r o s).shuttle j).state = (s.shuttle j).state := by
  show ((dropRobotRequest r o s).ledger.carrier j).transfer = _
    ∧ ((dropRobotRequest r o s).ledger.carrier j).carried = _ ∧ ((dropRobotRequest r o s).ledger.carrier j).state = _
  unfold dropRobotRequest
  split
  · rw [dropRequests_ledger]
    obtain ⟨ht, hc, hs, -⟩ := drop_carrier (v := s.ledger) (k := ‹_›) (j := j) (p := fun q => q.robot == r)
    exact ⟨ht, hc, hs⟩
  · exact ⟨rfl, rfl, rfl⟩

theorem strandedOf_congr (h : ∀ j, (t.shuttle j).transfer = (s.shuttle j).transfer) (r : RobotId) :
    strandedOf t r = strandedOf s r := by
  unfold strandedOf
  simp only [h]

/-- R161: a stranded record of a robot that leaves its place is emptied, with its reservation released. -/
theorem leaveTransfers_stranded {y : Transfer} (h : strandedOf s r = some k) (hy : (s.shuttle k).transfer = some y) :
    ((leaveTransfers r s).shuttle k).transfer = none ∧ ((leaveTransfers r s).row y.destination).reserved ≠ some r
      ∧ ((leaveTransfers r s).shuttle k).state = (s.shuttle k).state := by
  have hdrop := dropRobotRequest_shuttle r (.failed .place) s
  have hst : strandedOf (dropRobotRequest r (.failed .place) s) r = some k :=
    (strandedOf_congr (fun j => (hdrop j).1) r).trans h
  have hy' : ((dropRobotRequest r (.failed .place) s).shuttle k).transfer = some y := (hdrop k).1.trans hy
  unfold leaveTransfers
  dsimp only
  rw [hst]
  dsimp only
  rw [hy']
  refine ⟨congrArg Shuttle.transfer (tget_tset_self _ _ _), ?_,
    (congrArg Shuttle.state (tget_tset_self _ _ _)).trans (hdrop k).2.2⟩
  refine ne_of_eq_of_ne (congrArg Row.reserved (tget_tset_self _ _ _)) ?_
  dsimp only
  split
  next => exact nofun
  next hne => exact hne

theorem leavePlace_eq (r : RobotId) (s : State) : leavePlace r s = { leaveTransfers r s with
    rows := rowsWithout r (leaveTransfers r s), shuttles := shuttlesWithout r (leaveTransfers r s)
    robots := tset s.robots r { s.robot r with place := .unknown } } := by
  rw [leavePlace, vacate_eq, State.robot, leaveTransfers_robots]
  rfl

theorem leaveTransfers_robot (r : RobotId) (s : State) (q : RobotId) : (leaveTransfers r s).robot q = s.robot q :=
  congrArg (tget · q) (leaveTransfers_robots r s)

theorem leavePlace_robot (r : RobotId) (s : State) :
    (leavePlace r s).robot r = { s.robot r with place := .unknown } := by
  rw [leavePlace_eq]
  exact tget_tset_self _ _ _

theorem leavePlace_robot_ne (h : q ≠ r) : (leavePlace r s).robot q = s.robot q := by
  rw [leavePlace_eq]
  exact tget_tset_ne _ h _

theorem leavePlace_pool (r : RobotId) (s : State) : (leavePlace r s).pool = s.pool := by
  rw [leavePlace_eq]
  exact (leaveTransfers_arbitrated r s).pool

theorem leavePlace_plant (r : RobotId) (s : State) : (leavePlace r s).plant = s.plant := by
  rw [leavePlace_eq]
  exact (leaveTransfers_arbitrated r s).plant

theorem leavePlace_row (r : RobotId) (s : State) (x : RowId) : (leavePlace r s).row x
    = tget (rowsWithout r (leaveTransfers r s)) x := by
  rw [leavePlace_eq]
  rfl

theorem leavePlace_shuttle (r : RobotId) (s : State) (j : ShuttleIx) : (leavePlace r s).shuttle j
    = tget (shuttlesWithout r (leaveTransfers r s)) j := by
  rw [leavePlace_eq]
  rfl

theorem leavePlace_tr (r : RobotId) (s : State) (x : RowId) : ((leavePlace r s).row x).tr = (s.row x).tr := by
  rw [leavePlace_row, tget_rowsWithout]
  exact (leaveTransfers_arbitrated r s).tr x

theorem leavePlace_left (h : (s.robot r).place = .row row) : ((leavePlace r s).row row).occupant ≠ some r := by
  rw [leavePlace_row]
  exact rowsWithout_left ((congrArg Robot.place (leaveTransfers_robot r s r)).trans h)

theorem leavePlace_alit (h : (s.robot r).place = .shuttle k) : ((leavePlace r s).shuttle k).carried ≠ some r := by
  rw [leavePlace_shuttle]
  exact shuttlesWithout_left ((congrArg Robot.place (leaveTransfers_robot r s r)).trans h)

/-- R161. -/
theorem leavePlace_stranded {y : Transfer} (h : strandedOf s r = some k) (hy : (s.shuttle k).transfer = some y) :
    ((leavePlace r s).shuttle k).transfer = none ∧ ((leavePlace r s).row y.destination).reserved ≠ some r
      ∧ ((leavePlace r s).shuttle k).state = (s.shuttle k).state := by
  rw [leavePlace_shuttle, leavePlace_row, tget_shuttlesWithout, tget_rowsWithout]
  exact leaveTransfers_stranded h hy

/-! ### SERVICE DECLARE AT ROW (R49) -/

theorem elim_firstDetail_cons {α : Type} (b : Bool) (d : Nat) (xs : List (Bool × Nat)) (g : α) (f : Nat → α) :
    (firstDetail ((b, d) :: xs)).elim g f = if b = false then f d else (firstDetail xs).elim g f := by
  cases b <;> rfl

theorem serviceDeclare_eq (n : SlotIx) (ws : List Word) (u : State) (hr : fieldRobot ws 2 = r)
    (hrow : fieldRow ws 4 = row) : serviceDeclare n ws u =
      if (u.robotConfig r).registered = false then answer n .refusedState 0x86 [] u
      else if (u.robot r).activity = .withdrawn ∨ (u.robot r).activity ≠ .halted ∧ (u.robot r).activity ≠ .fault
          ∧ (u.robot r).activity ≠ .unknown ∧ u.robotLinkState r ≠ .lost then
        answer n .refusedState (u.robot r).activity.code [] u
      else if hasRequest u r = true then answer n .refusedState 0x87 [] u
      else if (u.site row).present = false then answer n .refusedState 0x80 [] u
      else if (u.site row).block ≠ (u.robotConfig r).block then answer n .refusedState 0x81 [] u
      else if (u.row row).contested = true then answer n .refusedState 0x82 [] u
      else if (u.row row).occupant ≠ none ∧ (u.row row).occupant ≠ some r then answer n .refusedState 0x83 [] u
      else if (u.row row).reserved ≠ none then answer n .refusedState 0x84 [] u
      else answer n .done 0 [] (declareAt r row u) := by
  have helim : serviceDeclare n ws u = (firstDetail (declareChecks u r row)).elim
      (answer n .done 0 [] (declareAt r row u)) fun d => answer n .refusedState d [] u := by
    rw [← hr, ← hrow]
    unfold serviceDeclare
    dsimp only
    cases firstDetail (declareChecks u (fieldRobot ws 2) (fieldRow ws 4)) <;> rfl
  have hmerge : ∀ (p q : Prop) [Decidable p] [Decidable q] (x y : State),
      (if p then x else if q then x else y) = if p ∨ q then x else y := fun p q _ _ x y => by
    by_cases hp : p <;> simp [hp]
  rw [helim, declareChecks]
  simp only [elim_firstDetail_cons, hmerge]
  simp only [bne_eq_false_iff_eq, Bool.or_eq_false_iff, beq_eq_false_iff_ne, Bool.not_eq_false',
    Option.isNone_eq_false_iff, Option.isSome_iff_ne_none, and_assoc, ne_eq, blockOf]
  rfl

theorem declare_inRange (h : orderWord s n 2 ≤ 47) (ha : orderWord s n 3 = 2) (hrow : orderWord s n 4 ≤ 255) :
    rangeFailure .service (slotWords s n) = none := by
  have h55 : orderWord s n 2 ≤ 55 := by omega
  simp [rangeFailure, firstOutOfRange, field_slotWords, h, h55, ha, hrow]

theorem exec_declare (h : AtHead s n rest 2) (hr : orderWord s n 2 = r.1) (ha : orderWord s n 3 = 2)
    (hrow : orderWord s n 4 ≤ 255) : exec .serviceDeclareAtRow s
      = .next (drain (commit s (serviceDeclare n (slotWords s n) (takenAt s n rest)))) :=
  takeOrder_eq h .service (isKindSel_slotWords (h.orderKind rfl) (by decide) (.inl ha))
    (declare_inRange (by omega) ha hrow) serviceDeclare

theorem fieldRobot_slotWords (h : orderWord s n 2 = r.1) : fieldRobot (slotWords s n) 2 = r := by
  rw [fieldRobot, field_slotWords s n (by decide)]
  exact Fin.ext ((congrArg (· % 48) h).trans (Nat.mod_eq_of_lt r.2))

/-- R49: the robot is DOCKED when it is settled. -/
def declared (r : RobotId) (u : State) : State :=
  modRobot r (fun b => { b with activity := .docked }) (leavePlace r (endAbandoned r u))

theorem declareAt_eq (r : RobotId) (row : RowId) (u : State) : declareAt r row u = settle r row (declared r u) := rfl

theorem declared_robot (r : RobotId) (u : State) : (declared r u).robot r
    = { (endAbandoned r u).robot r with place := .unknown, activity := .docked } := by
  refine (tget_tset_self _ _ _).trans ?_
  have h := leavePlace_robot r (endAbandoned r u)
  unfold State.robot at h
  rw [h]
  rfl

theorem declared_row (r : RobotId) (u : State) (x : RowId) :
    (declared r u).row x = (leavePlace r (endAbandoned r u)).row x := by
  unfold State.row
  rw [declared, modRobot_rows]

theorem declared_shuttle (r : RobotId) (u : State) (j : ShuttleIx) :
    (declared r u).shuttle j = (leavePlace r (endAbandoned r u)).shuttle j := by
  unfold State.shuttle
  rw [declared, modRobot_shuttles]

theorem declareAt_shuttle (r : RobotId) (row : RowId) (u : State) (j : ShuttleIx) :
    (declareAt r row u).shuttle j = (leavePlace r (endAbandoned r u)).shuttle j := by
  rw [← declared_shuttle, declareAt_eq, State.shuttle, settle_shuttles]
  rfl

/-- R42, R49: where the robot is, and what it has left. -/
theorem declareAt_places (r : RobotId) (row : RowId) (u : State) : let t := declareAt r row u
    (t.robot r).activity = .docked ∧ (t.robot r).place = .row row ∧ (t.robot r).placementMark = false
      ∧ (t.row row).occupant = some r ∧ (t.robot r).pass = none
      ∧ (∀ y, (u.robot r).place = .row y → y ≠ row → (t.row y).occupant ≠ some r)
      ∧ ∀ k, (u.robot r).place = .shuttle k → (t.shuttle k).carried ≠ some r := by
  have hplace := (endAbandoned_worked r u).place r
  dsimp only
  simp only [declareAt_shuttle]
  rw [declareAt_eq]
  refine ⟨?_, settle_place r row _, settle_mark r row _, settle_occupant r row _, ?_, fun y hy hne => ?_,
    fun k hk => ?_⟩
  · rw [settle_activity, declared_robot]
  · refine settle_pass ?_
    rw [declared_robot]
    exact endAbandoned_pass r u
  · rw [settle_occupant_ne hne, declared_row]
    exact leavePlace_left (hplace.trans hy)
  · exact leavePlace_alit (hplace.trans hk)

/-- R42, R49, R176: what becomes of the context that the robot owns. -/
theorem declareAt_context (hpass : (u.robot r).pass = none) (hc : (u.robot r).context = some c) :
    let t := declareAt r row u
    let saved := (u.context c).rowId
    let length := (u.site saved).length
    (saved = row → (t.robot r).context = some c ∧ t.pool = u.pool ∧ ∀ p ∈ t.round.candidates, p.1 ≠ row)
    ∧ (saved ≠ row → (u.context c).owner = some r → 1 ≤ length →
      let loss := 32768 - (u.row saved).tr
      let f := min (u.context c).covered (2 * length) * 256 / (2 * length)
      (t.robot r).context = none ∧ t.pool = (freeContext c u).pool
      ∧ (t.row saved).tr = 32768 - (loss - loss * u.params.efficiency * f / 65536)) := by
  have hpool : (declared r u).pool = u.pool := by
    rw [declared, endAbandoned_idle hpass, modRobot_pool, leavePlace_pool]
  have hplant : (declared r u).plant = u.plant := by
    rw [declared, endAbandoned_idle hpass, modRobot_plant, leavePlace_plant]
  have hrecord : (declared r u).context c = u.context c := by rw [State.context, hpool]; rfl
  have hctx : ((declared r u).robot r).context = some c := by rw [declared_robot, endAbandoned_idle hpass]; exact hc
  have htr : ∀ x, ((declared r u).row x).tr = (u.row x).tr := fun x => by
    rw [declared, endAbandoned_idle hpass]
    exact leavePlace_tr r u x
  dsimp only
  rw [declareAt_eq]
  refine ⟨fun hsaved => ?_, fun hsaved ho _ => ?_⟩
  · obtain ⟨h1, h2, h3⟩ := settle_keeps hctx (hrecord ▸ hsaved)
    exact ⟨h1, h2.trans hpool, h3⟩
  · obtain ⟨h1, h2, h3⟩ := settle_abandons (row := row) hctx (by rw [hrecord]; exact hsaved) (by rw [hrecord]; exact ho)
    refine ⟨h1, ?_, ?_⟩
    · rw [h2, freeContext_pool, freeContext_pool]
      exact freeRecord_pool_congr hpool hplant c
    · rw [hrecord, htr] at h3
      rw [h3, effectFraction, State.site, State.params, hplant]
      rfl

/-- R161. -/
theorem declareAt_stranded {y : Transfer} (h : strandedOf u r = some k) (hy : (u.shuttle k).transfer = some y) :
    let t := declareAt r row u
    (t.shuttle k).transfer = none ∧ (t.row y.destination).reserved ≠ some r
      ∧ (t.shuttle k).state = (u.shuttle k).state := by
  have hend : ∀ j, (endAbandoned r u).shuttle j = u.shuttle j := fun j =>
    congrArg (tget · j) (endAbandoned_worked r u).shuttles
  obtain ⟨hnone, hres, hstate⟩ := leavePlace_stranded (r := r) (s := endAbandoned r u)
    ((strandedOf_congr (fun j => congrArg Shuttle.transfer (hend j)) r).trans h)
    ((congrArg Shuttle.transfer (hend k)).trans hy)
  dsimp only
  rw [declareAt_shuttle, hstate, hend, declareAt_eq, settle_reserved, declared_row]
  exact ⟨hnone, hres, rfl⟩

/-- Settles O22. -/
theorem robotDeclared : Obligations.RobotDeclared := by
  unfold Obligations.RobotDeclared
  intro s n rest r h hr ha hrow u row b x
  have hexec : exec .serviceDeclareAtRow s = .next (drain (commit s (serviceDeclare n (slotWords s n) u))) :=
    exec_declare h hr ha hrow
  rw [hexec, serviceDeclare_eq n _ u (fieldRobot_slotWords hr) (fieldRow_slotWords s n (by decide))]
  refine ⟨rfl, ?_⟩
  clear_value u row
  obtain ⟨hact, hplace, hmark, hocc, hpass, hrows, hshuttles⟩ := declareAt_places r row u
  exact ⟨hact, hplace, hmark, hocc, hpass, hrows, hshuttles, fun c hb hc => declareAt_context hb hc,
    fun k y hk hy => declareAt_stranded hk hy⟩

end Sys2Proof.Machine
end

section
/-!
SUPPORT. How a robot's STATUS is recorded, places it, or meets a conflict (O44).
-/

namespace Sys2Proof.Machine

variable {s t u v : State} {r q o : RobotId} {k : ShuttleIx} {row : RowId} {c : CtxIx} {rep : RobotReport}

/-! ### What no internal move changes -/

/-- R31: a small move of a command that neither resets nor enters RUN leaves the plant in force. -/
theorem Small.plant_stands {i : Instr} (h : Small i s t) (hr : ¬i.mayReset) (he : i ≠ .runEntryChecks) :
    t.plant = s.plant := by
  cases h with
  | answer n cls d ws => rw [answer_plant]
  | rewriteEnd m => rw [endRewrite_frame]
  | closeStation n => rw [closeStation_frame]
  | release x r => rw [freeRecord_frame]
  | runEntry _ hc => exact absurd hc he
  | powerOn hc => exact absurd (.inl hc) hr
  | pinAssert hc => exact absurd (.inr (.inl hc)) hr
  | pinRelease hc => exact absurd (.inr (.inr (.inl hc))) hr
  | soft hc => exact absurd (.inr (.inr (.inr hc))) hr
  | _ => rfl

theorem Moves.internal_plant (h : Moves .turnStart s t) : t.plant = s.plant :=
  h.keeps (P := fun w => w.plant = s.plant)
    (fun _ _ hm hw => (hm.plant_stands not_mayReset_turnStart nofun).trans hw) rfl

/-- R16: what the part does of its own accord clears no notice. -/
theorem Moves.internal_notice (h : Moves .turnStart s t) {i : Nat} (hs : s.board.notice.getLsbD i = true) :
    t.board.notice.getLsbD i = true :=
  h.keeps (P := fun w => w.board.notice.getLsbD i = true)
    (fun _ _ hm hw => hm.notice_stands not_mayReset_turnStart (fun hn => hn) hw) hs

/-! ### A report recorded (R39) -/

theorem recordRobot_eq (r : RobotId) (rep : RobotReport) (u : State) : recordRobot r rep u = { u with
    board := { u.board with notice :=
      if rep.faultCode ≠ (u.robot r).faultCode ∧ rep.faultCode ≠ 0 then u.board.notice ||| 512#13 else u.board.notice }
    robots := tset u.robots r { u.robot r with
      lastHeard := u.siteSecond, leg := rep.leg, soc := min 100 rep.soc, meter := rep.meter, faultCode := rep.faultCode
      position := min rep.position (if (u.site rep.row).present then (u.site rep.row).length else 1023) } } := by
  unfold recordRobot
  rw [noteFault_eq]
  rfl

/-- R39: a report is recorded, placed and handed on. -/
theorem robotStatus_eq (r : RobotId) (rep : RobotReport) (diff : Nat) (u : State) : robotStatus r rep diff u =
    let v := recordRobot r rep u
    let w := if (u.robot r).placementMark then placeByReport r rep v else moveByReport r rep v
    let told := if (u.robotConfig r).surfaceSensor then rep else { rep with surface := none }
    { w with
      agenda := w.agenda ++ [.accountReport r told diff, .plannerReport r told diff, .arbiterReport r told,
        .stormReport r told, .examine r]
      robots := tset w.robots r { w.robot r with
        activity := if (w.robot r).placementMark then .unknown else rep.activity } } := by
  have hmark : ((recordRobot r rep u).robot r).placementMark = (u.robot r).placementMark := by
    rw [recordRobot_eq]
    exact (congrArg Robot.placementMark (tget_tset_self _ _ _)).trans rfl
  have hplant : ∀ b : Bool, (if b then placeByReport r rep (recordRobot r rep u)
      else moveByReport r rep (recordRobot r rep u)).plant = u.plant := fun b => by
    have hrecord : (recordRobot r rep u).plant = u.plant := by rw [recordRobot_eq]
    cases b
    · exact (moveByReport_moves r rep (.refl _)).internal_plant.trans hrecord
    · exact (placeByReport_moves r rep (.refl _)).internal_plant.trans hrecord
  unfold robotStatus
  dsimp only
  rw [hmark]
  have hplant := hplant (u.robot r).placementMark
  generalize (if (u.robot r).placementMark then _ else _ : State) = w at hplant ⊢
  have hconfig : ((recordActivity r rep.activity w).robotConfig r) = u.robotConfig r := by
    unfold State.robotConfig
    rw [← hplant]
    rfl
  rw [hconfig]
  rfl

/-! ### Where a report puts a robot (R42, R44) -/

/-- R42, R44: the reports that place nobody. -/
def staysPut (v : State) (r : RobotId) (rep : RobotReport) : Prop :=
  rep.activity = .boarding ∨ rep.activity = .aboard ∨ rep.activity = .alighting
    ∨ (v.site rep.row).present = false ∨ (v.site rep.row).block ≠ (v.robotConfig r).block
    ∨ (v.row rep.row).contested = true

/-- R42: the robot arrives at its own reservation, or is placed. -/
def goesTo (r : RobotId) (rep : RobotReport) (s : State) : State :=
  if (s.row rep.row).reserved = some r then arrive r rep.row s else placeAt r rep.row s

theorem staysPut_iff : staysPut v r rep ↔
    rep.activity.moving = true ∨ rowOfBlock v r rep.row = false ∨ (v.row rep.row).contested = true := by
  rw [moving_iff]
  unfold staysPut rowOfBlock
  simp only [Bool.and_eq_false_iff, beq_eq_false_iff_ne, ne_eq, or_assoc]

theorem placeByReport_stays (h : staysPut v r rep) : placeByReport r rep v = v := by
  rw [staysPut_iff] at h
  unfold placeByReport
  rcases h with h | h | h <;> simp [h]

theorem placeByReport_goes (h : ¬staysPut v r rep) : placeByReport r rep v =
    if (v.robot r).place = .row rep.row then modRobot r (fun b => { b with placementMark := false }) v
    else goesTo r rep (endAbandoned r v) := by
  rw [staysPut_iff] at h
  simp only [not_or, Bool.not_eq_false] at h
  obtain ⟨hm, hb, hc⟩ := h
  unfold placeByReport
  rw [if_neg hm, if_neg (by simp [hb]), if_neg hc]
  rfl

theorem moveByReport_stays (h : staysPut v r rep ∨ serviceOf v r ≠ none ∨ (v.robot r).place = .row rep.row) :
    moveByReport r rep v = v := by
  rw [staysPut_iff, ← Option.isSome_iff_ne_none] at h
  unfold moveByReport
  rcases h with (h | h | h) | h | h <;> simp [h]

theorem moveByReport_goes (h : ¬staysPut v r rep) (hs : serviceOf v r = none) (hp : (v.robot r).place ≠ .row rep.row) :
    moveByReport r rep v = goesTo r rep (endAbandoned r v) := by
  rw [staysPut_iff] at h
  simp only [not_or, Bool.not_eq_false] at h
  obtain ⟨hm, hb, hc⟩ := h
  unfold moveByReport
  rw [if_neg hm, if_neg (by simp [hs]), if_neg hp, if_neg (by simp [hb]), if_neg hc]
  rfl

/-! ### Placed at an unoccupied row (R42, R162) -/

/-- R42: the state in which a robot finds the row at which it is placed. -/
def cleared (r : RobotId) (row : RowId) (s : State) : State := takeReservation row r (leavePlace r s)

theorem placeAt_free (h : ((cleared r row s).row row).occupant = none) :
    placeAt r row s = settle r row (cleared r row s) := by
  unfold placeAt
  dsimp only
  rw [show ((takeReservation row r (leavePlace r s)).row row).occupant = none from h]
  rfl

theorem placeAt_conflict (h : ((cleared r row s).row row).occupant = some o) (ho : o ≠ r) :
    placeAt r row s = conflict r o row (cleared r row s) := by
  unfold placeAt
  dsimp only
  rw [show ((takeReservation row r (leavePlace r s)).row row).occupant = some o from h]
  exact if_neg ho

theorem cleared_arbitrated (r : RobotId) (row : RowId) (s : State) : Arbitrated (leavePlace r s) (cleared r row s) :=
  takeReservation_arbitrated row r _

/-- R42: a row keeps its occupant, unless the robot that leaves is its occupant. -/
theorem leavePlace_occupant (r : RobotId) (s : State) (x : RowId) : ((leavePlace r s).row x).occupant
    = if (s.robot r).place = .row x ∧ (s.row x).occupant = some r then none else (s.row x).occupant := by
  rw [leavePlace_row, tget_rowsWithout]
  dsimp only
  rw [leaveTransfers_robot, (leaveTransfers_arbitrated r s).occupant]

theorem cleared_occupant (r : RobotId) (row : RowId) (s : State) (x : RowId) : ((cleared r row s).row x).occupant
    = if (s.robot r).place = .row x ∧ (s.row x).occupant = some r then none else (s.row x).occupant := by
  rw [(cleared_arbitrated r row s).occupant, leavePlace_occupant]

/-- R151: another robot's requests and reservations stand when the queued request of a robot leaves. -/
theorem dropRobotRequest_others (h : q ≠ r) (d : TransferOutcome) (s : State) :
    (∀ j y, y.robot = q → (y ∈ ((dropRobotRequest r d s).shuttle j).queue ↔ y ∈ (s.shuttle j).queue))
      ∧ ∀ x, (s.row x).reserved = some q → ((dropRobotRequest r d s).row x).reserved = some q := by
  show (∀ j y, y.robot = q → (y ∈ ((dropRobotRequest r d s).ledger.carrier j).queue ↔ _))
    ∧ ∀ x, _ → (dropRobotRequest r d s).ledger.reserved x = some q
  unfold dropRobotRequest
  split
  next k _ =>
    rw [dropRequests_ledger]
    refine ⟨fun j y hy => ?_, fun x hx => ?_⟩
    · obtain ⟨-, -, -, hq⟩ := drop_carrier (v := s.ledger) (k := k) (j := j) (p := fun y => y.robot == r)
      rw [hq]
      exact and_iff_left fun hn => h (hy.symm.trans (beq_iff_eq.mp hn.2))
    · refine Ledger.Lawful.releaseAll_kept (by exact hx) fun hm => ?_
      obtain ⟨y, hy, he⟩ := List.mem_map.mp hm
      obtain ⟨-, hq⟩ := Prod.mk.inj he
      exact h (hq.symm.trans (beq_iff_eq.mp (List.mem_filter.mp hy).2))
  next => exact ⟨fun _ _ _ => Iff.rfl, fun _ => id⟩

/-- R161: another robot's requests and reservations stand when a robot leaves its place. -/
theorem leavePlace_others (h : q ≠ r) (s : State) :
    (∀ j y, y.robot = q → (y ∈ ((leavePlace r s).shuttle j).queue ↔ y ∈ (s.shuttle j).queue))
      ∧ ∀ x, (s.row x).reserved = some q → ((leavePlace r s).row x).reserved = some q := by
  have hgiveUp : ∀ k d (w : State), (∀ j, ((emptyTransfer k (releaseRow d r w)).shuttle j).queue = (w.shuttle j).queue)
      ∧ ∀ x, (w.row x).reserved = some q → ((emptyTransfer k (releaseRow d r w)).row x).reserved = some q := by
    refine fun k d w => ⟨fun j => ?_, fun x hx => ?_⟩
    · rw [emptyTransfer, modShuttle_shuttle]
      split
      next hj => subst hj; rfl
      next => rfl
    · show (releaseRow d r w).ledger.reserved x = some q
      rw [releaseRow_ledger]
      exact Ledger.Lawful.releaseAll_kept (by exact hx) fun hm => h (Prod.mk.inj (List.mem_singleton.mp hm)).2
  obtain ⟨hqueue, hres⟩ := dropRobotRequest_others h (.failed .place) s
  have hleave : (∀ j y, y.robot = q → (y ∈ ((leaveTransfers r s).shuttle j).queue ↔ y ∈ (s.shuttle j).queue))
      ∧ ∀ x, (s.row x).reserved = some q → ((leaveTransfers r s).row x).reserved = some q := by
    unfold leaveTransfers
    dsimp only
    split
    next k _ =>
      split
      next y _ =>
        obtain ⟨hq, hr⟩ := hgiveUp k y.destination (dropRobotRequest r (.failed .place) s)
        exact ⟨fun j z hz => by rw [hq]; exact hqueue j z hz, fun x hx => hr x (hres x hx)⟩
      next => exact ⟨hqueue, hres⟩
    next => exact ⟨hqueue, hres⟩
  refine ⟨fun j y hy => ?_, fun x hx => ?_⟩
  · rw [leavePlace_shuttle, tget_shuttlesWithout]
    exact hleave.1 j y hy
  · rw [leavePlace_row, tget_rowsWithout]
    exact hleave.2 x hx

theorem queueOf_congr (h : ∀ j y, y.robot = q → (y ∈ (t.shuttle j).queue ↔ y ∈ (s.shuttle j).queue)) :
    queueOf t q = queueOf s q := by
  have hany : ∀ j, ((t.shuttle j).queue.any fun y => y.robot == q) = (s.shuttle j).queue.any fun y => y.robot == q :=
    fun j => by
      rw [Bool.eq_iff_iff, List.any_eq_true, List.any_eq_true]
      refine exists_congr fun y => ?_
      rw [beq_iff_eq]
      exact and_congr_left fun hy => h j y hy
  unfold queueOf
  simp only [hany]

/-- R42, R162: another robot's reservation of the row is released, and its queued request goes. -/
theorem takeReservation_other (h : q ≠ r) (hx : (s.row row).reserved = some q) :
    ((takeReservation row r s).row row).reserved = none
      ∧ ∀ k, queueOf s q = some k → ∀ y ∈ ((takeReservation row r s).shuttle k).queue, y.robot ≠ q := by
  have hgone : ((releaseRow row q s).row row).reserved = none :=
    (congrArg Row.reserved (tget_tset_self _ _ _)).trans (if_pos hx)
  have hstays : ∀ {w : State}, (releaseRow row q s).ledger.Still w.ledger → (w.row row).reserved = none := fun hw =>
    Option.eq_none_iff_forall_ne_some.mpr fun p hp => nomatch hgone.symm.trans (hw.reserved row p hp)
  have hqueue : queueOf (releaseRow row q s) q = queueOf s q := queueOf_congr fun _ _ _ => Iff.rfl
  unfold takeReservation
  rw [hx]
  dsimp only
  rw [if_neg h, hqueue]
  cases hk : queueOf s q with
  | some k =>
    refine ⟨hstays (dropRequests_still k _ _ _), fun j hj y hy => ?_⟩
    obtain rfl : k = j := Option.some.inj hj
    have hy' : y ∈ ((dropRequests k (fun x => x.robot == q) (.failed .conflict)
        (releaseRow row q s)).ledger.carrier k).queue := hy
    rw [dropRequests_ledger] at hy'
    obtain ⟨-, -, -, hq⟩ := drop_carrier (v := (releaseRow row q s).ledger) (k := k) (j := k)
      (p := fun x => x.robot == q)
    exact fun hyq => ((hq y).mp hy').2 ⟨rfl, beq_iff_eq.mpr hyq⟩
  | none =>
    refine ⟨?_, nofun⟩
    dsimp only
    split
    · exact hstays (failConflict_still _ _)
    · exact hgone

/-- R42: where a robot placed at an unoccupied row is, and what it has left. -/
theorem placeAt_places (ho : (v.row row).occupant = none) : let t := placeAt r row v
    (t.robot r).place = .row row ∧ (t.robot r).placementMark = false ∧ (t.row row).occupant = some r
      ∧ (∀ x, (v.robot r).place = .row x → x ≠ row → (t.row x).occupant ≠ some r)
      ∧ (∀ k, (v.robot r).place = .shuttle k → (t.shuttle k).carried ≠ some r)
      ∧ ∀ q, (v.row row).reserved = some q → q ≠ r →
          (t.row row).reserved = none ∧ ∀ k, queueOf v q = some k → ∀ y ∈ (t.shuttle k).queue, y.robot ≠ q := by
  have hfree : ((cleared r row v).row row).occupant = none := by rw [cleared_occupant, ho, ite_self]
  have hshuttle : ∀ j, (settle r row (cleared r row v)).shuttle j = (cleared r row v).shuttle j := fun j =>
    congrArg (tget · j) (settle_shuttles r row _)
  dsimp only
  rw [placeAt_free hfree]
  refine ⟨settle_place r row _, settle_mark r row _, settle_occupant r row _, fun x hx hne => ?_, fun k hk => ?_,
    fun q hq hqr => ?_⟩
  · rw [settle_occupant_ne hne, (cleared_arbitrated r row v).occupant]
    exact leavePlace_left hx
  · rw [hshuttle, (cleared_arbitrated r row v).carried]
    exact leavePlace_alit hk
  · obtain ⟨hqueue, hres⟩ := leavePlace_others hqr v
    obtain ⟨hnone, hgone⟩ := takeReservation_other hqr (hres row hq)
    rw [settle_reserved]
    refine ⟨hnone, fun k hk => ?_⟩
    rw [hshuttle]
    exact hgone k ((queueOf_congr hqueue).trans hk)

/-! ### A conflict (R43) -/

theorem endWork_unmoved (r : RobotId) (s : State) : Unmoved s (endWork r s) :=
  (((endAbandoned_worked r s).standing.toUnmoved.trans (abandonOwned_worked r _).standing.toUnmoved).trans
    ((endBoarding_arbitrated r _).unmoved (endBoarding_robots r _))).trans (leaveSets_supervised r _).standing.toUnmoved

theorem endWork_pass (r : RobotId) (s : State) : ((endWork r s).robot r).pass = none := by
  have hown : ((abandonOwned r (endAbandoned r s)).robot r).pass = none :=
    (abandonOwned_worked r _).passless (endAbandoned_pass r s)
  exact ((leaveSets_supervised r _).pass r).trans (((endBoarding_arbitrated r _).pass r).trans hown)

/-- R43: the robot's pass and context have ended. -/
theorem endWork_ended (h : OwnsContext s r) : WorkEnded r s (endWork r s) := by
  have hend := abandonOwned_endAbandoned h
  have hboard := endBoarding_arbitrated r (abandonOwned r (endAbandoned r s))
  have hsets := leaveSets_supervised r (endBoarding r (abandonOwned r (endAbandoned r s)))
  have hctx : ∀ q, ((endWork r s).robot q).context = ((abandonOwned r (endAbandoned r s)).robot q).context := fun q =>
    (hsets.context q).trans (hboard.context q)
  have hpool : (endWork r s).pool = (abandonOwned r (endAbandoned r s)).pool := hsets.pool.trans hboard.pool
  exact ⟨(hctx r).trans hend.contextless, fun q hq => (hctx q).trans (hend.others q hq),
    fun hn => hpool.trans (hend.untouched hn), fun c hc => hpool.trans (hend.freed c hc)⟩

/-- R43: both robots unplaced and the row contested, before the work of either ends. -/
def contestedBy (r o : RobotId) (row : RowId) (s : State) : State :=
  setNotice .placementConflict (unplace r (unplace o
    (modRow row (fun x => { x with contested := true, occupant := none }) (leavePlace o s))))

theorem conflict_eq (r o : RobotId) (row : RowId) (s : State) :
    conflict r o row s = leaveList row (endWork r (endWork o (contestedBy r o row s))) := rfl

theorem unplace_robot (r : RobotId) (s : State) (q : RobotId) : (unplace r s).robot q = if q = r then
      { s.robot q with place := .unknown, placementMark := true, activity := .unknown }
    else s.robot q := by
  refine (tget_tset _ _ _ _).trans ?_
  split
  next h => rw [h]; rfl
  next => rfl

theorem contestedBy_robot (h : q = r ∨ q = o) (row : RowId) (s : State) :
    ((contestedBy r o row s).robot q).place = .unknown ∧ ((contestedBy r o row s).robot q).placementMark = true
      ∧ ((contestedBy r o row s).robot q).activity = .unknown := by
  have hrobot : (contestedBy r o row s).robot q = (unplace r (unplace o
      (modRow row (fun x => { x with contested := true, occupant := none }) (leavePlace o s)))).robot q := rfl
  rw [hrobot, unplace_robot]
  split
  next => exact ⟨rfl, rfl, rfl⟩
  next hne =>
    rw [unplace_robot, if_pos (h.resolve_left hne)]
    exact ⟨rfl, rfl, rfl⟩

theorem contestedBy_context (r o : RobotId) (row : RowId) (s : State) (q : RobotId) :
    ((contestedBy r o row s).robot q).context = (s.robot q).context := by
  have hunplace : ∀ a w, ((unplace a w).robot q).context = (w.robot q).context := fun a w => by
    rw [unplace_robot]
    split <;> rfl
  have hleave : ((leavePlace o s).robot q).context = (s.robot q).context := by
    by_cases h : q = o
    · rw [h, leavePlace_robot]
    · rw [leavePlace_robot_ne h]
  exact ((hunplace r _).trans (hunplace o _)).trans hleave

theorem contestedBy_pool (r o : RobotId) (row : RowId) (s : State) : (contestedBy r o row s).pool = s.pool := by
  rw [contestedBy, setNotice_pool, unplace, modRobot_pool, unplace, modRobot_pool, modRow_pool, leavePlace_pool]

theorem contestedBy_row (r o : RobotId) (row : RowId) (s : State) : ((contestedBy r o row s).row row).contested = true
    ∧ ((contestedBy r o row s).row row).occupant = none := by
  have hrow : (contestedBy r o row s).row row
      = { tget (leavePlace o s).rows row with contested := true, occupant := none } := by
    rw [State.row, contestedBy, setNotice_rows, unplace, modRobot_rows, unplace, modRobot_rows, modRow_rows,
      tget_tset_self]
  rw [hrow]
  exact ⟨rfl, rfl⟩

/-- R43: what a conflict leaves of the row and of both robots. -/
theorem conflict_places (r o : RobotId) (row : RowId) (s : State) : let t := conflict r o row s
    (t.row row).contested = true ∧ (t.row row).occupant = none ∧ (∀ p ∈ t.round.candidates, p.1 ≠ row)
      ∧ t.board.notice.getLsbD 12 = true
      ∧ ∀ q, q = r ∨ q = o → (t.robot q).place = .unknown ∧ (t.robot q).placementMark = true
          ∧ (t.robot q).activity = .unknown ∧ (t.robot q).pass = none := by
  have hwork := (endWork_unmoved o (contestedBy r o row s)).trans (endWork_unmoved r _)
  obtain ⟨hcontested, hoccupant⟩ := contestedBy_row r o row s
  have hnotice : (contestedBy r o row s).board.notice.getLsbD 12 = true := by
    simp [contestedBy, setNotice, Notice.bit]
  have hmoves : Moves .turnStart (contestedBy r o row s) (conflict r o row s) :=
    leaveList_moves row (endWork_moves r (endWork_moves o (.refl _)))
  have hrows : (conflict r o row s).rows = (endWork r (endWork o (contestedBy r o row s))).rows := by
    rw [conflict_eq, leaveList, modRound_rows]
  have hrobots : (conflict r o row s).robots = (endWork r (endWork o (contestedBy r o row s))).robots := by
    rw [conflict_eq, leaveList, modRound_robots]
  dsimp only
  rw [State.row, hrows]
  refine ⟨(hwork.contested row).trans hcontested, (hwork.occupant row).trans hoccupant, fun p hp => ?_,
    hmoves.internal_notice hnotice, fun q hq => ?_⟩
  · rw [conflict_eq, leaveList, modRound_round] at hp
    simp only [List.mem_filter, decide_eq_true_eq] at hp
    exact hp.2
  · obtain ⟨hplace, hmark, hact⟩ := contestedBy_robot hq row s
    rw [State.robot, hrobots]
    refine ⟨(hwork.place q).trans hplace, (hwork.mark q).trans hmark, (hwork.activity q).trans hact, ?_⟩
    rcases hq with rfl | rfl
    · exact endWork_pass q _
    · exact (endWork_unmoved r _).passless q (endWork_pass q _)

/-- R43: the contexts of both robots are abandoned, the occupant's first. -/
theorem conflict_contexts (hne : o ≠ r) (hr : OwnsContext s r) (ho : OwnsContext s o) (row : RowId) :
    let t := conflict r o row s
    (t.robot r).context = none ∧ (t.robot o).context = none
      ∧ (∀ c, (s.robot r).context = some c → t.pool.head = some c)
      ∧ ∀ c, (s.robot r).context = none → (s.robot o).context = some c → t.pool.head = some c := by
  have hctx := contestedBy_context r o row s
  have howns : ∀ q, OwnsContext s q → OwnsContext (contestedBy r o row s) q := fun q hq c hc => by
    rw [State.context, contestedBy_pool]
    exact hq c ((hctx q).symm.trans hc)
  have hfirst := endWork_ended (howns o ho)
  have hlast := endWork_ended (hfirst.owns (howns o ho) hne.symm (howns r hr))
  have hhead : ∀ c w, (freeRecord c w).pool.head = some c := fun c w => by rw [freeRecord_pool]
  have hkept : ((endWork o (contestedBy r o row s)).robot r).context = (s.robot r).context :=
    (hfirst.others r hne.symm).trans (hctx r)
  have hpool : (conflict r o row s).pool = (endWork r (endWork o (contestedBy r o row s))).pool := by
    rw [conflict_eq, leaveList, modRound_pool]
  have hrobot : ∀ q, (conflict r o row s).robot q = (endWork r (endWork o (contestedBy r o row s))).robot q := by
    intro q
    rw [State.robot, conflict_eq, leaveList, modRound_robots]
    rfl
  dsimp only
  rw [hpool, hrobot, hrobot]
  refine ⟨hlast.contextless, (hlast.others o hne).trans hfirst.contextless, fun c hc => ?_, fun c hn hc => ?_⟩
  · rw [hlast.freed c (hkept.trans hc)]
    exact hhead c _
  · rw [hlast.untouched (hkept.trans hn), hfirst.freed c ((hctx o).trans hc)]
    exact hhead c _

/-- Settles O44. -/
theorem placesReported : Obligations.PlacesReported := by
  unfold Obligations.PlacesReported
  refine ⟨fun u r rep diff => ?_, fun v r rep => ?_, fun v r row => ⟨placeAt_places, fun o ho hne _ => ?_⟩⟩
  · exact (robotStatus_eq r rep diff u).trans (by rw [recordRobot_eq])
  · exact ⟨placeByReport_stays, placeByReport_goes, moveByReport_stays, moveByReport_goes⟩
  · have hcleared : ((cleared r row v).row row).occupant = some o := by
      rw [cleared_occupant, ho]
      exact if_neg fun h => hne (Option.some.inj h.2)
    have hpool : (cleared r row v).pool = v.pool := (cleared_arbitrated r row v).pool.trans (leavePlace_pool r v)
    have hctx : ∀ q, ((cleared r row v).robot q).context = (v.robot q).context := fun q => by
      rw [(cleared_arbitrated r row v).context]
      by_cases h : q = r
      · rw [h, leavePlace_robot]
      · rw [leavePlace_robot_ne h]
    obtain ⟨hcontested, hocc, hlist, hnotice, hrobots⟩ := conflict_places r o row (cleared r row v)
    rw [placeAt_conflict hcleared hne]
    refine ⟨hcontested, hocc, hlist, hnotice, hrobots, fun hlaw => ?_⟩
    have howns : ∀ q, OwnsContext (cleared r row v) q := fun q c hc => by
      rw [State.context, hpool]
      exact (hlaw.owners c q).mpr ((hctx q).symm.trans hc)
    have hcontexts := conflict_contexts hne (howns r) (howns o) row
    simp only [hctx] at hcontexts
    exact hcontexts

end Sys2Proof.Machine
end

section
/-!
SUPPORT. Requests cancelled with a detail (R151, R163), and SERVICE WITHDRAW of a shuttle (O20).
-/

namespace Sys2Proof.Machine

variable {s t u : State} {n m : SlotIx} {rest : List SlotIx} {r : RobotId} {k : ShuttleIx} {d : Nat}
  {p : Request → Bool}

/-! ### Requests cancelled (R151, R163) -/

theorem forEach_push {α : Type} (f : α → Job) (xs : List α) (s : State) :
    forEach xs (fun x => push (f x)) s = { s with agenda := s.agenda ++ xs.map f } := by
  induction xs generalizing s with
  | nil => simp [forEach]
  | cons x rest ih =>
    refine (ih (push (f x) s)).trans ?_
    simp [push]

/-- R163: the orders of cancelled requests are answered alike. -/
theorem forEach_answerTransfer (k : ShuttleIx) (d : Nat) (xs : List (SlotIx × Request)) (s : State) :
    forEach xs (fun a => answerTransfer k a.1 a.2.destination (.cancelled d)) s
      = answerAll (xs.map Prod.fst) .aborted d s := by
  induction xs generalizing s with
  | nil => rfl
  | cons x rest ih => exact ih (answer x.1 .aborted d [] s)

/-- The requests of a queue that leave it. -/
def leaving (k : ShuttleIx) (p : Request → Bool) (s : State) : List Request := (s.shuttle k).queue.filter p

/-- The slots of the HOST orders among requests. -/
def originSlots (qs : List Request) : List SlotIx :=
  (allSlots.filterMap fun n => (qs.find? fun q => q.origin == some n).map fun q => (n, q)).map Prod.fst

/-- The reports to the planner on the ROUND requests among requests cancelled. -/
def cancelReports (qs : List Request) : List Job :=
  (qs.filter fun q => q.cls == .round).map fun q => .transferReport q.robot q.destination .cancelled

/-- R151: a queue without the requests that leave, whose reservations are released. -/
def withoutRequests (k : ShuttleIx) (p : Request → Bool) (s : State) : State :=
  releaseAll ((leaving k p s).map fun q => (q.destination, q.robot)) (markRewrite (.shuttle k)
    (modShuttle k (fun x => { x with queue := (s.shuttle k).queue.filter fun q => !p q }) s))

theorem dropRequests_cancelled (h : leaving k p s ≠ []) (d : Nat) : dropRequests k p (.cancelled d) s =
    let v := answerAll (originSlots (leaving k p s)) .aborted d (withoutRequests k p s)
    { v with agenda := v.agenda
        ++ cancelReports (leaving k p s)
        ++ (if (s.shuttle k).queue.length = 8 then [.examineBlock (v.shuttleConfig k).block] else [])
        ++ [.startRule k] } := by
  unfold dropRequests
  dsimp only
  rw [if_neg (show ¬(s.shuttle k).queue.filter p = [] from h), forEach_releaseRow,
    forEach_answerTransfer, forEach_push, leftFullQueue_eq]
  rfl

theorem mem_originSlots {qs : List Request} {q : Request} (hq : q ∈ qs) (ho : q.origin = some m) :
    m ∈ originSlots qs := by
  obtain ⟨y, hy⟩ := Option.isSome_iff_exists.mp
    (List.find?_isSome.mpr ⟨q, hq, beq_iff_eq.mpr ho⟩ : (qs.find? fun q => q.origin == some m).isSome = true)
  exact List.mem_map.mpr ⟨(m, y), List.mem_filterMap.mpr ⟨m, List.mem_finRange m, by rw [hy]; rfl⟩, rfl⟩

theorem answerAll_answeredWith {xs : List SlotIx} (cls : AnswerClass) (d : Nat) (hwf : Memory.wf s.memory = true)
    (hm : m ∈ xs) : AnsweredWith (answerAll xs cls d s) m cls.code d :=
  ⟨by rw [answerAll_slot, if_pos hm], answerAll_mem_word cls d hwf hm (i := 0) (by decide),
    answerAll_mem_word cls d hwf hm (i := 1) (by decide)⟩

/-- A slot answered stays answered so when others, or it again, are answered alike. -/
theorem AnsweredWith.again {cls : AnswerClass} (h : AnsweredWith s m cls.code d) (hwf : Memory.wf s.memory = true)
    (xs : List SlotIx) : AnsweredWith (answerAll xs cls d s) m cls.code d := by
  by_cases hm : m ∈ xs
  · exact answerAll_answeredWith cls d hwf hm
  · have hmem : ∀ i, 16 ≤ i → i < 32 → (answerAll xs cls d s).mem (slotBase m + i) = s.mem (slotBase m + i) :=
      fun i h1 h2 => answerAll_mem_other xs cls d hwf fun x hx => by
        have hne : x.1 ≠ m.1 := fun e => hm (Fin.ext e ▸ hx)
        simp only [slotBase, Config.orderBoardBase]
        omega
    obtain ⟨hs, hcls, hd⟩ := h
    exact ⟨by rw [answerAll_slot, if_neg hm]; exact hs, (hmem 16 (by decide) (by decide)).trans hcls,
      (hmem 17 (by decide) (by decide)).trans hd⟩

theorem withoutRequests_board (k : ShuttleIx) (p : Request → Bool) (s : State) :
    (withoutRequests k p s).board = s.board := rfl

theorem withoutRequests_memory (k : ShuttleIx) (p : Request → Bool) (s : State) :
    (withoutRequests k p s).memory = s.memory := rfl

theorem withoutRequests_agenda (k : ShuttleIx) (p : Request → Bool) (s : State) :
    (withoutRequests k p s).agenda = s.agenda := rfl

theorem answerAll_agenda (xs : List SlotIx) (cls : AnswerClass) (d : Nat) (s : State) :
    (answerAll xs cls d s).agenda = s.agenda := by rw [answerAll_eq]

/-- The agenda only grows when requests are cancelled. -/
theorem dropRequests_agenda {j : Job} (hj : j ∈ s.agenda) : j ∈ (dropRequests k p (.cancelled d) s).agenda := by
  by_cases h : leaving k p s = []
  · rw [show dropRequests k p (.cancelled d) s = s from if_pos h]
    exact hj
  · rw [dropRequests_cancelled h]
    simp only [answerAll_agenda, withoutRequests_agenda, List.mem_append]
    exact .inl (.inl (.inl hj))

/-- R163: an order answered ABORTED stays so when requests are cancelled with the same detail. -/
theorem dropRequests_answered (h : AnsweredWith s m 3 d) (hwf : Memory.wf s.memory = true) :
    AnsweredWith (dropRequests k p (.cancelled d) s) m 3 d := by
  by_cases hg : leaving k p s = []
  · rw [show dropRequests k p (.cancelled d) s = s from if_pos hg]
    exact h
  · rw [dropRequests_cancelled hg]
    have hbefore : AnsweredWith (withoutRequests k p s) m AnswerClass.aborted.code d := h.congr rfl rfl
    exact (hbefore.again hwf (originSlots (leaving k p s))).congr rfl rfl

/-- R151, R163: what becomes of each request that is cancelled. -/
theorem dropRequests_gone {q : Request} (hq : q ∈ (s.shuttle k).queue) (hp : p q = true) :
    let t := dropRequests k p (.cancelled d) s
    (t.row q.destination).reserved ≠ some q.robot
      ∧ (q.cls = .round → .transferReport q.robot q.destination .cancelled ∈ t.agenda)
      ∧ ∀ m, q.origin = some m → Memory.wf s.memory = true → AnsweredWith t m 3 d := by
  have hmem : q ∈ leaving k p s := List.mem_filter.mpr ⟨hq, hp⟩
  refine ⟨fun hres => ?_, fun hc => ?_, fun m ho hwf => ?_⟩
  · have hled : (dropRequests k p (.cancelled d) s).ledger.reserved q.destination = some q.robot := hres
    rw [dropRequests_ledger] at hled
    exact (Ledger.Lawful.releaseAll_some hled).2 (List.mem_map.mpr ⟨q, hmem, rfl⟩)
  · rw [dropRequests_cancelled (List.ne_nil_of_mem hmem)]
    have hreport : .transferReport q.robot q.destination .cancelled ∈ cancelReports (leaving k p s) :=
      List.mem_map_of_mem (List.mem_filter.mpr ⟨hmem, beq_iff_eq.mpr hc⟩)
    simp only [List.mem_append]
    exact .inl (.inl (.inr hreport))
  · rw [dropRequests_cancelled (List.ne_nil_of_mem hmem)]
    exact (answerAll_answeredWith .aborted d (s := withoutRequests k p s) hwf (mem_originSlots hmem ho)).congr rfl rfl

/-- R151: the queue keeps the other requests. -/
theorem dropRequests_queue (k : ShuttleIx) (p : Request → Bool) (o : TransferOutcome) (s : State) :
    ((dropRequests k p o s).shuttle k).queue = (s.shuttle k).queue.filter fun q => !p q := by
  show ((dropRequests k p o s).ledger.carrier k).queue = _
  rw [dropRequests_ledger]
  simp only [Ledger.drop, Ledger.releaseAll, Ledger.withCarrier, Function.update_self]
  rfl

/-! ### SERVICE WITHDRAW of a shuttle (R47) -/

theorem cancelInService_queue (k : ShuttleIx) (u : State) :
    ((cancelInService k u).shuttle k).queue = (u.shuttle k).queue
    ∧ ((cancelInService k u).shuttle k).inService = none := by
  unfold cancelInService
  cases hx : (u.shuttle k).inService with
  | none => exact ⟨rfl, hx⟩
  | some y =>
    obtain ⟨b, m, a, h⟩ := finishTransfer_frame k y (.cancelled 2)
      (emptyTransfer k (releaseRow y.destination y.robot u))
    have hshuttle : (cancelFetch k y 2 u).shuttle k = { u.shuttle k with transfer := none } := by
      rw [cancelFetch, h]
      exact tget_tset_self _ _ _
    dsimp only
    rw [hshuttle]
    exact ⟨rfl, rfl⟩

/-- R163: what a cancelled outcome leaves. -/
theorem finishTransfer_cancelled (k : ShuttleIx) (y : Transfer) (d : Nat) (s : State) :
    let t := finishTransfer k y (.cancelled d) s
    t.rows = s.rows ∧ (Memory.wf s.memory = true → Memory.wf t.memory = true)
      ∧ (y.cls = .round → .transferReport y.robot y.destination .cancelled ∈ t.agenda)
      ∧ ∀ m, y.origin = some m → Memory.wf s.memory = true → AnsweredWith t m 3 d := by
  have htold : ∀ w : State, w.rows = s.rows → (Memory.wf s.memory = true → Memory.wf w.memory = true) →
      (∀ m, y.origin = some m → Memory.wf s.memory = true → AnsweredWith w m 3 d) →
      let t := if y.cls = .round ∨ TransferOutcome.cancelled d = .ended then
        push (.transferReport y.robot y.destination (TransferOutcome.cancelled d).report) w else w
      t.rows = s.rows ∧ (Memory.wf s.memory = true → Memory.wf t.memory = true)
        ∧ (y.cls = .round → .transferReport y.robot y.destination .cancelled ∈ t.agenda)
        ∧ ∀ m, y.origin = some m → Memory.wf s.memory = true → AnsweredWith t m 3 d := by
    intro w hrows hwf hans
    by_cases hc : y.cls = .round
    · dsimp only
      rw [if_pos (.inl hc)]
      exact ⟨hrows, hwf, fun _ => List.mem_append_right _ (List.mem_singleton_self _),
        fun m ho hm => (hans m ho hm).congr rfl rfl⟩
    · dsimp only
      rw [if_neg (by simp [hc])]
      exact ⟨hrows, hwf, fun h => absurd h hc, hans⟩
  unfold finishTransfer
  cases ho : y.origin with
  | none =>
    rw [ho] at htold
    exact htold s rfl id nofun
  | some n =>
    rw [ho] at htold
    refine htold (answerTransfer k n y.destination (.cancelled d) s) (answer_rows s n _ d []) (answer_wf n _ d []) ?_
    rintro m hm hwf
    obtain rfl : n = m := Option.some.inj hm
    exact answer_answeredWith n .aborted d [] hwf

theorem cancelInService_some {y : Transfer} (hy : (u.shuttle k).inService = some y) :
    cancelInService k u = finishTransfer k y (.cancelled 2) (emptyTransfer k (releaseRow y.destination y.robot u)) := by
  unfold cancelInService
  rw [hy]
  rfl

theorem cancelInService_wf (hwf : Memory.wf u.memory = true) (k : ShuttleIx) :
    Memory.wf (cancelInService k u).memory = true := by
  cases hy : (u.shuttle k).inService with
  | none =>
    unfold cancelInService
    rw [hy]
    exact hwf
  | some y =>
    rw [cancelInService_some hy]
    exact (finishTransfer_cancelled k y 2 _).2.1 hwf

/-- R163: what becomes of the transfer that is given up. -/
theorem cancelInService_gone {y : Transfer} (hy : (u.shuttle k).inService = some y) : let t := cancelInService k u
    (t.row y.destination).reserved ≠ some y.robot
      ∧ (y.cls = .round → .transferReport y.robot y.destination .cancelled ∈ t.agenda)
      ∧ ∀ m, y.origin = some m → Memory.wf u.memory = true → AnsweredWith t m 3 2 := by
  obtain ⟨hrows, -, hreport, hanswered⟩ :=
    finishTransfer_cancelled k y 2 (emptyTransfer k (releaseRow y.destination y.robot u))
  dsimp only
  rw [cancelInService_some hy, State.row, hrows]
  refine ⟨?_, hreport, hanswered⟩
  refine ne_of_eq_of_ne (congrArg Row.reserved (tget_tset_self _ _ _)) ?_
  dsimp only
  split
  next => exact nofun
  next hne => exact hne

/-- R47: the shuttle withdrawn. -/
theorem withdrawShuttle_left (k : ShuttleIx) (u : State) : let t := withdrawShuttle k u
    (t.shuttle k).state = .withdrawn ∧ (t.shuttle k).queue = [] ∧ (t.shuttle k).deadline = none
      ∧ (t.shuttle k).inService = none
      ∧ (t.entry (shuttleLink k)).inPollList = false ∧ (t.entry (shuttleLink k)).command = none := by
  have hentry : ∀ v : State, ((leavePolling (shuttleLink k) v).entry (shuttleLink k)).inPollList = false
      ∧ ((leavePolling (shuttleLink k) v).entry (shuttleLink k)).command = none := fun v => by
    rw [leavePolling, modEntry_entry]
    exact ⟨rfl, rfl⟩
  have hqueue : ((dropRequests k (fun _ => true) (.cancelled 2) (cancelInService k u)).shuttle k).queue = [] := by
    rw [dropRequests_queue]
    exact List.filter_eq_nil_iff.mpr fun _ _ => nofun
  have htransfer : ((dropRequests k (fun _ => true) (.cancelled 2) (cancelInService k u)).shuttle k).transfer
      = ((cancelInService k u).shuttle k).transfer := by
    show ((dropRequests k _ _ _).ledger.carrier k).transfer = _
    rw [dropRequests_ledger]
    exact drop_carrier.1
  have hservice : ∀ x y : Shuttle, x.transfer = y.transfer → y.inService = none → x.inService = none := by
    intro x y h hy
    rw [Shuttle.inService, h]
    exact hy
  dsimp only
  rw [withdrawShuttle_eq]
  generalize dropRequests k (fun _ => true) (.cancelled 2) (cancelInService k u) = v at hqueue htransfer
  rw [modShuttle_shuttle, if_pos rfl]
  obtain ⟨hpoll, hcommand⟩ := hentry v
  exact ⟨rfl, hqueue, rfl, hservice _ _ htransfer (cancelInService_queue k u).2, hpoll, hcommand⟩

/-- R47, R163: what becomes of the requests of a shuttle that is withdrawn. -/
theorem withdrawShuttle_gone (k : ShuttleIx) (u : State) : let t := withdrawShuttle k u
    (∀ q ∈ (u.shuttle k).queue, (t.row q.destination).reserved ≠ some q.robot
      ∧ (q.cls = .round → .transferReport q.robot q.destination .cancelled ∈ t.agenda)
      ∧ ∀ m, q.origin = some m → Memory.wf u.memory = true → AnsweredWith t m 3 2)
    ∧ ∀ y, (u.shuttle k).inService = some y → (t.row y.destination).reserved ≠ some y.robot
      ∧ (y.cls = .round → .transferReport y.robot y.destination .cancelled ∈ t.agenda)
      ∧ ∀ m, y.origin = some m → Memory.wf u.memory = true → AnsweredWith t m 3 2 := by
  have hframe : (withdrawShuttle k u).rows = (dropRequests k (fun _ => true) (.cancelled 2) (cancelInService k u)).rows
      ∧ (withdrawShuttle k u).agenda = (dropRequests k (fun _ => true) (.cancelled 2) (cancelInService k u)).agenda
      ∧ (withdrawShuttle k u).board = (dropRequests k (fun _ => true) (.cancelled 2) (cancelInService k u)).board
      ∧ (withdrawShuttle k u).memory
        = (dropRequests k (fun _ => true) (.cancelled 2) (cancelInService k u)).memory := by
    rw [withdrawShuttle_eq]
    generalize dropRequests k (fun _ => true) (.cancelled 2) (cancelInService k u) = v
    exact ⟨rfl, rfl, rfl, rfl⟩
  obtain ⟨hrows, hagenda, hboard, hmemory⟩ := hframe
  have hrow : ∀ x, (withdrawShuttle k u).row x
      = (dropRequests k (fun _ => true) (.cancelled 2) (cancelInService k u)).row x :=
    fun x => congrArg (tget · x) hrows
  simp only [hrow, hagenda]
  refine ⟨fun q hq => ?_, fun y hy => ?_⟩
  · rw [← (cancelInService_queue k u).1] at hq
    obtain ⟨hres, hreport, hans⟩ := dropRequests_gone (d := 2) (p := fun _ => true) hq rfl
    exact ⟨hres, hreport, fun m ho hwf => (hans m ho (cancelInService_wf hwf k)).congr hboard hmemory⟩
  · obtain ⟨hres, hreport, hans⟩ := cancelInService_gone hy
    have hstill := dropRequests_still k (fun _ => true) (.cancelled 2) (cancelInService k u)
    exact ⟨fun h => hres (hstill.reserved _ _ h), fun hc => dropRequests_agenda (hreport hc), fun m ho hwf =>
      (dropRequests_answered (hans m ho hwf) (cancelInService_wf hwf k)).congr hboard hmemory⟩

/-- R47: the states and the load with which a shuttle cannot be withdrawn. -/
def KeptInService (x : Shuttle) : Prop :=
  x.state = .withdrawn ∨ x.state = .board ∨ x.state = .carry ∨ x.state = .alight ∨ x.carried ≠ none

theorem keptInService_iff {x : Shuttle} :
    KeptInService x ↔ (!x.state.keepsRobot && x.carried.isNone) = false := by
  have hstate : x.state.keepsRobot = true
      ↔ x.state = .withdrawn ∨ x.state = .board ∨ x.state = .carry ∨ x.state = .alight := by
    cases x.state <;> simp [ShuttleState.keepsRobot]
  unfold KeptInService
  rw [Bool.and_eq_false_iff, Bool.not_eq_false', hstate, Option.isNone_eq_false_iff, Option.isSome_iff_ne_none]
  simp only [or_assoc]

theorem serviceWithdrawShuttle_eq (n : SlotIx) (k : ShuttleIx) (u : State) : serviceWithdrawShuttle n k u
    = if (u.shuttleConfig k).registered = false then answer n .refusedState 0x86 [] u
      else if (!(u.shuttle k).state.keepsRobot && (u.shuttle k).carried.isNone) = false then
        answer n .refusedState (0x10 + (u.shuttle k).state.code) [] u
      else answer n .done 0 [] (withdrawShuttle k u) := by
  have helim : serviceWithdrawShuttle n k u = (firstDetail [((u.shuttleConfig k).registered, Detail.notRegistered),
      (!(u.shuttle k).state.keepsRobot && (u.shuttle k).carried.isNone, (u.shuttle k).state.detail)]).elim
        (answer n .done 0 [] (withdrawShuttle k u)) fun d => answer n .refusedState d [] u := by
    unfold serviceWithdrawShuttle
    dsimp only
    split <;> rename_i h <;> rw [h] <;> rfl
  rw [helim, elim_firstDetail_cons, elim_firstDetail_cons]
  rfl

end Sys2Proof.Machine
end

section
/-!
SUPPORT. SERVICE WITHDRAW of a robot (O20).
-/

namespace Sys2Proof.Machine

variable {s t u v : State} {n : SlotIx} {rest : List SlotIx} {r : RobotId} {k : ShuttleIx} {m : AlertIx}

/-! ### The sets that a robot leaves (R195) -/

theorem changeAlert_members {f : Alert → Alert} (hf : ∀ a, (f a).members = a.members) (n : AlertIx) (s : State)
    (m : AlertIx) : ((changeAlert n f s).alert m).members = (s.alert m).members := by
  have hrelease : ∀ rows w, (dropRelease rows w).alerts = w.alerts := fun rows w => by
    refine forEach_keeps (P := fun v => v.alerts = w.alerts) ?_ _ rfl
    exact fun _ _ h => h
  have hrefresh : ∀ w, (refreshFlags w).alerts = w.alerts := fun w => hrelease _ (setFlags w)
  have hmod : ((modAlert n f s).alert m).members = (s.alert m).members := by
    unfold State.alert
    rw [modAlert_alerts, tget_tset]
    split
    next h => rw [hf, h]
    next => rfl
  unfold changeAlert
  dsimp only
  rw [State.alert, hrefresh, apply_ite State.alerts, setNotice_alerts, ite_self]
  exact hmod

theorem checkParked_member (n : AlertIx) (s : State) (m : AlertIx) (r : RobotId) :
    ((checkParked n s).alert m).member r = (s.alert m).member r := by
  have hheld : ∀ cls d ws w, ((answerHeld n cls d ws w).alert m).members = (w.alert m).members := by
    intro cls d ws w
    unfold answerHeld
    split
    · rw [State.alert, answer_alerts, modAlert_alerts, tget_tset]
      split
      next h => rw [h]; rfl
      next => rfl
    · rfl
  unfold Alert.member checkParked
  dsimp only
  split
  · rw [hheld, changeAlert_members (by exact fun _ => rfl)]
  · rfl

/-- R195: the robot is a member whose place is no longer a row of the record. -/
def leavesSet (s : State) (r : RobotId) (n : AlertIx) : Bool :=
  (s.alert n).member r != .out && (match (s.robot r).row? with | some x => !(s.alert n).covers x | none => true)

/-- R195: the robot leaves the set of a record. -/
def leaveSet (r : RobotId) (n : AlertIx) (s : State) : State :=
  if leavesSet s r n then
    checkParked n (modAlert n (fun a =>
      { a with members := tset a.members r .out, toSecure := a.toSecure - 1,
               secured := if a.member r = .secured then a.secured - 1 else a.secured }) s)
  else s

theorem leaveSets_eq (r : RobotId) (s : State) : leaveSets r s = dropTarget r (forEach allAlerts (leaveSet r) s) := rfl

theorem leaveSet_supervised (r : RobotId) (n : AlertIx) (s : State) : Supervised s (leaveSet r n s) := by
  unfold leaveSet
  split
  · exact (modAlert_supervised n _ s).trans (checkParked_supervised n _)
  · exact .refl s

theorem leaveSet_member (hp : (s.robot r).place = .unknown) (n m : AlertIx) :
    ((leaveSet r n s).alert m).member r = if m = n then .out else (s.alert m).member r := by
  have hleaves : leavesSet s r n = true ↔ (s.alert n).member r ≠ .out := by simp [leavesSet, Robot.row?, hp]
  unfold leaveSet
  by_cases hout : (s.alert n).member r = .out
  · rw [if_neg fun h => hleaves.mp h hout]
    split
    next h => rw [h, hout]
    next => rfl
  · rw [if_pos (hleaves.mpr hout), checkParked_member, State.alert, modAlert_alerts, tget_tset]
    split
    next h => exact tget_tset_self _ _ _
    next => rfl

theorem forEach_leaveSet (xs : List AlertIx) (hp : (s.robot r).place = .unknown) (m : AlertIx) :
    ((forEach xs (leaveSet r) s).alert m).member r = if m ∈ xs then .out else (s.alert m).member r := by
  induction xs generalizing s with
  | nil => rfl
  | cons n rest ih =>
    refine (ih (((leaveSet_supervised r n s).place r).trans hp)).trans ?_
    rw [leaveSet_member hp]
    by_cases hr : m ∈ rest <;> by_cases hn : m = n <;> simp [hr, hn]

/-- R195: a robot without a place belongs to no set, and has no storm target. -/
theorem leaveSets_unplaced (hp : (s.robot r).place = .unknown) :
    (∀ m, ((leaveSets r s).alert m).member r = .out) ∧ ((leaveSets r s).robot r).storm.target = .none := by
  have hout : ∀ m, ((forEach allAlerts (leaveSet r) s).alert m).member r = .out := fun m =>
    (forEach_leaveSet allAlerts hp m).trans (if_pos (List.mem_finRange m))
  have hnone : inSomeSet (forEach allAlerts (leaveSet r) s) r = false := by simp [inSomeSet, hout]
  rw [leaveSets_eq]
  generalize forEach allAlerts (leaveSet r) s = v at hout hnone
  have hdrop : dropTarget r v = modRobot r (fun b => { b with storm :=
      { StormMarks.clear with release := b.storm.release, retry := b.storm.release && b.storm.retry } }) v :=
    if_neg (by simp [hnone])
  rw [hdrop, State.robot, modRobot_robots, tget_tset_self]
  exact ⟨hout, rfl⟩

/-- R195: a robot that belongs to no set leaves none. -/
theorem leaveSets_outside (h : inSomeSet s r = false) : leaveSets r s = modRobot r (fun b =>
    { b with storm := { StormMarks.clear with release := b.storm.release, retry := b.storm.release && b.storm.retry } })
    s := by
  have hout : ∀ n, (s.alert n).member r = .out := fun n => by
    have hn := List.any_eq_false.mp h n (List.mem_finRange n)
    simpa using hn
  have hid : forEach allAlerts (leaveSet r) s = s := forEach_id fun n _ => if_neg (by simp [leavesSet, hout n])
  rw [leaveSets_eq, hid, dropTarget, h]
  rfl

/-! ### SERVICE WITHDRAW of a robot (R46) -/

/-- R46: the robot once its request, its pass and its context have gone. -/
def workless (r : RobotId) (u : State) : State := abandonOwned r (endAbandoned r (dropRobotRequest r (.cancelled 2) u))

/-- R46: the robot withdrawn, but for the sets that it leaves. -/
def retire (r : RobotId) (v : State) : State := { v with
  robots := tset v.robots r { v.robot r with
    place := .unknown, placementMark := false, pass := none, activity := .withdrawn, homingMark := false
    storm := { (v.robot r).storm with release := false } }
  rows := rowsWithout r v, shuttles := shuttlesWithout r v
  link := { v.link with
    entries := tset v.link.entries (robotLink r) { v.entry (robotLink r) with inPollList := false, command := none } } }

theorem withdrawRobot_eq (r : RobotId) (u : State) :
    withdrawRobot r u = push .closeCheck (leaveSets r (retire r (workless r u))) := by
  have hretire : ∀ v, modRobot r (fun b => { b with
      placementMark := false, pass := none, activity := .withdrawn, homingMark := false
      storm := { b.storm with release := false } }) (vacate r (leavePolling (robotLink r) v)) = retire r v := by
    intro v
    rw [vacate_eq, modRobot]
    dsimp only
    rw [tget_tset_self, tset_tset]
    rfl
  rw [← hretire]
  rfl

theorem retire_robot (r : RobotId) (v : State) : (retire r v).robot r = { v.robot r with
    place := .unknown, placementMark := false, pass := none, activity := .withdrawn, homingMark := false
    storm := { (v.robot r).storm with release := false } } := tget_tset_self _ _ _

theorem retire_entry (r : RobotId) (v : State) : (retire r v).entry (robotLink r)
    = { v.entry (robotLink r) with inPollList := false, command := none } := tget_tset_self _ _ _

/-- R46: the robot is WITHDRAWN and not polled. -/
theorem withdrawRobot_left (r : RobotId) (u : State) : let t := withdrawRobot r u
    (t.robot r).activity = .withdrawn ∧ (t.robot r).place = .unknown ∧ (t.robot r).pass = none
      ∧ (t.robot r).placementMark = false ∧ (t.robot r).homingMark = false ∧ (t.robot r).storm.release = false
      ∧ (t.entry (robotLink r)).inPollList = false ∧ (t.entry (robotLink r)).command = none := by
  have hsets := leaveSets_supervised r (retire r (workless r u))
  have hrobot := retire_robot r (workless r u)
  have hpushed : ∀ w : State, (push .closeCheck w).robot r = w.robot r := fun _ => rfl
  have hentry : (push .closeCheck (leaveSets r (retire r (workless r u)))).entry (robotLink r)
      = (retire r (workless r u)).entry (robotLink r) := by
    unfold State.entry
    rw [push_link, hsets.link]
  dsimp only
  rw [withdrawRobot_eq, hentry, retire_entry, hpushed, hsets.activity, hsets.place, hsets.pass, hsets.mark,
    hsets.homing, hrobot]
  exact ⟨rfl, rfl, rfl, rfl, rfl, hsets.unreleased (by rw [hrobot]), rfl, rfl⟩

/-- R46, R176, R195: the robot belongs to no alert set, has no storm target, and owns no context. -/
theorem withdrawRobot_sets (r : RobotId) (u : State) : let t := withdrawRobot r u
    (∀ m, (t.alert m).member r = .out) ∧ (t.robot r).storm.target = .none
      ∧ (OwnsContext u r → (t.robot r).context = none) := by
  have hplace : ((retire r (workless r u)).robot r).place = .unknown := by rw [retire_robot]
  obtain ⟨hout, htarget⟩ := leaveSets_unplaced hplace
  have halert : ∀ w m, (push .closeCheck w).alert m = w.alert m := fun _ _ => rfl
  have hrobot : ∀ w, (push .closeCheck w).robot r = w.robot r := fun _ => rfl
  dsimp only
  simp only [withdrawRobot_eq, halert, hrobot]
  refine ⟨hout, htarget, fun ho => ?_⟩
  have hdrop := dropRobotRequest_arbitrated r (.cancelled 2) u
  have hown : OwnsContext (dropRobotRequest r (.cancelled 2) u) r := fun c hc => by
    rw [State.context, hdrop.pool]
    exact ho c ((hdrop.context r).symm.trans hc)
  refine ((leaveSets_supervised r (retire r (workless r u))).context r).trans ?_
  rw [retire_robot]
  exact (abandonOwned_endAbandoned hown).contextless

theorem workless_place (r : RobotId) (u : State) : ((workless r u).robot r).place = (u.robot r).place :=
  (((endAbandoned_worked r _).trans (abandonOwned_worked r _)).place r).trans
    ((dropRobotRequest_arbitrated r (.cancelled 2) u).place r)

theorem workless_alerts (r : RobotId) (u : State) : (workless r u).alerts = u.alerts :=
  ((endAbandoned_worked r _).trans (abandonOwned_worked r _)).alerts.trans
    (dropRobotRequest_arbitrated r (.cancelled 2) u).alerts

/-- R46: a robot outside every alert set, and aboard no shuttle. -/
theorem withdrawRobot_outside {rows : Table 256 Row} (hin : inSomeSet u r = false)
    (hp : ∀ k, (u.robot r).place ≠ .shuttle k) (hrows : rowsWithout r (workless r u) = rows) :
    withdrawRobot r u = { workless r u with
      agenda := (workless r u).agenda ++ [.closeCheck]
      robots := tset (workless r u).robots r { (workless r u).robot r with
        place := .unknown, placementMark := false, pass := none, activity := .withdrawn, homingMark := false
        storm := StormMarks.clear }
      rows := rows
      link := { (workless r u).link with
        entries := tset (workless r u).link.entries (robotLink r)
          { (workless r u).entry (robotLink r) with inPollList := false, command := none } } } := by
  have hset : inSomeSet (retire r (workless r u)) r = false := by
    have halerts : (retire r (workless r u)).alerts = u.alerts := workless_alerts r u
    unfold inSomeSet State.alert
    rw [halerts]
    exact hin
  have hshuttles : shuttlesWithout r (workless r u) = (workless r u).shuttles := by
    unfold shuttlesWithout
    rw [workless_place]
    split
    next k hk => exact absurd hk (hp k)
    next => rfl
  rw [withdrawRobot_eq, leaveSets_outside hset]
  generalize workless r u = w at hshuttles hrows
  unfold retire push modRobot
  dsimp only
  rw [tget_tset_self, tset_tset, hshuttles, hrows]
  rfl

theorem rowsWithout_row {row : RowId} (h : (v.robot r).place = .row row) : rowsWithout r v = tset v.rows row
    { v.row row with occupant := if (v.row row).occupant = some r then none else (v.row row).occupant } := by
  unfold rowsWithout
  rw [h]

theorem rowsWithout_rowless (h : ∀ row, (v.robot r).place ≠ .row row) : rowsWithout r v = v.rows := by
  unfold rowsWithout
  split
  next row hrow => exact absurd hrow (h row)
  next => rfl

/-- R151, R163: the queued request of a robot that is withdrawn. -/
theorem dropRobotRequest_gone {d : Nat} (h : queueOf u r = some k) : let t := dropRobotRequest r (.cancelled d) u
    t.robots = u.robots
      ∧ (t.shuttle k).queue = (u.shuttle k).queue.filter (fun q => decide (q.robot ≠ r))
      ∧ ∀ q ∈ (u.shuttle k).queue, q.robot = r →
          (t.row q.destination).reserved ≠ some r
          ∧ (q.cls = .round → .transferReport r q.destination .cancelled ∈ t.agenda)
          ∧ ∀ m, q.origin = some m → Memory.wf u.memory = true → AnsweredWith t m 3 d := by
  have hdrop : dropRobotRequest r (.cancelled d) u = dropRequests k (fun q => q.robot == r) (.cancelled d) u := by
    rw [dropRobotRequest, h]
  dsimp only
  rw [hdrop]
  refine ⟨dropRequests_robots _ _ _ _, ?_, ?_⟩
  · rw [dropRequests_queue]
    exact List.filter_congr fun q _ => Bool.eq_iff_iff.mpr (by simp)
  · rintro q hq rfl
    exact dropRequests_gone hq (beq_self_eq_true _)

/-- The place is aboard a shuttle. -/
def Place.isAboard : Place → Bool
  | .shuttle _ => true
  | _ => false

theorem Place.isAboard_eq_false {p : Place} : p.isAboard = false ↔ ∀ k, p ≠ .shuttle k := by
  cases p <;> simp [Place.isAboard]

/-- R46: the checks on the robot of a SERVICE WITHDRAW. -/
def withdrawChecks (u : State) (r : RobotId) : List (Bool × Nat) :=
  [((u.robotConfig r).registered, Detail.notRegistered),
   ((u.robot r).activity != .withdrawn && !(u.robot r).place.isAboard, (u.robot r).activity.code),
   ((serviceOf u r).isNone, Detail.transfer)]

theorem serviceWithdrawRobot_elim (n : SlotIx) (r : RobotId) (u : State) : serviceWithdrawRobot n r u
    = (firstDetail (withdrawChecks u r)).elim (answer n .done 0 [] (withdrawRobot r u))
        fun d => answer n .refusedState d [] u := by
  unfold serviceWithdrawRobot
  dsimp only
  split
  next d h => rw [show firstDetail (withdrawChecks u r) = some d from h]; rfl
  next h => rw [show firstDetail (withdrawChecks u r) = none from h]; rfl

theorem serviceWithdrawRobot_eq (n : SlotIx) (r : RobotId) (u : State) : serviceWithdrawRobot n r u
    = if (u.robotConfig r).registered = false then answer n .refusedState 0x86 [] u
      else if (u.robot r).activity = .withdrawn ∨ ∃ k, (u.robot r).place = .shuttle k then
        answer n .refusedState (u.robot r).activity.code [] u
      else if (serviceOf u r).isSome = true then answer n .refusedState 0x87 [] u
      else answer n .done 0 [] (withdrawRobot r u) := by
  have hkept : ((u.robot r).activity != .withdrawn && !(u.robot r).place.isAboard) = false
      ↔ (u.robot r).activity = .withdrawn ∨ ∃ k, (u.robot r).place = .shuttle k := by
    rw [Bool.and_eq_false_iff, bne_eq_false_iff_eq, Bool.not_eq_false', ← Bool.not_eq_false, Place.isAboard_eq_false,
      not_forall]
    simp only [not_not]
  rw [serviceWithdrawRobot_elim, withdrawChecks]
  simp only [elim_firstDetail_cons, hkept, Option.isNone_eq_false_iff]
  rfl

/-- R46, R47: a SERVICE WITHDRAW is handed to its job. -/
theorem exec_withdraw (h : AtHead s n rest 2) (hs : orderWord s n 2 ≤ 55) (ha : orderWord s n 3 = 0) :
    exec .serviceWithdraw s = .next (drain (commit s (serviceWithdraw n (slotWords s n) (takenAt s n rest)))) :=
  exec_service h hs ha (by decide) serviceWithdraw

/-- A refused order gives rise to no notice. -/
theorem drain_refused (s : State) (n : SlotIx) (rest : List SlotIx) (d : Nat) :
    drain (commit s (answer n .refusedState d [] (takenAt s n rest)))
      = commit s (answer n .refusedState d [] (takenAt s n rest)) :=
  drain_nil (by rw [commit_agenda, answer_agenda]; rfl)

/-- Settles O20. -/
theorem stationsWithdrawn : Obligations.StationsWithdrawn := by
  unfold Obligations.StationsWithdrawn
  refine ⟨fun s n rest r h hr ha => ?_, fun s n rest k h hk ha => ?_⟩
  · intro u b refused
    have hexec : exec .serviceWithdraw s = .next (drain (commit s (serviceWithdrawRobot n r u))) := by
      rw [exec_withdraw h (by omega) ha, serviceWithdraw, serviceStation_robot hr]
    have hrefused : ∀ d, serviceWithdrawRobot n r u = answer n .refusedState d [] u → refused d := fun d hd => by
      show exec .serviceWithdraw s = _
      rw [hexec, hd]
      exact congrArg _ (drain_refused s n rest d)
    have hfree : b.activity ≠ .withdrawn → (∀ k, b.place ≠ .shuttle k) →
        ¬(b.activity = .withdrawn ∨ ∃ k, b.place = .shuttle k) := fun hact hp h => h.elim hact fun ⟨k, hk⟩ => hp k hk
    rw [serviceWithdrawRobot_eq] at hexec hrefused
    refine ⟨fun hreg => hrefused _ (if_pos hreg), fun hreg hb => hrefused _ ?_, fun hreg hact hp hs => hrefused _ ?_,
      fun hreg hact hp hs => hexec.trans ?_, withdrawRobot_left r u, withdrawRobot_sets r u,
      fun hq => ?_, fun k hq => dropRobotRequest_gone hq, fun hin hp => withdrawRobot_outside hin hp ?_⟩
    · rw [if_neg (by simp [hreg]), if_pos hb]
    · rw [if_neg (by simp [hreg]), if_neg (hfree hact hp), if_pos hs]
    · rw [if_neg (by simp [hreg]), if_neg (hfree hact hp), if_neg (by simp [hs])]
    · rw [dropRobotRequest, hq]
    · have hplace : ((workless r u).robot r).place = b.place := workless_place r u
      cases hb : b.place with
      | unknown => exact rowsWithout_rowless (by rw [hplace, hb]; exact nofun)
      | row row => exact rowsWithout_row (hplace.trans hb)
      | shuttle j => exact absurd hb (hp j)
  · intro u x kept
    have hexec : exec .serviceWithdraw s = .next (drain (commit s (serviceWithdrawShuttle n k u))) := by
      rw [exec_withdraw h (by omega) ha, serviceWithdraw, serviceStation_shuttle hk]
    have hkept : kept ↔ (!x.state.keepsRobot && x.carried.isNone) = false := keptInService_iff
    rw [serviceWithdrawShuttle_eq] at hexec
    obtain ⟨hstate, hqueue, hdeadline, hservice, hpoll, hcommand⟩ := withdrawShuttle_left k u
    obtain ⟨hqueued, hserved⟩ := withdrawShuttle_gone k u
    refine ⟨fun hreg => hexec.trans ?_, fun hreg hx => hexec.trans ?_, fun hreg hx => hexec.trans ?_,
      hstate, hqueue, hdeadline, hservice, hpoll, hcommand, hqueued, hserved⟩
    · rw [if_pos hreg]
      exact congrArg _ (drain_refused s n rest _)
    · rw [if_neg (by simp [hreg]), if_pos (hkept.mp hx)]
      exact congrArg _ (drain_refused s n rest _)
    · rw [if_neg (by simp [hreg]), if_neg (mt hkept.mpr hx)]

end Sys2Proof.Machine
end

section
/-!
SUPPORT. What RUN entry leaves (O17).
-/

namespace Sys2Proof.Machine

variable {s t u : State} {p : Plant} {r : RobotId} {k j : ShuttleIx}

/-! ### The steps of RUN entry (R33) -/

theorem noteLinks_eq (old s : State) : noteLinks old s = { s with board := { s.board with
    notice := s.board.notice ||| (if ∀ i, (s.entry i).state = (old.entry i).state then 0#13 else 8#13) } } := by
  have hany : (allLinks.any fun i => (s.entry i).state != (old.entry i).state) = true
      ↔ ¬∀ i, (s.entry i).state = (old.entry i).state := by
    simp [allLinks, List.any_eq_true]
  unfold noteLinks
  by_cases h : ∀ i, (s.entry i).state = (old.entry i).state
  · rw [if_neg fun hn => hany.mp hn h, if_pos h, BitVec.or_zero]
  · rw [if_pos (hany.mpr h), if_neg h]
    rfl

/-- R33: the state at the start of RUN, before the pool is marked and the storms are looked at. -/
def started (p : Plant) (u : State) : State := startRunning (noteLinks u (enterPlant p u))

/-- R199: a record in RELEASING whose hold-off has passed is FREE. -/
def Alert.expired (now : Nat) (a : Alert) : Alert :=
  if a.state = .releasing ∧ a.holdOff ≤ now then { a with state := .free, heldSlot := none } else a

theorem Alert.expired_expired (now : Nat) (a : Alert) : (a.expired now).expired now = a.expired now := by
  unfold Alert.expired
  by_cases h : a.state = .releasing ∧ a.holdOff ≤ now
  · rw [if_pos h, if_neg (by simp)]
  · rw [if_neg h, if_neg h]

/-- R199: one record whose hold-off may have passed. -/
def expireOne (n : AlertIx) (s : State) : State :=
  if (s.alert n).state = .releasing ∧ (s.alert n).holdOff ≤ s.siteSecond then
    modAlert n (fun a => { a with state := .free, heldSlot := none }) s
  else s

theorem tset_self {α : Type} {m : Nat} (v : Table m α) (i : Fin m) : tset v i (tget v i) = v :=
  table_ext fun j => by
    rw [tget_tset]
    split
    next h => rw [h]
    next => rfl

theorem expireOne_eq (n : AlertIx) (s : State) :
    expireOne n s = { s with alerts := tset s.alerts n ((s.alert n).expired s.siteSecond) } := by
  unfold expireOne Alert.expired
  split
  · rfl
  · rw [State.alert, tset_self]

theorem forEach_expireOne (xs : List AlertIx) (s : State) : forEach xs expireOne s = { s with
    alerts := tabulate fun n => if n ∈ xs then (s.alert n).expired s.siteSecond else s.alert n } := by
  induction xs generalizing s with
  | nil =>
    have halerts : (tabulate fun n => s.alert n) = s.alerts := table_ext fun n => tget_tabulate _ n
    simp only [List.not_mem_nil, if_false, halerts]
    rfl
  | cons x rest ih =>
    show forEach rest expireOne (expireOne x s) = _
    rw [ih, expireOne_eq]
    refine congrArg (fun f => { s with alerts := tabulate f }) (funext fun n => ?_)
    unfold State.alert
    dsimp only
    rw [tget_tset]
    by_cases hx : n = x
    · subst hx
      simp [Alert.expired_expired]
    · simp [hx]

theorem expirePassed_eq (s : State) :
    expirePassed s = { s with alerts := tabulate fun n => (s.alert n).expired s.siteSecond } := by
  refine (forEach_expireOne allAlerts s).trans ?_
  simp only [allAlerts, List.mem_finRange, if_true]

theorem forEach_marks_frame (xs : List CtxIx) (s : State) : forEach xs (fun c => markRewrite (.context c)) s
    = { s with mirrors := (forEach xs (fun c => markRewrite (.context c)) s).mirrors } := by
  induction xs generalizing s with
  | nil => rfl
  | cons x rest ih => exact (ih (markRewrite (.context x) s)).trans rfl

theorem markPool_frame (s : State) : markPool s = { s with mirrors := (markPool s).mirrors } := by
  unfold markPool
  rw [forEach_marks_frame]
  rfl

theorem markRewrite_pending_of {m m' : MirrorId} (h : m' = m ∨ (mirrorOf s m').pending = true) :
    (mirrorOf (markRewrite m s) m').pending = true := by
  refine (congrArg Mirror.pending (mirrorOf_replace s m m' _)).trans ?_
  split
  next => rfl
  next hne => exact h.resolve_left hne

/-- R170: the marks that re-forming the pool leaves. -/
theorem markPool_marks (s : State) : (mirrorOf (markPool s) .farm).pending = true
    ∧ ∀ c, (mirrorOf (markPool s) (.context c)).pending = true := by
  have hmarks : ∀ (xs : List CtxIx) (c : CtxIx) (s : State), c ∈ xs ∨ (mirrorOf s (.context c)).pending = true →
      (mirrorOf (forEach xs (fun c => markRewrite (.context c)) s) (.context c)).pending = true := by
    intro xs c
    induction xs with
    | nil => exact fun s h => h.resolve_left List.not_mem_nil
    | cons x rest ih =>
      refine fun s h => ih _ ?_
      rcases h with h | h
      · rcases List.mem_cons.mp h with rfl | h
        · exact .inr (markRewrite_pending_of (.inl rfl))
        · exact .inl h
      · exact .inr (markRewrite_pending_of (.inr h))
  exact ⟨markRewrite_pending_of (.inl rfl),
    fun c => markRewrite_pending_of (.inr (hmarks _ c s (.inl (List.mem_finRange c))))⟩

/-! ### The shuttles of sheltered blocks (R166) -/

/-- R166: the shuttle is sent to its shelter at RUN entry. -/
def sheltering (s : State) (k : ShuttleIx) : Bool :=
  (s.shuttleConfig k).registered && (s.shuttle k).state == .idle && blockSheltered s (s.shuttleConfig k).block

/-- R60: every shuttle to be sent to its shelter is polled, with no command pending. -/
def ShelterReady (s : State) : Prop := ∀ k, sheltering s k = true →
  (s.entry (shuttleLink k)).inPollList = true ∧ (s.entry (shuttleLink k)).command = none

/-- R153, R166: a shuttle on its way to its shelter. -/
def shelterBound (s : State) (k : ShuttleIx) : Shuttle :=
  { s.shuttle k with state := .toShelter, deadline := some (shelterDeadline k s), goAcknowledged := false }

/-- R65: the entry of a shuttle sent to its shelter. -/
def shelterEntry (s : State) (k : ShuttleIx) : LinkEntry :=
  (s.entry (shuttleLink k)).withCommand (.shuttleGo (s.shuttleConfig k).shelter .shelter) .arbiter

def shelterOne (k : ShuttleIx) (s : State) : State :=
  if (s.shuttleConfig k).registered ∧ (s.shuttle k).state = .idle ∧ blockSheltered s (shuttleBlock s k) then
    goToShelter k s
  else s

theorem shelterOne_eq (h : ShelterReady s) (k : ShuttleIx) : shelterOne k s = if sheltering s k then
    { s with
      shuttles := tset s.shuttles k (shelterBound s k)
      link := { s.link with entries := tset s.link.entries (shuttleLink k) (shelterEntry s k) } }
    else s := by
  have hcond : sheltering s k = true ↔ (s.shuttleConfig k).registered ∧ (s.shuttle k).state = .idle
      ∧ blockSheltered s (shuttleBlock s k) := by
    simp only [sheltering, Bool.and_eq_true, beq_iff_eq, and_assoc]
    rfl
  unfold shelterOne
  by_cases hk : sheltering s k = true
  · obtain ⟨hpoll, hcommand⟩ := h k hk
    rw [if_pos (hcond.mp hk), if_pos hk, goToShelter_eq, commandShuttle,
      setCommand_fresh (by exact hpoll) (by exact hcommand)]
    rfl
  · rw [if_neg (mt hcond.mpr hk), if_neg hk]

theorem shuttleLink_injective (h : shuttleLink j = shuttleLink k) : j = k :=
  Fin.ext (Nat.add_left_cancel (congrArg Fin.val h))

theorem robotLink_ne_shuttleLink (r : RobotId) (k : ShuttleIx) : robotLink r ≠ shuttleLink k := fun h => by
  have hval : r.1 = 48 + k.1 := congrArg Fin.val h
  omega

/-- From s to t these shuttles have been looked at, and those to be sent to their shelters sent. -/
structure SentToShelter (xs : List ShuttleIx) (s t : State) : Prop where
  shuttle : ∀ k, t.shuttle k = if k ∈ xs ∧ sheltering s k = true then shelterBound s k else s.shuttle k
  entry : ∀ k, t.entry (shuttleLink k)
    = if k ∈ xs ∧ sheltering s k = true then shelterEntry s k else s.entry (shuttleLink k)
  robots : ∀ r, t.entry (robotLink r) = s.entry (robotLink r)
  rest : t = { s with shuttles := t.shuttles, link := { s.link with entries := t.link.entries } }

theorem sheltering_congr (hp : t.plant = s.plant) (hr : t.rows = s.rows) (hk : t.shuttle k = s.shuttle k) :
    sheltering t k = sheltering s k := by
  unfold sheltering State.shuttleConfig
  rw [hp, hk, blockSheltered_congr (s := s) (t := t) hp (fun r => by rw [State.row, hr]; rfl)]

theorem shelterOne_sent (h : ShelterReady s) (k : ShuttleIx) : SentToShelter [k] s (shelterOne k s) := by
  rw [shelterOne_eq h]
  by_cases hk : sheltering s k = true
  · rw [if_pos hk]
    refine ⟨fun j => ?_, fun j => ?_, fun r => ?_, rfl⟩
    · refine (tget_tset _ _ _ _).trans ?_
      by_cases hj : j = k
      · subst hj; simp [hk]
      · simp [hj, State.shuttle]
    · refine (tget_tset _ _ _ _).trans ?_
      by_cases hj : j = k
      · subst hj; simp [hk]
      · simp [hj, mt shuttleLink_injective hj, State.entry]
    · exact tget_tset_ne _ (robotLink_ne_shuttleLink r k) _
  · rw [if_neg hk]
    have hn : ∀ j, ¬(j ∈ [k] ∧ sheltering s j = true) := fun j hj => hk (List.mem_singleton.mp hj.1 ▸ hj.2)
    exact ⟨fun j => (if_neg (hn j)).symm, fun j => (if_neg (hn j)).symm, fun _ => rfl, rfl⟩

theorem SentToShelter.cons {k : ShuttleIx} {xs : List ShuttleIx} {v : State} (hn : k ∉ xs) (h : SentToShelter [k] s v)
    (hx : SentToShelter xs v t) : SentToShelter (k :: xs) s t := by
  have hplant : v.plant = s.plant := by rw [h.rest]
  have hrows : v.rows = s.rows := by rw [h.rest]
  have hsecond : v.siteSecond = s.siteSecond := by rw [h.rest]
  have hother : ∀ j, j ≠ k → v.shuttle j = s.shuttle j ∧ v.entry (shuttleLink j) = s.entry (shuttleLink j) :=
    fun j hj => ⟨(h.shuttle j).trans (if_neg fun hm => hj (List.mem_singleton.mp hm.1)),
      (h.entry j).trans (if_neg fun hm => hj (List.mem_singleton.mp hm.1))⟩
  have hsame : ∀ j, j ≠ k → sheltering v j = sheltering s j := fun j hj =>
    sheltering_congr hplant hrows (hother j hj).1
  refine ⟨fun j => ?_, fun j => ?_, fun r => (hx.robots r).trans (h.robots r), hx.rest.trans (by rw [h.rest])⟩
  · rw [hx.shuttle]
    by_cases hj : j = k
    · subst hj
      rw [if_neg (fun hm => hn hm.1), h.shuttle]
      simp
    · have hbound : shelterBound v j = shelterBound s j := by
        unfold shelterBound shelterDeadline later State.shuttleConfig
        rw [(hother j hj).1, hplant, hsecond]
      rw [hsame j hj, hbound, (hother j hj).1]
      simp [hj]
  · rw [hx.entry]
    by_cases hj : j = k
    · subst hj
      rw [if_neg (fun hm => hn hm.1), h.entry]
      simp
    · have hentry : shelterEntry v j = shelterEntry s j := by
        unfold shelterEntry State.shuttleConfig
        rw [(hother j hj).2, hplant]
      rw [hsame j hj, hentry, (hother j hj).2]
      simp [hj]

theorem ShelterReady.step (h : ShelterReady s) (hk : SentToShelter [k] s t) : ShelterReady t := by
  have hplant : t.plant = s.plant := by rw [hk.rest]
  have hrows : t.rows = s.rows := by rw [hk.rest]
  intro j hj
  by_cases hs : j ∈ [k] ∧ sheltering s j = true
  · have hstate : (t.shuttle j).state = .toShelter := by rw [hk.shuttle, if_pos hs]; rfl
    simp [sheltering, hstate] at hj
  · rw [sheltering_congr hplant hrows ((hk.shuttle j).trans (if_neg hs))] at hj
    rw [hk.entry, if_neg hs]
    exact h j hj

theorem forEach_shelterOne (xs : List ShuttleIx) (hx : xs.Nodup) (h : ShelterReady s) :
    SentToShelter xs s (forEach xs shelterOne s) := by
  induction xs generalizing s with
  | nil => exact ⟨fun k => (if_neg (by simp)).symm, fun k => (if_neg (by simp)).symm, fun _ => rfl, rfl⟩
  | cons k rest ih =>
    obtain ⟨hk, hrest⟩ := List.nodup_cons.mp hx
    have hone := shelterOne_sent h k
    exact hone.cons hk (ih hrest (h.step hone))

/-- R166. -/
theorem shelterIdle_sent (h : ShelterReady s) : SentToShelter allShuttles s (shelterIdle s) :=
  forEach_shelterOne allShuttles (List.nodup_finRange 8) h

/-! ### The state that RUN entry leaves -/

theorem shelteredBy_congr (ha : t.alerts = s.alerts) (hp : t.plant = s.plant) (r : RowId) :
    shelteredBy t r = shelteredBy s r := by
  unfold shelteredBy State.alert State.site
  rw [ha, hp]

theorem watchedBy_congr (ha : t.alerts = s.alerts) (hp : t.plant = s.plant) (r : RowId) :
    watchedBy t r = watchedBy s r := by
  unfold watchedBy State.alert State.site
  rw [ha, hp]

/-- R33: the alert records, the row flags and the STORM notice that follow the start of RUN. -/
def flagged (before : StormSummary) (v : State) : State := noteStorm before (setFlags (expirePassed v))

theorem enterRun_eq (p : Plant) (u : State) :
    enterRun p u = shelterIdle (flagged (stormSummary u) (markPool (started p u))) := rfl

section
variable (before : StormSummary) (v : State)

theorem flagged_eq : flagged before v = { v with
    alerts := tabulate fun n => (v.alert n).expired v.siteSecond
    rows := (flagged before v).rows
    board := { v.board with notice := (flagged before v).board.notice } } := by
  unfold flagged
  rw [noteStorm_eq, expirePassed_eq]
  rfl

theorem flagged_row (r : RowId) : (flagged before v).row r = { v.row r with
    sheltered := shelteredBy (flagged before v) r, watch := watchedBy (flagged before v) r } := by
  have hrow : (expirePassed v).rows = v.rows := by rw [expirePassed_eq]
  unfold flagged
  generalize expirePassed v = x at hrow
  rw [noteStorm_eq]
  refine (tget_tabulate _ r).trans ?_
  rw [hrow]
  rfl

theorem flagged_notice : (flagged before v).board.notice
    = v.board.notice ||| (if stormSummary (flagged before v) = before then 0#13 else 16#13) := by
  have hsum : stormSummary (flagged before v) = stormSummary (setFlags (expirePassed v)) :=
    stormSummary_congr (by rw [flagged, noteStorm_eq])
  rw [hsum, flagged, noteStorm_eq, expirePassed_eq]
  rfl

end

/-- R33 step 7: what starting RUN sets besides the plant's masters. -/
theorem started_eq (p : Plant) (u : State) : started p u = { enterPlant p u with
    modes := { u.modes with mode := .run, refusal := .none, refusalIndex := 0, checkRead := [] }
    board := { u.board with
      silent := false
      silenceStart := if p.params.silenceLimit = 0 then none else some u.siteSecond
      notice := u.board.notice
        ||| (if ∀ i, ((enterPlant p u).entry i).state = (u.entry i).state then 0#13 else 8#13) }
    scanner := { u.scanner with
      scan := none
      pendingMask := 0
      periodicDue := if p.params.scanInterval = 0 then none else some (later u (60 * p.params.scanInterval)) }
    anemometers := tfill 4 { Anemometer.afterReset with windowDue := some (later u 3) }
    round := { u.round with state := .idle, held := false, candidates := [] } } := by
  unfold started
  rw [noteLinks_eq]
  rfl

theorem enterPlant_entry (p : Plant) (u : State) (i : LinkId) :
    (enterPlant p u).entry i = (u.entry i).entered (linkStanding p u i).1 (linkStanding p u i).2 := tget_tabulate _ i

theorem linkStanding_robotLink (p : Plant) (u : State) (r : RobotId) : linkStanding p u (robotLink r)
    = ((tget p.robots r).registered, (u.robot r).activity == .withdrawn) := by
  unfold linkStanding
  exact dif_pos r.2

theorem linkStanding_shuttleLink (p : Plant) (u : State) (k : ShuttleIx) : linkStanding p u (shuttleLink k)
    = ((tget p.shuttles k).registered, (u.shuttle k).state == .withdrawn) := by
  have hge : ¬(shuttleLink k).1 < 48 := Nat.not_lt.mpr (Nat.le_add_right 48 k.1)
  have hix : (⟨(shuttleLink k).1 - 48, by have := (shuttleLink k).2; omega⟩ : ShuttleIx) = k :=
    Fin.ext (Nat.add_sub_cancel_left 48 k.1)
  unfold linkStanding
  rw [dif_neg hge]
  dsimp only
  rw [hix]

theorem robotLink_or_shuttleLink (i : LinkId) : (∃ r, i = robotLink r) ∨ ∃ k, i = shuttleLink k := by
  by_cases hi : i.1 < 48
  · exact .inl ⟨⟨i.1, hi⟩, rfl⟩
  · exact .inr ⟨⟨i.1 - 48, by omega⟩, Fin.ext (Nat.add_sub_cancel' (Nat.not_lt.mp hi)).symm⟩

/-- The states that RUN entry goes through before the shuttles are sent to their shelters: s with its units started,
v with the pool marked, w with the alert records and the flags brought up to date. -/
structure Entered (p : Plant) (u s v w : State) : Prop where
  started : s = started p u
  marks : v = { s with mirrors := v.mirrors }
  farmMark : (mirrorOf v .farm).pending = true
  contextMarks : ∀ c, (mirrorOf v (.context c)).pending = true
  flags : w = flagged (stormSummary u) v

namespace Entered

variable {v w : State}

theorem frame (h : Entered p u s v w) : w = { s with
    mirrors := v.mirrors
    alerts := tabulate fun n => (s.alert n).expired s.siteSecond
    rows := w.rows
    board := { s.board with notice := w.board.notice } } := by
  have hw := flagged_eq (stormSummary u) v
  have hv := h.marks
  rw [← h.flags] at hw
  generalize w.rows = rows, w.board.notice = notice at hw ⊢
  generalize v.mirrors = mirrors at hv ⊢
  rw [hw, hv]
  rfl

theorem plant (h : Entered p u s v w) : w.plant = p := by
  rw [h.frame, h.started, started_eq]
  rfl

theorem siteSecond (h : Entered p u s v w) : w.siteSecond = u.siteSecond := by
  rw [h.frame, h.started, started_eq]
  rfl

theorem robot (h : Entered p u s v w) (r : RobotId) : w.robot r = (u.robot r).atRunEntry (tget p.robots r) := by
  rw [h.frame, h.started, started_eq]
  exact tget_tabulate _ r

theorem shuttle (h : Entered p u s v w) (k : ShuttleIx) :
    w.shuttle k = (u.shuttle k).atRunEntry (tget p.shuttles k) := by
  rw [h.frame, h.started, started_eq]
  exact tget_tabulate _ k

theorem station (h : Entered p u s v w) (n : StationIx) :
    w.station n = (u.station n).atRunEntry (tget p.stations n).used := by
  rw [h.frame, h.started, started_eq]
  exact tget_tabulate _ n

theorem alert (h : Entered p u s v w) (n : AlertIx) :
    w.alert n = (alertAtRunEntry p.params n (u.alert n)).expired u.siteSecond := by
  rw [h.frame, h.started, started_eq]
  refine (tget_tabulate _ n).trans (congrArg _ ?_)
  exact tget_tabulate _ n

theorem entry (h : Entered p u s v w) (i : LinkId) :
    w.entry i = (u.entry i).entered (linkStanding p u i).1 (linkStanding p u i).2 := by
  rw [h.frame, h.started, started_eq]
  exact tget_tabulate _ i

theorem row (h : Entered p u s v w) (r : RowId) : w.row r = { (u.row r).atRunEntry (tget p.site r) with
    sheltered := shelteredBy w r, watch := watchedBy w r } := by
  have hv : v.row r = (u.row r).atRunEntry (tget p.site r) := by
    rw [h.marks, h.started, started_eq]
    exact tget_tabulate _ r
  rw [← hv]
  have hw := flagged_row (stormSummary u) v r
  rwa [← h.flags] at hw

/-- A robot's entry, R60. -/
theorem entry_robotLink (h : Entered p u s v w) (r : RobotId) : w.entry (robotLink r) = (u.entry (robotLink r)).entered
    (tget p.robots r).registered ((u.robot r).activity == .withdrawn) := by
  rw [h.entry, linkStanding_robotLink]

/-- A shuttle's entry, R60. -/
theorem entry_shuttleLink (h : Entered p u s v w) (k : ShuttleIx) :
    w.entry (shuttleLink k) = (u.entry (shuttleLink k)).entered
      (tget p.shuttles k).registered ((u.shuttle k).state == .withdrawn) := by
  rw [h.entry, linkStanding_shuttleLink]

/-- R166: the shuttles that are sent to their shelters. -/
theorem sheltering_iff (h : Entered p u s v w) (k : ShuttleIx) : sheltering w k = true ↔
    (tget p.shuttles k).registered = true ∧ (u.shuttle k).state ≠ .withdrawn ∧ (u.shuttle k).state ≠ .fault
      ∧ blockSheltered w (tget p.shuttles k).block = true := by
  have hidle : (w.shuttle k).state = .idle
      ↔ ¬((tget p.shuttles k).registered ∧ ((u.shuttle k).state = .withdrawn ∨ (u.shuttle k).state = .fault)) := by
    rw [h.shuttle]
    unfold Shuttle.atRunEntry
    split
    next hk =>
      refine iff_of_false (fun hi => ?_) (not_not.mpr hk)
      rcases hk.2 with hs | hs <;> exact nomatch hs.symm.trans hi
    next hk => exact iff_of_true rfl hk
  unfold sheltering State.shuttleConfig
  rw [h.plant, Bool.and_eq_true, Bool.and_eq_true, beq_iff_eq, hidle]
  tauto

theorem shelterReady (h : Entered p u s v w) : ShelterReady w := by
  intro k hk
  obtain ⟨hreg, hwithdrawn, -, -⟩ := (h.sheltering_iff k).mp hk
  rw [h.entry_shuttleLink, hreg, beq_false_of_ne hwithdrawn]
  exact ⟨rfl, rfl⟩

end Entered

/-- R33: RUN entry, step after step. -/
theorem enterRun_entered (p : Plant) (u : State) :
    ∃ s v w, Entered p u s v w ∧ SentToShelter allShuttles w (enterRun p u) := by
  obtain ⟨hfarm, hcontexts⟩ := markPool_marks (Machine.started p u)
  have hentered : Entered p u _ _ _ := ⟨rfl, markPool_frame _, hfarm, hcontexts, rfl⟩
  rw [enterRun_eq]
  exact ⟨_, _, _, hentered, shelterIdle_sent hentered.shelterReady⟩

section

variable {v w : State}

theorem mem_allShuttles (k : ShuttleIx) : k ∈ allShuttles := List.mem_finRange k

/-- R166: the shuttles sent to their shelters leave every row's flags as they are. -/
theorem SentToShelter.blockSheltered (ht : SentToShelter allShuttles w t) (b : Nat) :
    blockSheltered t b = blockSheltered w b :=
  blockSheltered_congr (s := w) (t := t) (by rw [ht.rest]) (fun r => by rw [State.row, ht.rest]; rfl) b

/-- R65: sending a shuttle to its shelter sets a command, and its error counter stands. -/
theorem SentToShelter.errorCount (ht : SentToShelter allShuttles w t) (i : LinkId) :
    (t.entry i).errorCount = (w.entry i).errorCount := by
  rcases robotLink_or_shuttleLink i with ⟨r, rfl⟩ | ⟨k, rfl⟩
  · rw [ht.robots]
  · rw [ht.entry]
    split
    next =>
      unfold shelterEntry LinkEntry.withCommand
      split <;> rfl
    next => rfl

theorem SentToShelter.shuttle_stays (ht : SentToShelter allShuttles w t) (hk : sheltering w k ≠ true) :
    t.shuttle k = w.shuttle k ∧ t.entry (shuttleLink k) = w.entry (shuttleLink k) :=
  ⟨(ht.shuttle k).trans (if_neg fun hs => hk hs.2), (ht.entry k).trans (if_neg fun hs => hk hs.2)⟩

theorem SentToShelter.shuttle_goes (ht : SentToShelter allShuttles w t) (hk : sheltering w k = true) :
    t.shuttle k = shelterBound w k ∧ t.entry (shuttleLink k) = shelterEntry w k :=
  ⟨(ht.shuttle k).trans (if_pos ⟨mem_allShuttles k, hk⟩), (ht.entry k).trans (if_pos ⟨mem_allShuttles k, hk⟩)⟩

namespace Entered

/-- What RUN entry sets, up to the mirrors, the rows, the notices, the shuttles and the FieldLink entries. -/
theorem frame_after (h : Entered p u s v w) (ht : SentToShelter allShuttles w t) : t = { enterPlant p u with
    mirrors := v.mirrors
    alerts := t.alerts
    rows := t.rows
    shuttles := t.shuttles
    link := { (enterPlant p u).link with entries := t.link.entries }
    modes := { u.modes with mode := .run, refusal := .none, refusalIndex := 0, checkRead := [] }
    board := { u.board with
      silent := false
      silenceStart := if p.params.silenceLimit = 0 then none else some u.siteSecond
      notice := t.board.notice }
    scanner := { u.scanner with
      scan := none
      pendingMask := 0
      periodicDue := if p.params.scanInterval = 0 then none else some (later u (60 * p.params.scanInterval)) }
    anemometers := tfill 4 { Anemometer.afterReset with windowDue := some (later u 3) }
    round := { u.round with state := .idle, held := false, candidates := [] } } := by
  have halerts : t.alerts = w.alerts := by rw [ht.rest]
  have hrows : t.rows = w.rows := by rw [ht.rest]
  have hnotice : t.board.notice = w.board.notice := by rw [ht.rest]
  have hw := h.frame
  have hrest := ht.rest
  rw [h.started, started_eq] at hw
  rw [halerts, hrows, hnotice]
  generalize t.shuttles = shuttles, t.link.entries = entries at hrest ⊢
  generalize w.rows = rows, w.board.notice = notice, v.mirrors = mirrors at hw ⊢
  rw [hrest, hw]

/-- R36. -/
theorem row_after (h : Entered p u s v w) (ht : SentToShelter allShuttles w t) (r : RowId) : t.row r = { u.row r with
    enabled := (tget p.site r).present && (tget p.site r).enabledAtStart, contested := false, occupant := none
    reserved := none, sheltered := shelteredBy t r, watch := watchedBy t r } := by
  have hrow : t.row r = w.row r := by rw [State.row, ht.rest]; rfl
  have hplant : t.plant = w.plant := by rw [ht.rest]
  have halerts : t.alerts = w.alerts := by rw [ht.rest]
  rw [hrow, h.row, shelteredBy_congr halerts hplant, watchedBy_congr halerts hplant]
  rfl

/-- R33 step 4, R167. -/
theorem shuttle_after (h : Entered p u s v w) (ht : SentToShelter allShuttles w t) (k : ShuttleIx)
    (hk : (tget p.shuttles k).registered = false ∨ (u.shuttle k).state = .withdrawn ∨ (u.shuttle k).state = .fault
      ∨ blockSheltered t (tget p.shuttles k).block = false) :
    t.shuttle k = { Shuttle.afterReset with
      state :=
        if (tget p.shuttles k).registered ∧ ((u.shuttle k).state = .withdrawn ∨ (u.shuttle k).state = .fault)
        then (u.shuttle k).state else .idle } := by
  have hs : sheltering w k ≠ true := by
    rw [Ne, h.sheltering_iff, ← ht.blockSheltered]
    rintro ⟨hreg, hwithdrawn, hfault, hblock⟩
    simp [hreg, hwithdrawn, hfault, hblock] at hk
  rw [(ht.shuttle_stays hs).1, h.shuttle]
  unfold Shuttle.atRunEntry
  split <;> rfl

/-- R185, R16, R70. -/
theorem notice_after (h : Entered p u s v w) (ht : SentToShelter allShuttles w t) : t.board.notice
    = u.board.notice ||| (if stormSummary t = stormSummary u then 0#13 else 16#13)
      ||| (if ∀ i, linkStateOf (t.entry i).errorCount = linkStateOf (u.entry i).errorCount then 0#13 else 8#13) := by
  have hboard : t.board = w.board := by rw [ht.rest]
  have hsum : stormSummary t = stormSummary w := stormSummary_congr (by rw [ht.rest])
  have hlink : ∀ i, linkStateOf (t.entry i).errorCount = ((enterPlant p u).entry i).state := fun i => by
    rw [ht.errorCount, h.entry, enterPlant_entry]
    rfl
  have hv : v.board.notice = u.board.notice
      ||| (if ∀ i, ((enterPlant p u).entry i).state = (u.entry i).state then 0#13 else 8#13) := by
    rw [h.marks, h.started, started_eq]
  have hw := flagged_notice (stormSummary u) v
  rw [← h.flags, hv] at hw
  simp only [hboard, hsum, hlink]
  have hswap : ∀ a b c : BitVec 13, a ||| b ||| c = a ||| c ||| b := fun a b c => by
    rw [BitVec.or_assoc, BitVec.or_comm b, ← BitVec.or_assoc]
  rw [hw]
  exact hswap _ _ _

/-- R60: a robot's entry. -/
theorem robotLink_after (h : Entered p u s v w) (ht : SentToShelter allShuttles w t) (r : RobotId) :
    t.entry (robotLink r) = (u.entry (robotLink r)).entered
      (tget p.robots r).registered ((u.robot r).activity == .withdrawn) :=
  (ht.robots r).trans (h.entry_robotLink r)

/-- R166: a shuttle sent to its shelter. -/
theorem shelterBound_after (h : Entered p u s v w) (hs : sheltering w k = true) : shelterBound w k =
    { Shuttle.afterReset with
      state := .toShelter
      deadline := some (later u (driveTimeout 4095 (tget p.shuttles k).speed)) } := by
  obtain ⟨-, hwithdrawn, hfault, -⟩ := (h.sheltering_iff k).mp hs
  have hx : w.shuttle k = Shuttle.afterReset := by
    rw [h.shuttle]
    exact if_neg fun hk => hk.2.elim hwithdrawn hfault
  unfold shelterBound shelterDeadline later State.shuttleConfig
  rw [hx, h.plant, h.siteSecond]
  rfl

theorem shelterEntry_after (h : Entered p u s v w) (hs : sheltering w k = true) : shelterEntry w k =
    { (u.entry (shuttleLink k)).atRunEntry with
      command := some { cmd := .shuttleGo (tget p.shuttles k).shelter .shelter, owner := .arbiter, sequence := none
                        sends := 0 } } := by
  obtain ⟨hreg, hwithdrawn, -, -⟩ := (h.sheltering_iff k).mp hs
  unfold shelterEntry State.shuttleConfig
  rw [h.entry_shuttleLink, h.plant, hreg, beq_false_of_ne hwithdrawn]
  rfl

end Entered

end

/-- Settles O17. RUN entry is cut into the start of the units, the marking of the pool, the flags and the shuttles of
sheltered blocks (`enterRun_entered`); what a later step leaves alone is read off the earlier one. -/
theorem runEntryMasters : Obligations.RunEntryMasters := by
  unfold Obligations.RunEntryMasters
  refine ⟨fun p u => ?_, fun p u => ?_⟩
  all_goals
    intro t
    obtain ⟨s, v, w, h, (ht : SentToShelter allShuttles w t)⟩ := enterRun_entered p u
    clear_value t
  · have hframe := h.frame_after ht
    have hmirrors : t.mirrors = v.mirrors := by rw [hframe]
    have hrobot : ∀ r, t.robot r = (u.robot r).atRunEntry (tget p.robots r) := fun r =>
      (show t.robot r = w.robot r by rw [State.robot, ht.rest]; rfl).trans (h.robot r)
    have hstation : ∀ n, t.station n = (u.station n).atRunEntry (tget p.stations n).used := fun n =>
      (show t.station n = w.station n by rw [State.station, ht.rest]; rfl).trans (h.station n)
    have halert : ∀ n, t.alert n = (alertAtRunEntry p.params n (u.alert n)).expired u.siteSecond := fun n =>
      (show t.alert n = w.alert n by rw [State.alert, ht.rest]; rfl).trans (h.alert n)
    refine ⟨congrArg State.plant hframe, congrArg State.modes hframe, h.row_after ht, hrobot, h.shuttle_after ht,
      fun n => ?station, (congrArg State.pool hframe).trans rfl, (congrArg State.farm hframe).trans rfl, ?farmMark,
      fun c => ?contextMark, congrArg State.round hframe, congrArg (·.scanner.scan) hframe,
      congrArg (·.scanner.pendingMask) hframe, congrArg (·.scanner.periodicDue) hframe, fun a => ?anemometer,
      congrArg (·.board.silent) hframe, congrArg (·.board.silenceStart) hframe, h.notice_after ht, halert,
      (congrArg State.memory hframe).trans rfl, (congrArg State.siteSecond hframe).trans rfl⟩
    case farmMark => rw [mirrorOf_congr hmirrors]; exact h.farmMark
    case contextMark => rw [mirrorOf_congr hmirrors]; exact h.contextMarks c
    case station =>
      rw [hstation]
      unfold Station.atRunEntry
      dsimp only
      cases (u.station n).pulseEnd <;> rfl
    case anemometer => exact (congrArg (fun x => tget x.anemometers a) hframe).trans (tget_tfill _ a)
  · have hstays : ∀ k, sheltering w k ≠ true → t.entry (shuttleLink k) = (u.entry (shuttleLink k)).entered
        (tget p.shuttles k).registered ((u.shuttle k).state == .withdrawn) := fun k hk =>
      (ht.shuttle_stays hk).2.trans (h.entry_shuttleLink k)
    have hsheltering : ∀ k, sheltering w k = true ↔ (tget p.shuttles k).registered = true
        ∧ (u.shuttle k).state ≠ .withdrawn ∧ (u.shuttle k).state ≠ .fault
        ∧ blockSheltered t (tget p.shuttles k).block = true := fun k => by
      rw [h.sheltering_iff, ht.blockSheltered]
    have hframe := h.frame_after ht
    refine ⟨congrArg (·.link.urgent) hframe, congrArg (·.link.heldBroadcast) hframe, congrArg (·.link.cursor) hframe,
      congrArg (·.link.cycle) hframe, congrArg (·.link.phase) hframe, congrArg (·.link.transmitter) hframe,
      (congrArg (·.link.broadcastCount) hframe).trans rfl, (congrArg State.agenda hframe).trans, fun r => ?robot,
      fun k => ⟨fun hreg => ?unregistered, fun hreg hwithdrawn => ?withdrawn, fun hreg hwithdrawn hrest => ?polled,
        fun hreg hwithdrawn hfault hblock => ?sheltered⟩⟩
    case robot =>
      rw [h.robotLink_after ht]
      cases (tget p.robots r).registered with
      | false => rfl
      | true =>
        by_cases hwithdrawn : (u.robot r).activity = .withdrawn
        · rw [if_pos rfl, if_pos hwithdrawn, hwithdrawn]
          rfl
        · rw [if_pos rfl, if_neg hwithdrawn, beq_false_of_ne hwithdrawn]
          rfl
    case unregistered =>
      rw [hstays k (fun hs => nomatch hreg.symm.trans ((hsheltering k).mp hs).1), hreg]
      rfl
    case withdrawn =>
      rw [hstays k (fun hs => ((hsheltering k).mp hs).2.1 hwithdrawn), hreg, hwithdrawn]
      rfl
    case polled =>
      have hs : sheltering w k ≠ true := fun hs => by
        obtain ⟨-, -, hfault, hblock⟩ := (hsheltering k).mp hs
        exact hrest.elim hfault fun hclear => nomatch hclear.symm.trans hblock
      rw [hstays k hs, hreg, beq_false_of_ne hwithdrawn]
      rfl
    case sheltered =>
      have hs : sheltering w k = true := (hsheltering k).mpr ⟨hreg, hwithdrawn, hfault, hblock⟩
      obtain ⟨hshuttle, hentry⟩ := ht.shuttle_goes hs
      exact ⟨hshuttle.trans (h.shelterBound_after hs), hentry.trans (h.shelterEntry_after hs)⟩

end Sys2Proof.Machine
end

section
/-!
One step and the queue of commands (O1), and the events of the FieldLink line (O32).
-/

namespace Sys2Proof.Machine

variable {s u v : State} {t : Turn} {i : LinkId}

/-! ### One step -/

theorem step_idle (h : s.pending = []) : step s = .next (idleTick s) := by
  unfold step
  rw [h]

theorem idleTick_held (h : s.resetHeld = true) : idleTick s = s := if_pos h

theorem idleTick_sends {c : TxChar} (h : s.resetHeld = false) (hc : s.link.transmitter.holding = some c) : idleTick s
    = { s with link := { s.link with transmitter := s.link.transmitter.advance } } := by
  simp [idleTick, h, hc]

theorem idleTick_waits (h : s.resetHeld = false) (hc : s.link.transmitter.holding = none) : idleTick s
    = { s with siteSecond := (s.siteSecond + 1) % 4294967296 } := by
  simp [idleTick, h, hc]

/-- Settles O1: the step by the queue, and the idle step by what waits behind the character being sent. -/
theorem stepTakesFront : Obligations.StepTakesFront := by
  refine ⟨fun _ _ _ => rfl, fun s hp => ⟨fun hr => ?held, fun hr c hc => ?sends, fun hr hc => ?waits⟩⟩
  case held => rw [step_idle hp, idleTick_held hr]
  case sends => rw [step_idle hp, idleTick_sends hr hc, Transmitter.advance, hc]
  case waits => rw [step_idle hp, idleTick_waits hr hc]

/-! ### The frame on the line (R53, R61, R77) -/

theorem leadTurn_of_phase (h : s.link.phase = .keyLead t) : leadTurn s = some t := by unfold leadTurn; rw [h]

theorem sentTurn_of_phase (h : s.link.phase = .sending t) : sentTurn s = some t := by unfold sentTurn; rw [h]

theorem openTurn_of_phase (h : s.link.phase = .replyWindow t) : openTurn s = some t := by unfold openTurn; rw [h]

theorem beginSending_eq (h : s.link.phase = .keyLead t) : beginSending s
    = { s with link := { s.link with phase := .sending t, transmitter := .load t.frame } } := by
  unfold beginSending
  rw [leadTurn_of_phase h]
  rfl

theorem dropKey_setup (h : s.link.phase = .sending t) (hm : s.modes.mode = .run ∧ s.modes.setupWaiting = true) :
    dropKey s = leaveRun s := by
  unfold dropKey
  rw [sentTurn_of_phase h]
  exact if_pos hm

theorem dropKey_eq (h : s.link.phase = .sending t) (hm : ¬(s.modes.mode = .run ∧ s.modes.setupWaiting = true)) :
    dropKey s = { s with link := { s.link with
      phase := if t.station = none then .broadcastGap else .replyWindow t, transmitter := .empty } } := by
  unfold dropKey
  rw [sentTurn_of_phase h]
  refine (if_neg hm).trans ?_
  cases t.station <;> rfl

/-- R53: after n stop bits the shift character is the n-th of the frame, the holding character the one behind it. -/
theorem advance_load (frame : List TxChar) (n : Nat) : Transmitter.advance^[n] (Transmitter.load frame)
    = { shift := frame[n]?, holding := frame[n + 1]?, rest := frame.drop (n + 2) } := by
  induction n with
  | zero => rfl
  | succ n ih => rw [Function.iterate_succ_apply', ih, Transmitter.advance, List.head?_drop, List.tail_drop]

/-! ### The ends of a turn (R59, R61, R74) -/

/-- R59, R61: the line is idle again, before the reply is acted on. -/
def lineIdle (s : State) : State := { s with agenda := [], link := { s.link with phase := .idle } }

/-- R74: the state with the noise of a reply counted. -/
theorem countNoise_eq (i : LinkId) (noisy : Bool) (s : State) : countNoise i noisy s = if noisy = true then
      { s with link := { s.link with
        entries := tset s.link.entries i { s.entry i with noise := min 255 ((s.entry i).noise + 1) } } }
    else s := rfl

theorem finishTurn_polled (payload : Turn → Option (List Byte)) (noisy : Bool) (h : s.link.phase = .replyWindow t)
    (hi : t.station = some i) (hp : (s.entry i).inPollList = true) :
    finishTurn payload noisy { s with agenda := [] } = match payload t with
      | some p => goodReply i t p (countNoise i noisy (lineIdle s))
      | none => badTurn i t (countNoise i noisy (lineIdle s)) := by
  unfold finishTurn
  rw [openTurn_of_phase (s := { s with agenda := [] }) h]
  unfold endTurn
  simp only [hi]
  exact if_pos hp

/-- Assumption 25: the reply of a station that has left the poll list is dropped. -/
theorem finishTurn_unpolled (payload : Turn → Option (List Byte)) (noisy : Bool) (h : s.link.phase = .replyWindow t)
    (hi : t.station = some i) (hp : (s.entry i).inPollList = false) :
    finishTurn payload noisy { s with agenda := [] } = lineIdle s := by
  unfold finishTurn
  rw [openTurn_of_phase (s := { s with agenda := [] }) h]
  unfold endTurn
  simp only [hi]
  exact if_neg (ne_true_of_eq_false hp)

theorem openTurn_due (h : s.link.phase = .replyWindow t) : (openTurn s).isSome = true := by
  rw [openTurn_of_phase h]
  rfl

theorem replyDue_of_received {cs : List LineChar} (h : s.link.phase = .replyWindow t) (hc : received cs ≠ []) :
    replyDue cs s = true := by
  simp [replyDue, openTurn_due h, hc]

/-- An end of a turn whose station has left the poll list. -/
theorem turnEnd_unpolled {due : State → Bool} (payload : Turn → Option (List Byte)) (noisy : Bool)
    (hr : s.resetHeld = false) (hd : due s = true) (h : s.link.phase = .replyWindow t)
    (hi : t.station = some i) (hp : (s.entry i).inPollList = false) :
    actWhen due (finishTurn payload noisy) s = .next (commit s (lineIdle s)) := by
  have hend := finishTurn_unpolled payload noisy h hi hp
  rw [actWhen_quiet _ hr hd (by rw [hend]; rfl), hend]

/-- An end of a turn without a good reply. -/
theorem turnEnd_bad {due : State → Bool} (payload : Turn → Option (List Byte)) (noisy : Bool)
    (hr : s.resetHeld = false) (hd : due s = true) (h : s.link.phase = .replyWindow t)
    (hi : t.station = some i) (hp : (s.entry i).inPollList = true) (hb : payload t = none) :
    actWhen due (finishTurn payload noisy) s
      = .next (drain (commit s (badTurn i t (countNoise i noisy (lineIdle s))))) := by
  rw [actWhen_eq _ hr hd, finishTurn_polled payload noisy h hi hp, hb]

/-- An end of a turn with a good reply. -/
theorem turnEnd_good {due : State → Bool} (payload : Turn → Option (List Byte)) (noisy : Bool)
    (hr : s.resetHeld = false) (hd : due s = true) (h : s.link.phase = .replyWindow t)
    (hi : t.station = some i) (hp : (s.entry i).inPollList = true) {p : List Byte} (hb : payload t = some p) :
    actWhen due (finishTurn payload noisy) s
      = .next (drain (commit s (goodReply i t p (countNoise i noisy (lineIdle s))))) := by
  rw [actWhen_eq _ hr hd, finishTurn_polled payload noisy h hi hp, hb]

theorem replyPayload_of_station (cs : List LineChar) (hi : t.station = some i) :
    replyPayload cs t = goodPayload i t.sequence (received cs) := by
  unfold replyPayload
  rw [hi]

theorem exec_keyLeadExpiry (s : State) :
    exec .keyLeadExpiry s = actWhen (fun s => (leadTurn s).isSome) beginSending s := rfl

theorem exec_frameSent (s : State) : exec .frameSent s = actWhen (fun s => (sentTurn s).isSome) dropKey s := rfl

theorem exec_replyWindowExpiry (s : State) : exec .replyWindowExpiry s
    = actWhen (fun s => (openTurn s).isSome) (finishTurn (fun _ => none) false) s := rfl

theorem exec_replyFrameEnd (cs : List LineChar) (s : State) : exec (.replyFrameEnd cs) s
    = actWhen (replyDue cs) (finishTurn (replyPayload cs) (replyNoisy cs)) s := rfl

theorem exec_replyLengthLimit (cs : List LineChar) (s : State) : exec (.replyLengthLimit cs) s
    = actWhen (replyDue cs) (finishTurn (fun _ => none) (replyNoisy cs)) s := rfl

theorem exec_broadcastTurnEnd (s : State) :
    exec .broadcastTurnEnd s = actWhen (fun s => s.link.phase == .broadcastGap) endBroadcast s := rfl

/-- Settles O32: each event of the line, by the phase in which it comes; the characters by induction on the stop
bits. -/
theorem lineEvents : Obligations.LineEvents := by
  refine ⟨fun s t hr => ⟨fun h => ?lead, fun h hm => ?sent, fun h hm hw => ?setup, fun h => ?gap⟩,
    fun frame n => congrArg Transmitter.shift (advance_load frame n),
    fun s t i cs hr h hi => ⟨fun hp => ?missed, fun hp => ?missedUnpolled,
      fun hc hp => ⟨?limit, fun p hg => ?good, fun hg => ?corrupt⟩, fun hc hp => ⟨?limitUnpolled, ?endUnpolled⟩⟩⟩
  case lead =>
    have hq := beginSending_eq (s := { s with agenda := [] }) h
    rw [exec_keyLeadExpiry, actWhen_quiet _ hr (by rw [leadTurn_of_phase h]; rfl) (by rw [hq]), hq]
    rfl
  case sent =>
    have hq := dropKey_eq (s := { s with agenda := [] }) h hm
    rw [exec_frameSent, actWhen_quiet _ hr (by rw [sentTurn_of_phase h]; rfl) (by rw [hq]), hq]
    rfl
  case setup =>
    have hq := dropKey_setup (s := { s with agenda := [] }) h ⟨hm, hw⟩
    rw [exec_frameSent, actWhen_quiet _ hr (by rw [sentTurn_of_phase h]; rfl) (by rw [hq, leaveRun_agenda]), hq]
  case gap =>
    rw [exec_broadcastTurnEnd, actWhen_quiet _ hr (by rw [h]; rfl) rfl]
    rfl
  case missed =>
    rw [exec_replyWindowExpiry]
    exact turnEnd_bad _ false hr (openTurn_due h) h hi hp rfl
  case missedUnpolled =>
    rw [exec_replyWindowExpiry]
    exact turnEnd_unpolled _ false hr (openTurn_due h) h hi hp
  case limit => exact turnEnd_bad _ _ hr (replyDue_of_received h hc) h hi hp rfl
  case good => exact turnEnd_good _ _ hr (replyDue_of_received h hc) h hi hp ((replyPayload_of_station cs hi).trans hg)
  case corrupt =>
    exact turnEnd_bad _ _ hr (replyDue_of_received h hc) h hi hp ((replyPayload_of_station cs hi).trans hg)
  case limitUnpolled => exact turnEnd_unpolled _ _ hr (replyDue_of_received h hc) h hi hp
  case endUnpolled => exact turnEnd_unpolled _ _ hr (replyDue_of_received h hc) h hi hp

end Sys2Proof.Machine
end

section
/-!
A STATUS frame on the line and the reply that is received of it (O35).
-/

namespace Sys2Proof.Machine

variable {i : LinkId} {q : Byte} {payload : List Byte}

/-! ### Clean characters (R51, R52) -/

/-- R52: a bit whose three samples agree. -/
def cleanSample (b : Bool) : Sample := (b, b, b)

/-- A character on the line, every bit of it clean. -/
def cleanChar (c : TxChar) : LineChar := { samples := c.bits.map cleanSample }

/-- What is received of a clean character. -/
def TxChar.received (c : TxChar) : RxChar := { marker := c.marker, value := c.value, framingError := false }

theorem majority_cleanSample (b : Bool) : majority (cleanSample b) = b := by cases b <;> rfl

theorem disagree_cleanSample (b : Bool) : disagree (cleanSample b) = false := by cases b <;> rfl

theorem bits_eq (c : TxChar) : c.bits = [false, c.value.getLsbD 0, c.value.getLsbD 1, c.value.getLsbD 2,
    c.value.getLsbD 3, c.value.getLsbD 4, c.value.getLsbD 5, c.value.getLsbD 6, c.value.getLsbD 7,
    c.marker, true] := rfl

theorem charSample_cleanChar (c : TxChar) (i : Nat) : charSample (cleanChar c) i = cleanSample (c.bits.getD i false) :=
  List.getD_map c.bits false cleanSample

theorem falseStart_cleanChar (c : TxChar) : falseStart (cleanChar c) = false := rfl

theorem charNoisy_cleanChar (c : TxChar) : charNoisy (cleanChar c) = false := by
  unfold charNoisy
  rw [falseStart_cleanChar, if_neg Bool.false_ne_true]
  exact List.any_eq_false.mpr fun x hx => by
    obtain ⟨b, -, rfl⟩ := List.mem_map.mp hx
    simp [disagree_cleanSample]

/-- The byte whose low `n` bits are given. -/
theorem foldl_setBit_getLsbD (p : Nat → Bool) (n j : Nat) :
    ((List.range n).foldl (fun acc k => if p k then acc ||| (1#8 <<< k) else acc) 0).getLsbD j
      = (decide (j < 8) && (decide (j < n) && p j)) := by
  induction n with
  | zero => simp
  | succ n ih =>
    rw [List.range_succ, List.foldl_append, List.foldl_cons, List.foldl_nil]
    have hbit : (1#8 <<< n).getLsbD j = (decide (j < 8) && decide (j = n)) := by
      simp only [BitVec.getLsbD_shiftLeft, BitVec.getLsbD_one]
      by_cases hj : j = n
      · simp [hj]
      · simp [hj]
        omega
    by_cases hp : p n = true
    · rw [if_pos hp, BitVec.getLsbD_or, ih, hbit]
      by_cases hj : j = n
      · subst hj; simp [hp]
      · have hlt : j < n + 1 ↔ j < n := by omega
        simp [hj, hlt]
    · rw [if_neg hp, ih]
      by_cases hj : j = n
      · subst hj; simp [Bool.eq_false_iff.mpr hp]
      · have hlt : j < n + 1 ↔ j < n := by omega
        simp [hlt]

theorem charValue_cleanChar (c : TxChar) : charValue (cleanChar c) = c.value := by
  refine BitVec.eq_of_getLsbD_eq fun j hj => ?_
  refine (foldl_setBit_getLsbD (fun k => majority (charSample (cleanChar c) (k + 1))) 8 j).trans ?_
  have hdata : c.bits.getD (j + 1) false = c.value.getLsbD j := by
    rw [bits_eq]
    interval_cases j <;> rfl
  rw [charSample_cleanChar, majority_cleanSample, hdata, decide_eq_true hj]
  rfl

theorem receiveChar_cleanChar (c : TxChar) : receiveChar (cleanChar c) = some c.received := by
  unfold receiveChar
  rw [falseStart_cleanChar, if_neg Bool.false_ne_true, charValue_cleanChar, charSample_cleanChar, charSample_cleanChar,
    majority_cleanSample, majority_cleanSample]
  rfl

theorem received_clean (cs : List TxChar) : received (cs.map cleanChar) = cs.map TxChar.received := by
  unfold received
  rw [List.filterMap_map, List.filterMap_congr (f := receiveChar ∘ cleanChar)
    (g := some ∘ TxChar.received) fun c _ => receiveChar_cleanChar c,
    List.filterMap_eq_map]

theorem replyNoisy_clean (cs : List TxChar) : replyNoisy (cs.map cleanChar) = false :=
  List.any_eq_false.mpr fun x hx => by
    obtain ⟨c, -, rfl⟩ := List.mem_map.mp hx
    simp [charNoisy_cleanChar]

/-! ### The frame received (R54, R59) -/

/-- A character of a frame behind the address, as received. -/
def plainRx (b : Byte) : RxChar := { marker := false, value := b, framingError := false }

theorem frameOf_received (address kind : Nat) (q : Byte) (payload : List Byte) :
    (frameOf address kind q payload).map TxChar.received =
      let len := BitVec.ofNat 8 payload.length
      let c := crc (BitVec.ofNat 8 kind :: q :: len :: payload)
      { marker := true, value := BitVec.ofNat 8 address, framingError := false } :: plainRx (BitVec.ofNat 8 kind)
        :: plainRx q :: plainRx len :: (payload ++ [highByte c, lowByte c]).map plainRx := by
  unfold frameOf
  simp only [List.map_cons, List.map_map, List.cons_append]
  rfl

/-- R59: what the receiver checks of a frame holds of a STATUS laid out as R54 gives. -/
theorem goodPayload_frameOf
    (h : i.1 < 48 ∧ (payload.length = 11 ∨ payload.length = 13) ∨ 48 ≤ i.1 ∧ payload.length = 9) :
    goodPayload i q ((frameOf i.1 0x40 q payload).map TxChar.received) = some payload := by
  have hlen : (BitVec.ofNat 8 payload.length).toNat = payload.length := by
    rw [BitVec.toNat_ofNat]
    omega
  have hvalues (xs : List Byte) : (xs.map plainRx).map (·.value) = xs := by
    rw [List.map_map]
    exact List.map_id xs
  have hlength : (if i.1 < 48 then payload.length == 11 || payload.length == 13 else payload.length == 9) = true := by
    rcases h with ⟨hi, h11 | h13⟩ | ⟨hi, h9⟩
    · simp [hi, h11]
    · simp [hi, h13]
    · simp [Nat.not_lt.mpr hi, h9]
  have hplain (p : RxChar → Bool) (hp : ∀ b, p (plainRx b) = true) (xs : List Byte) : (xs.map plainRx).all p = true :=
    List.all_eq_true.mpr fun x hx => by
      obtain ⟨b, -, rfl⟩ := List.mem_map.mp hx
      exact hp b
  rw [frameOf_received]
  unfold goodPayload
  dsimp only
  rw [show (plainRx (BitVec.ofNat 8 payload.length)).value.toNat = payload.length from hlen, ← List.map_take,
    ← List.map_drop, List.take_left, List.drop_left, hvalues, hvalues, List.tail_cons, List.all_cons, List.all_cons,
    List.all_cons, List.all_cons, List.all_cons, List.all_cons, List.all_cons, hplain _ fun _ => rfl,
    hplain _ fun _ => rfl, hlength]
  refine if_pos ?_
  simp [plainRx, FrameKind.status]
  omega

/-- Settles O35: a clean character is received as it was sent, and the frame passes each check of R59. -/
theorem statusReceived : Obligations.StatusReceived := by
  intro i q payload h
  have hline : ((frameOf i.1 0x40 q payload).map fun c => LineChar.mk (c.bits.map fun b => ((b, b, b) : Sample)))
      = (frameOf i.1 0x40 q payload).map cleanChar := rfl
  refine ⟨?_, ?_, bits_eq⟩
  · rw [hline, received_clean]
    exact goodPayload_frameOf h
  · rw [hline]
    exact replyNoisy_clean _

end Sys2Proof.Machine
end

section
/-!
Pending commands (O33) and the health of the links (O34).
-/

namespace Sys2Proof.Machine

variable {s u v : State} {t : Turn} {i : LinkId} {e : LinkEntry} {p : PendingCommand}

/-! ### Entries changed -/

theorem modEntry_modEntry (i : LinkId) (f g : LinkEntry → LinkEntry) (s : State) :
    modEntry i g (modEntry i f s) = modEntry i (fun e => g (f e)) s := by
  unfold modEntry
  simp only [tget_tset_self, tset_tset]

theorem modEntry_eq_self {f : LinkEntry → LinkEntry} (h : f (s.entry i) = s.entry i) : modEntry i f s = s := by
  unfold modEntry
  rw [show f (tget s.link.entries i) = tget s.link.entries i from h, tset_self]

theorem modEntry_entry_other {j : LinkId} (h : j ≠ i) (f : LinkEntry → LinkEntry) (s : State) :
    (modEntry i f s).entry j = s.entry j := tget_tset_ne _ h _

theorem pushAll_nil (s : State) : pushAll [] s = s :=
  congrArg (fun js => { s with agenda := js }) (List.append_nil s.agenda)

theorem pushAll_pushAll (js ks : List Job) (s : State) : pushAll ks (pushAll js s) = pushAll (js ++ ks) s :=
  congrArg (fun xs => { s with agenda := xs }) (List.append_assoc s.agenda js ks)

/-! ### A command set (R65) -/

theorem setCommand_unpolled (h : (s.entry i).inPollList = false) (cmd : Cmd) (owner : Owner) :
    setCommand i cmd owner s = push (.told i owner cmd .noEcho) s := by
  unfold setCommand
  exact if_neg (ne_true_of_eq_false h)

theorem setCommand_free (h : (s.entry i).inPollList = true) (hc : (s.entry i).command = none) (cmd : Cmd)
    (owner : Owner) : setCommand i cmd owner s = modEntry i (fun e => e.withCommand cmd owner) s := by
  unfold setCommand
  dsimp only
  rw [if_pos h, hc]

theorem setCommand_again (h : (s.entry i).inPollList = true) (hc : (s.entry i).command = some p) :
    setCommand i p.cmd p.owner s = modEntry i (fun e => { e with command := some { p with sends := 0 } }) s := by
  unfold setCommand
  dsimp only
  rw [if_pos h, hc]
  exact if_pos ⟨rfl, rfl⟩

theorem setCommand_replaces (h : (s.entry i).inPollList = true) (hc : (s.entry i).command = some p) {cmd : Cmd}
    {owner : Owner} (hp : ¬(p.cmd = cmd ∧ p.owner = owner)) : setCommand i cmd owner s
      = pushAll (if p.owner = owner then [] else [.told i p.owner p.cmd (.superseded cmd)])
          (modEntry i (fun e => e.withCommand cmd owner) s) := by
  unfold setCommand
  dsimp only
  rw [if_pos h, hc]
  refine (if_neg hp).trans ?_
  split
  · exact (pushAll_nil _).symm
  · rfl

/-! ### A good STATUS compared with the pending command (R66, R67, R73) -/

/-- R73: the doze flag follows an acknowledged DOZE or WAKE. -/
def Cmd.dozeAfter (cmd : Cmd) (doze : Bool) : Bool :=
  match cmd with
  | .doze => true
  | .wake => false
  | _ => doze

/-- R66, R67: the entry after a good STATUS with this echo. -/
def LinkEntry.afterEcho (e : LinkEntry) (echo : Byte) : LinkEntry :=
  match e.command with
  | some p =>
    if p.sequence = some echo then { e with synchronised := true, command := none, doze := p.cmd.dozeAfter e.doze }
    else if e.synchronised then e
    else { e with synchronised := true, sequence := echo + 1, command := some { p with sequence := some (echo + 1) } }
  | none => if e.synchronised then e else { e with synchronised := true, sequence := echo }

/-- R67: whom a good STATUS with this echo has told. -/
def LinkEntry.echoTold (i : LinkId) (e : LinkEntry) (echo : Byte) : List Job :=
  match e.command with
  | some p => if p.sequence = some echo then [.told i p.owner p.cmd .delivered] else []
  | none => []

/-- R66, R67: what the echo of a good STATUS does. -/
def receiveEcho (i : LinkId) (echo : Byte) (s : State) : State :=
  if (s.entry i).synchronised then compareEcho i echo s else synchronise i echo s

theorem acknowledge_eq (i : LinkId) (p : PendingCommand) (s : State) : acknowledge i p s
    = push (.told i p.owner p.cmd .delivered)
        (modEntry i (fun e => { e with command := none, doze := p.cmd.dozeAfter e.doze }) s) := by
  unfold acknowledge Cmd.dozeAfter
  cases p.cmd <;> rfl

theorem LinkEntry.afterEcho_echoed {echo : Byte} (hc : e.command = some p) (hq : p.sequence = some echo) :
    e.afterEcho echo = { e with synchronised := true, command := none, doze := p.cmd.dozeAfter e.doze } := by
  unfold LinkEntry.afterEcho
  rw [hc]
  exact if_pos hq

theorem LinkEntry.afterEcho_waits {echo : Byte} (hc : e.command = some p) (hq : p.sequence ≠ some echo)
    (hs : e.synchronised = true) : e.afterEcho echo = e := by
  unfold LinkEntry.afterEcho
  rw [hc]
  exact (if_neg hq).trans (if_pos hs)

theorem LinkEntry.afterEcho_renumbers {echo : Byte} (hc : e.command = some p) (hq : p.sequence ≠ some echo)
    (hs : e.synchronised = false) : e.afterEcho echo = { e with
      synchronised := true, sequence := echo + 1, command := some { p with sequence := some (echo + 1) } } := by
  unfold LinkEntry.afterEcho
  rw [hc]
  exact (if_neg hq).trans (if_neg (ne_true_of_eq_false hs))

theorem LinkEntry.afterEcho_free (hc : e.command = none) (echo : Byte) : e.afterEcho echo = { e with
    synchronised := true, sequence := if e.synchronised then e.sequence else echo } := by
  obtain ⟨_, _, _, _, _, _, synchronised, command, _, _⟩ := e
  obtain rfl : command = none := hc
  cases synchronised <;> rfl

theorem LinkEntry.echoTold_echoed {echo : Byte} (hc : e.command = some p) (hq : p.sequence = some echo) :
    e.echoTold i echo = [.told i p.owner p.cmd .delivered] := by
  unfold LinkEntry.echoTold
  rw [hc]
  exact if_pos hq

theorem LinkEntry.echoTold_other {echo : Byte} (h : ∀ p, e.command = some p → p.sequence ≠ some echo) :
    e.echoTold i echo = [] := by
  unfold LinkEntry.echoTold
  split
  next p hc => exact if_neg (h p hc)
  next => rfl

theorem receiveEcho_eq (i : LinkId) (echo : Byte) (s : State) : receiveEcho i echo s
    = pushAll ((s.entry i).echoTold i echo) (modEntry i (fun e => e.afterEcho echo) s) := by
  have hset {f : LinkEntry → LinkEntry} (h : (s.entry i).afterEcho echo = f (s.entry i)) :
      modEntry i f s = modEntry i (fun e => e.afterEcho echo) s :=
    congrArg (fun e => ({ s with link := { s.link with entries := tset s.link.entries i e } } : State)) h.symm
  have hstays (h : (s.entry i).afterEcho echo = s.entry i) (ht : (s.entry i).echoTold i echo = []) :
      s = pushAll ((s.entry i).echoTold i echo) (modEntry i (fun e => e.afterEcho echo) s) := by
    rw [modEntry_eq_self h, ht, pushAll_nil]
  unfold receiveEcho
  cases hs : (s.entry i).synchronised with
  | true =>
    rw [if_pos rfl]
    unfold compareEcho
    cases hc : (s.entry i).command with
    | none =>
      refine hstays ?_ (LinkEntry.echoTold_other fun p hp => nomatch hc.symm.trans hp)
      rw [LinkEntry.afterEcho_free hc, hs, if_pos rfl, ← hs]
    | some p =>
      dsimp only
      split
      next hq =>
        rw [acknowledge_eq, LinkEntry.echoTold_echoed hc hq]
        refine congrArg (push _) (hset ?_)
        rw [LinkEntry.afterEcho_echoed hc hq, ← hs]
      next hq =>
        exact hstays (LinkEntry.afterEcho_waits hc hq hs)
          (LinkEntry.echoTold_other fun p' hp => Option.some.inj (hc.symm.trans hp) ▸ hq)
  | false =>
    rw [if_neg Bool.false_ne_true]
    unfold synchronise
    dsimp only
    rw [modEntry_entry]
    dsimp only
    cases hc : (s.entry i).command with
    | none =>
      have htold : (s.entry i).echoTold i echo = [] := LinkEntry.echoTold_other fun p hp => nomatch hc.symm.trans hp
      rw [htold, pushAll_nil]
      refine (modEntry_modEntry i _ _ s).trans (hset ?_)
      rw [LinkEntry.afterEcho_free hc, hs]
      rfl
    | some p =>
      dsimp only
      split
      next hq =>
        rw [acknowledge_eq, modEntry_modEntry, LinkEntry.echoTold_echoed hc hq]
        exact congrArg (push _) (hset (LinkEntry.afterEcho_echoed hc hq))
      next hq =>
        have htold : (s.entry i).echoTold i echo = [] :=
          LinkEntry.echoTold_other fun p' hp => Option.some.inj (hc.symm.trans hp) ▸ hq
        rw [htold, pushAll_nil]
        exact (modEntry_modEntry i _ _ s).trans (hset (LinkEntry.afterEcho_renumbers hc hq hs))

/-- R66: what a good STATUS leaves of an entry. -/
theorem LinkEntry.afterEcho_frame (e : LinkEntry) (echo : Byte) : e.afterEcho echo
    = { e with synchronised := true, sequence := (e.afterEcho echo).sequence, command := (e.afterEcho echo).command
               doze := (e.afterEcho echo).doze } := by
  unfold LinkEntry.afterEcho
  have hs (h : e.synchronised = true) : e = { e with synchronised := true } := by rw [← h]
  cases e.command with
  | none =>
    dsimp only
    split
    next h => exact hs h
    next => rfl
  | some p =>
    dsimp only
    split
    · rfl
    · split
      next h => exact hs h
      next => rfl

/-! ### The error counter and the link state (R70, R71) -/

theorem linkStateOf_eq_lost {n : Nat} : linkStateOf n = .lost ↔ 256 ≤ n := by
  unfold linkStateOf
  split
  · exact ⟨nofun, by omega⟩
  split
  · exact ⟨nofun, by omega⟩
  split
  · exact ⟨nofun, by omega⟩
  · exact ⟨fun _ => by omega, fun _ => rfl⟩

theorem LinkEntry.state_eq_lost {e : LinkEntry} : e.state = .lost ↔ 256 ≤ e.errorCount := linkStateOf_eq_lost

/-- R71: a robot whose link has become LOST is handed on. -/
def lostJobs (i : LinkId) (lost : Prop) [Decidable lost] : List Job :=
  if h : i.1 < 48 ∧ lost then [.robotLost ⟨i.1, h.1⟩] else []

/-- R70: LINK STATE is raised where the link state has changed. -/
theorem noteLink_eq (same : Prop) [Decidable same] (s : State) : (if same then s else setNotice .linkState s)
    = { s with board := { s.board with notice := s.board.notice ||| (if same then 0#13 else 8#13) } } := by
  split
  · rw [BitVec.or_zero]
  · rfl

theorem pushLost_eq (i : LinkId) (lost : Prop) [Decidable lost] (s : State) :
    (if lost then (if h : i.1 < 48 then push (.robotLost ⟨i.1, h⟩) s else s) else s) = pushAll (lostJobs i lost) s := by
  unfold lostJobs
  by_cases hl : lost
  · rw [if_pos hl]
    by_cases hi : i.1 < 48
    · rw [dif_pos hi, dif_pos ⟨hi, hl⟩]
      rfl
    · rw [dif_neg hi, dif_neg fun h => hi h.1, pushAll_nil]
  · rw [if_neg hl, dif_neg fun h => hl h.2, pushAll_nil]

theorem lostJobs_congr {a b : Prop} [Decidable a] [Decidable b] (h : a ↔ b) : lostJobs i a = lostJobs i b := by
  unfold lostJobs
  simp only [h]

/-- R70, R71: the error counter of a station that is not LOST takes a value. -/
theorem setErrorCount_eq (h : (s.entry i).errorCount < 256) (n : Nat) : setErrorCount i n s = { s with
    agenda := s.agenda ++ lostJobs i (256 ≤ n)
    board := { s.board with notice := s.board.notice
      ||| (if linkStateOf n = linkStateOf (s.entry i).errorCount then 0#13 else 8#13) }
    link := { s.link with entries := tset s.link.entries i { s.entry i with
      errorCount := n, recovery := if 256 ≤ n then 0 else (s.entry i).recovery } } } := by
  have hbefore : (s.entry i).state ≠ .lost := fun hl => by
    have := LinkEntry.state_eq_lost.mp hl
    omega
  have hlost : (decide (linkStateOf n = .lost) && decide ((s.entry i).state ≠ .lost)) = decide (256 ≤ n) := by
    rw [decide_eq_true hbefore, Bool.and_true]
    exact decide_eq_decide.mpr linkStateOf_eq_lost
  unfold setErrorCount
  simp only [hlost, decide_eq_true_eq]
  rw [pushLost_eq, noteLink_eq, if_congr (eq_comm (a := (s.entry i).state)) rfl rfl]
  rfl

/-- R70, R72: a bad reply to a station that is LOST. -/
theorem badReply_lost (h : 256 ≤ (s.entry i).errorCount) :
    badReply i s = modEntry i (fun e => { e with recovery := 0 }) s := if_pos (LinkEntry.state_eq_lost.mpr h)

theorem badReply_heard (h : (s.entry i).errorCount < 256) :
    badReply i s = setErrorCount i (min 256 ((s.entry i).errorCount + 8)) s :=
  if_neg fun hl => by
    have := LinkEntry.state_eq_lost.mp hl
    omega

/-! ### The repeat limit (R68) -/

/-- R68: the command pending is the one sent with this sequence, and its sends have reached the limit. -/
def limitReached (e : LinkEntry) (q : Byte) (limit : Nat) (p : PendingCommand) : Prop :=
  e.command = some p ∧ p.sequence = some q ∧ limit ≤ p.sends

theorem checkRepeatLimit_fails {q : Byte} (h : limitReached (s.entry i) q s.params.repeatLimit p) :
    checkRepeatLimit i q s = push (.told i p.owner p.cmd .noEcho) (clearCommand i s) := by
  obtain ⟨hc, hq, hl⟩ := h
  unfold checkRepeatLimit
  rw [hc]
  exact if_pos ⟨hq, hl⟩

theorem checkRepeatLimit_stands {q : Byte} (h : ∀ p, ¬limitReached (s.entry i) q s.params.repeatLimit p) :
    checkRepeatLimit i q s = s := by
  unfold checkRepeatLimit
  split
  next p hc => exact if_neg fun ⟨hq, hl⟩ => h p ⟨hc, hq, hl⟩
  next => rfl

/-! ### A good reply (R75, R76) -/

/-- The echo of a STATUS, R207. -/
def echoOf (i : LinkId) (payload : List Byte) : Byte :=
  if i.1 < 48 then (robotReport payload).echo else (shuttleReport payload).echo

/-- The energy reading of a STATUS, R207. -/
def meterOf (i : LinkId) (payload : List Byte) : Nat :=
  if i.1 < 48 then (robotReport payload).meter else (shuttleReport payload).meter

/-- R75, R76: the STATUS handed on, with its energy difference against a baseline. -/
def statusJob (i : LinkId) (payload : List Byte) (baseline : Option Nat) : Job :=
  if h : i.1 < 48 then
    .robotStatus ⟨i.1, h⟩ (robotReport payload) (energyDifference baseline (robotReport payload).meter)
  else
    .shuttleStatus ⟨i.1 - 48, by omega⟩ (shuttleReport payload)
      (energyDifference baseline (shuttleReport payload).meter)

theorem statusJob_cases (i : LinkId) (payload : List Byte) (baseline : Option Nat) :
    (∃ r, statusJob i payload baseline = .robotStatus r (robotReport payload)
        (energyDifference baseline (robotReport payload).meter) ∧ i = robotLink r)
      ∨ ∃ k, statusJob i payload baseline = .shuttleStatus k (shuttleReport payload)
        (energyDifference baseline (shuttleReport payload).meter) ∧ i = shuttleLink k := by
  unfold statusJob
  split
  next h => exact .inl ⟨⟨i.1, h⟩, rfl, rfl⟩
  next h =>
    refine .inr ⟨_, rfl, Fin.ext ?_⟩
    show i.1 = 48 + (i.1 - 48)
    omega

theorem statusJob_robot (r : RobotId) (payload : List Byte) (baseline : Option Nat) :
    statusJob (robotLink r) payload baseline = .robotStatus r (robotReport payload)
      (energyDifference baseline (robotReport payload).meter) := dif_pos r.2

theorem statusJob_shuttle (k : ShuttleIx) (payload : List Byte) (baseline : Option Nat) :
    statusJob (shuttleLink k) payload baseline = .shuttleStatus k (shuttleReport payload)
      (energyDifference baseline (shuttleReport payload).meter) := by
  have hk : ¬(shuttleLink k).1 < 48 := by simp [shuttleLink]
  have hix : (⟨(shuttleLink k).1 - 48, by omega⟩ : ShuttleIx) = k := Fin.ext (Nat.add_sub_cancel_left 48 k.1)
  exact (dif_neg hk).trans (congrArg (fun j => Job.shuttleStatus j _ _) hix)

/-- R68: the notices at the end of a turn that sent a command. -/
def limitJobs (i : LinkId) (t : Turn) : List Job :=
  match t.sentCommand with
  | some q => [.repeatLimit i q]
  | none => []

theorem pushRepeatCheck_eq (i : LinkId) (t : Turn) (s : State) : pushRepeatCheck i t s = pushAll (limitJobs i t) s := by
  unfold pushRepeatCheck limitJobs
  cases t.sentCommand with
  | none => exact (pushAll_nil s).symm
  | some q => rfl

/-- R66, R70, R76: the entry after a good reply from a station that is not LOST. -/
def LinkEntry.afterReply (i : LinkId) (e : LinkEntry) (payload : List Byte) : LinkEntry :=
  { e.afterEcho (echoOf i payload) with errorCount := e.errorCount - 1, baseline := some (meterOf i payload) }

theorem LinkEntry.afterReply_fields {x : LinkEntry} {payload : List Byte} (h : e.afterEcho (echoOf i payload) = x) :
    (e.afterReply i payload).command = x.command ∧ (e.afterReply i payload).sequence = x.sequence
      ∧ (e.afterReply i payload).doze = x.doze := by
  subst h
  exact ⟨rfl, rfl, rfl⟩

theorem LinkEntry.afterEcho_errorCount (e : LinkEntry) (n : Nat) (echo : Byte) :
    { e with errorCount := n }.afterEcho echo = { e.afterEcho echo with errorCount := n } := by
  obtain ⟨_, _, _, _, _, _, _, command, _, _⟩ := e
  unfold LinkEntry.afterEcho
  cases command with
  | none => dsimp only; split <;> rfl
  | some p =>
    dsimp only
    split
    · rfl
    · split <;> rfl

theorem LinkEntry.afterEcho_baseline (e : LinkEntry) (echo : Byte) : (e.afterEcho echo).baseline = e.baseline := by
  rw [e.afterEcho_frame]

/-- R70: a good reply takes 1 off the error counter of a station that is not LOST. -/
theorem setErrorCount_good (h : (v.entry i).errorCount < 256) : setErrorCount i ((v.entry i).errorCount - 1) v =
    { v with
      board := { v.board with notice := v.board.notice
        ||| (if linkStateOf ((v.entry i).errorCount - 1) = linkStateOf (v.entry i).errorCount then 0#13 else 8#13) }
      link := { v.link with entries := tset v.link.entries i { v.entry i with
        errorCount := (v.entry i).errorCount - 1 } } } := by
  have hn : ¬256 ≤ (v.entry i).errorCount - 1 := by omega
  rw [setErrorCount_eq h, if_neg hn, 
    show lostJobs i (256 ≤ (v.entry i).errorCount - 1) = [] from dif_neg fun hl => hn hl.2, List.append_nil]

/-- R75 steps 2 to 4: the echo compared, the baseline taken, and the STATUS handed on. -/
theorem deliver_eq (i : LinkId) (payload : List Byte) (s : State) : deliver i payload s
    = pushAll ((s.entry i).echoTold i (echoOf i payload) ++ [statusJob i payload (s.entry i).baseline])
        (modEntry i (fun e => { e.afterEcho (echoOf i payload) with baseline := some (meterOf i payload) }) s) := by
  have hdeliver : deliver i payload s = push
      (statusJob i payload ((receiveEcho i (echoOf i payload) s).entry i).baseline)
      (setBaseline i (meterOf i payload) (receiveEcho i (echoOf i payload) s)) := by
    unfold deliver statusJob meterOf receiveEcho echoOf
    dsimp only
    split <;> rfl
  have hbaseline : ((receiveEcho i (echoOf i payload) s).entry i).baseline = (s.entry i).baseline := by
    rw [receiveEcho_eq]
    exact (congrArg LinkEntry.baseline (modEntry_entry i (fun e => e.afterEcho (echoOf i payload)) s)).trans
      (LinkEntry.afterEcho_baseline _ _)
  rw [hdeliver, hbaseline, receiveEcho_eq, ← pushAll_pushAll]
  exact congrArg (fun w => pushAll [statusJob i payload (s.entry i).baseline]
    (pushAll ((s.entry i).echoTold i (echoOf i payload)) w))
    (modEntry_modEntry i (fun e => e.afterEcho (echoOf i payload))
      (fun e => { e with baseline := some (meterOf i payload) }) s)

/-- R75: a good reply from a station that is not LOST. -/
theorem goodReply_eq (h : (v.entry i).errorCount < 256) (t : Turn) (payload : List Byte) : goodReply i t payload v =
    { v with
      agenda := v.agenda ++ ((v.entry i).echoTold i (echoOf i payload) ++ [statusJob i payload (v.entry i).baseline]
        ++ limitJobs i t)
      board := { v.board with notice := v.board.notice
        ||| (if linkStateOf ((v.entry i).errorCount - 1) = linkStateOf (v.entry i).errorCount then 0#13 else 8#13) }
      link := { v.link with entries := tset v.link.entries i ((v.entry i).afterReply i payload) } } := by
  have hheard : (v.entry i).state ≠ .lost := fun hl => by
    have := LinkEntry.state_eq_lost.mp hl
    omega
  have hgood : goodReply i t payload v
      = pushRepeatCheck i t (deliver i payload (setErrorCount i ((v.entry i).errorCount - 1) v)) := if_neg hheard
  have hentry : (setErrorCount i ((v.entry i).errorCount - 1) v).entry i
      = { v.entry i with errorCount := (v.entry i).errorCount - 1 } := by
    rw [setErrorCount_good h]
    exact tget_tset_self _ _ _
  rw [hgood, pushRepeatCheck_eq, deliver_eq, pushAll_pushAll, hentry, setErrorCount_good h]
  unfold modEntry LinkEntry.afterReply
  simp only [tget_tset_self, tset_tset, LinkEntry.afterEcho_errorCount]
  rfl

/-- Settles O33. -/
theorem pendingCommands : Obligations.PendingCommands := by
  refine ⟨fun u i cmd owner => ⟨fun h => ?unpolled, fun h hc => ?free, fun p h hc =>
      ⟨fun hp => ?again, fun hp => ?other⟩⟩,
    fun v turn i payload h => ?reply, fun u i q => ⟨fun p hc hq hl => ?fails, fun hs => ?stands⟩⟩
  case unpolled => exact setCommand_unpolled h cmd owner
  case free =>
    rw [setCommand_free h hc]
    rfl
  case again =>
    obtain ⟨rfl, rfl⟩ := hp
    exact setCommand_again h hc
  case other =>
    rw [setCommand_replaces h hc hp]
    have hagenda : u.agenda ++ (if p.owner = owner then [] else [.told i p.owner p.cmd (.superseded cmd)])
        = if p.owner = owner then u.agenda else u.agenda ++ [.told i p.owner p.cmd (.superseded cmd)] := by
      split
      · exact List.append_nil _
      · rfl
    exact congrArg (fun xs => { modEntry i (fun e => e.withCommand cmd owner) u with agenda := xs }) hagenda
  case fails => exact checkRepeatLimit_fails ⟨hc, hq, hl⟩
  case stands => exact checkRepeatLimit_stands fun p ⟨hc, hq, hl⟩ => Nat.not_le.mpr (hs p hc hq) hl
  case reply =>
    have hreply := goodReply_eq h turn payload
    have hentry : (goodReply i turn payload v).entry i = (v.entry i).afterReply i payload := by
      rw [hreply]
      exact tget_tset_self _ _ _
    have hagenda := congrArg State.agenda hreply
    dsimp only
    rw [hentry]
    refine ⟨fun p hc hq => ?_, fun p hc hq hs => ?_, fun p hc hq hs => ?_, fun hc => ?_,
      statusJob i payload (v.entry i).baseline, ?_, statusJob_cases i payload _⟩
    · exact LinkEntry.afterReply_fields (LinkEntry.afterEcho_echoed hc hq)
    · obtain ⟨hcommand, hrest⟩ := LinkEntry.afterReply_fields (LinkEntry.afterEcho_waits hc hq hs)
      exact ⟨hcommand.trans hc, hrest⟩
    · exact LinkEntry.afterReply_fields (LinkEntry.afterEcho_renumbers hc hq hs)
    · obtain ⟨hcommand, hsequence, hdoze⟩ :=
        LinkEntry.afterReply_fields (LinkEntry.afterEcho_free hc (echoOf i payload))
      exact ⟨hcommand.trans hc, hdoze, hsequence⟩
    · refine hagenda.trans ?_
      dsimp only
      rw [← List.append_assoc, ← List.append_assoc]
      rfl

/-! ### A bad turn (R68, R70) -/

/-- R68: whom a bad turn has told that a command has failed. -/
def failTold (i : LinkId) (t : Turn) (e : LinkEntry) (limit : Nat) : List Job :=
  match e.command, t.sentCommand with
  | some p, some q => if p.sequence = some q ∧ limit ≤ p.sends then [.told i p.owner p.cmd .noEcho] else []
  | _, _ => []

/-- R68: a turn that sent the pending command has reached the repeat limit. -/
def turnFails (t : Turn) (e : LinkEntry) (limit : Nat) : Prop := ∃ p q, e.command = some p ∧ t.sentCommand = some q
  ∧ p.sequence = some q ∧ limit ≤ p.sends

/-- R68: the first share of a bad turn. -/
def turnChecked (i : LinkId) (t : Turn) (s : State) : State :=
  match t.sentCommand with
  | some q => checkRepeatLimit i q s
  | none => s

theorem badTurn_eq (i : LinkId) (t : Turn) (s : State) : badTurn i t s = badReply i (turnChecked i t s) := rfl

theorem turnChecked_fails (h : turnFails t (s.entry i) s.params.repeatLimit) : turnChecked i t s
    = pushAll (failTold i t (s.entry i) s.params.repeatLimit) (clearCommand i s) := by
  obtain ⟨p, q, hc, ht, hq, hl⟩ := h
  have htold : failTold i t (s.entry i) s.params.repeatLimit = [.told i p.owner p.cmd .noEcho] := by
    unfold failTold
    rw [hc, ht]
    exact if_pos ⟨hq, hl⟩
  unfold turnChecked
  rw [ht, htold]
  exact checkRepeatLimit_fails ⟨hc, hq, hl⟩

theorem turnChecked_stands (h : ¬turnFails t (s.entry i) s.params.repeatLimit) : turnChecked i t s = s
    ∧ failTold i t (s.entry i) s.params.repeatLimit = [] := by
  unfold turnChecked failTold
  cases ht : t.sentCommand with
  | none => exact ⟨rfl, by cases (s.entry i).command <;> rfl⟩
  | some q =>
    refine ⟨checkRepeatLimit_stands fun p ⟨hc, hq, hl⟩ => h ⟨p, q, hc, ht, hq, hl⟩, ?_⟩
    cases hc : (s.entry i).command with
    | none => rfl
    | some p => exact if_neg fun ⟨hq, hl⟩ => h ⟨p, q, hc, ht, hq, hl⟩


/-- R68: the pending command once a bad turn has been checked against the repeat limit. -/
theorem turnChecked_eq (i : LinkId) (t : Turn) (s : State) : ∃ c,
    (turnFails t (s.entry i) s.params.repeatLimit → c = none)
      ∧ (¬turnFails t (s.entry i) s.params.repeatLimit → c = (s.entry i).command)
      ∧ turnChecked i t s = pushAll (failTold i t (s.entry i) s.params.repeatLimit)
          (modEntry i (fun e => { e with command := c }) s) := by
  by_cases h : turnFails t (s.entry i) s.params.repeatLimit
  · exact ⟨none, fun _ => rfl, fun hn => absurd h hn, turnChecked_fails h⟩
  · obtain ⟨hstands, htold⟩ := turnChecked_stands h
    refine ⟨(s.entry i).command, fun hf => absurd hf h, fun _ => rfl, ?_⟩
    rw [hstands, htold, pushAll_nil, modEntry_eq_self rfl]

/-- R68, R70: a bad turn. -/
theorem badTurn_frame (i : LinkId) (t : Turn) (v : State) : ∃ c,
    let e := v.entry i
    let count := min 256 (e.errorCount + 8)
    (turnFails t e v.params.repeatLimit → c = none) ∧ (¬turnFails t e v.params.repeatLimit → c = e.command)
    ∧ badTurn i t v = { v with
        agenda := v.agenda ++ failTold i t e v.params.repeatLimit ++ lostJobs i (e.errorCount < 256 ∧ count = 256)
        board := { v.board with notice := v.board.notice
          ||| (if e.errorCount < 256 then if linkStateOf count = linkStateOf e.errorCount then 0#13 else 8#13
            else 0#13) }
        link := { v.link with entries := tset v.link.entries i { e with
          command := c, errorCount := if e.errorCount < 256 then count else e.errorCount
          recovery := if count = 256 then 0 else e.recovery } } } := by
  obtain ⟨c, hfails, hstands, hchecked⟩ := turnChecked_eq i t v
  have hentry : (turnChecked i t v).entry i = { v.entry i with command := c } := by
    rw [hchecked]
    exact modEntry_entry i (fun e => { e with command := c }) v
  refine ⟨c, hfails, hstands, ?_⟩
  dsimp only
  rw [badTurn_eq]
  by_cases hlost : 256 ≤ (v.entry i).errorCount
  · have hheard : ¬(v.entry i).errorCount < 256 := Nat.not_lt.mpr hlost
    have hcount : min 256 ((v.entry i).errorCount + 8) = 256 := by omega
    have hjobs : lostJobs i ((v.entry i).errorCount < 256 ∧ (256 : Nat) = 256) = [] := dif_neg fun h => hheard h.2.1
    rw [badReply_lost (by rw [hentry]; exact hlost), hchecked, hcount, hjobs, if_neg hheard, if_neg hheard, if_pos rfl,
      List.append_nil, BitVec.or_zero]
    unfold modEntry pushAll
    simp only [tset_tset, tget_tset_self]
    rfl
  · have hheard : (v.entry i).errorCount < 256 := Nat.not_le.mp hlost
    generalize hcount : min 256 ((v.entry i).errorCount + 8) = count
    rw [badReply_heard (by rw [hentry]; exact hheard), setErrorCount_eq (by rw [hentry]; exact hheard), hentry]
    dsimp only
    have hlost : (v.entry i).errorCount < 256 ∧ count = 256 ↔ 256 ≤ count := by omega
    rw [hcount, hchecked, lostJobs_congr hlost, if_pos hheard, if_pos hheard,
      if_congr (show count = 256 ↔ 256 ≤ count by omega) rfl rfl]
    unfold modEntry pushAll
    simp only [tset_tset]

/-! ### Recovery from LOST (R72) -/

theorem goodReply_probe (h : 256 ≤ (v.entry i).errorCount) (t : Turn) (payload : List Byte) :
    goodReply i t payload v = goodProbe i v := if_pos (LinkEntry.state_eq_lost.mpr h)

theorem goodProbe_counts (h : (v.entry i).recovery < 7) :
    goodProbe i v = modEntry i (fun e => { e with recovery := (v.entry i).recovery + 1 }) v :=
  if_neg (by omega)

theorem goodProbe_recovers (h : 7 ≤ (v.entry i).recovery) : goodProbe i v = recover i v := if_pos (by omega)

/-- R72: an entry back from LOST. -/
def LinkEntry.recovered (e : LinkEntry) : LinkEntry :=
  { e with errorCount := 0, recovery := 0, doze := false, synchronised := false, baseline := none }

theorem recover_frame (i : LinkId) (v : State) : recover i v = { v with
    board := { v.board with notice := v.board.notice ||| 8#13 }
    link := { v.link with entries := tset v.link.entries i (v.entry i).recovered }
    robots := (recover i v).robots, agenda := (recover i v).agenda } := by
  unfold recover
  dsimp only
  split
  · split <;> rfl
  · rfl

theorem recover_robot (r : RobotId) (v : State) : (recover (robotLink r) v).robot r
    = { v.robot r with placementMark := true, activity := .unknown } := by
  have hr : (robotLink r).1 < 48 := r.2
  have hrobots : (recover (robotLink r) v).robots
      = tset v.robots r { v.robot r with placementMark := true, activity := .unknown } := by
    unfold recover
    rw [dif_pos hr]
    dsimp only
    split <;> rfl
  unfold State.robot
  rw [hrobots]
  exact tget_tset_self _ _ _

theorem goodReply_others {j : LinkId} (hj : j ≠ i) (t : Turn) (payload : List Byte) (v : State) :
    (goodReply i t payload v).entry j = v.entry j := by
  by_cases h : 256 ≤ (v.entry i).errorCount
  · rw [goodReply_probe h]
    by_cases hr : 7 ≤ (v.entry i).recovery
    · rw [goodProbe_recovers hr, recover_frame]
      exact tget_tset_ne _ hj _
    · rw [goodProbe_counts (Nat.not_le.mp hr)]
      exact modEntry_entry_other hj _ v
  · rw [goodReply_eq (Nat.not_le.mp h)]
    exact tget_tset_ne _ hj _

theorem energyDifference_eq {b reading : Nat} (hb : b < 16777216) (hr : reading < 16777216) :
    energyDifference (some b) reading = if (reading - b : Int) % 16777216 < 8388608
      then ((reading - b : Int) % 16777216).toNat else 0 := by
  have hmod : (reading - b : Int) % 16777216 = ((reading + 16777216 - b) % 16777216 : Nat) := by omega
  unfold energyDifference
  dsimp only
  rw [hmod, Int.toNat_natCast]
  split <;> split <;> omega

/-- Settles O34. -/
theorem linkHealth : Obligations.LinkHealth := by
  refine ⟨fun v t i => ?bad, fun v t i payload => ⟨fun h => ?good, fun h hr => ?probe, fun h hr => ?recovers, ?others⟩,
    fun n => ?states, fun b reading hb hr => ⟨rfl, energyDifference_eq hb hr⟩⟩
  case bad =>
    obtain ⟨c, hfails, hstands, hbad⟩ := badTurn_frame i t v
    have hentry : (badTurn i t v).entry i = _ := (congrArg (fun w => w.entry i) hbad).trans (tget_tset_self _ _ _)
    dsimp only at *
    rw [hentry]
    have hnotice := congrArg (fun w => w.board.notice) hbad
    dsimp only at hnotice
    refine ⟨hfails, hstands, congrArg State.agenda hbad, rfl, ?_, fun h => ⟨if_pos h, ?_⟩, fun h => ⟨?_, ?_, ?_⟩,
      fun j hj => (congrArg (fun w => w.entry j) hbad).trans (tget_tset_ne _ hj _)⟩
    · rw [hbad]
    · rw [hnotice, if_pos h]
    · exact if_neg (Nat.not_lt.mpr h)
    · exact if_pos (by omega)
    · rw [hnotice, if_neg (Nat.not_lt.mpr h), BitVec.or_zero]
  case good =>
    have hgood := goodReply_eq h t payload
    have hentry : (goodReply i t payload v).entry i = (v.entry i).afterReply i payload :=
      (congrArg (fun w => w.entry i) hgood).trans (tget_tset_self _ _ _)
    have hagenda : (goodReply i t payload v).agenda = _ := congrArg State.agenda hgood
    have hstatus : statusJob i payload (v.entry i).baseline ∈ (goodReply i t payload v).agenda := by
      rw [hagenda]
      simp
    rw [hentry]
    refine ⟨rfl, congrArg LinkEntry.synchronised ((v.entry i).afterEcho_frame _),
      congrArg (fun w => w.board.notice) hgood, fun r hr => ?_, fun k hk => ?_⟩
    · subst hr
      exact ⟨congrArg some (if_pos r.2), (statusJob_robot r payload _) ▸ hstatus⟩
    · subst hk
      exact ⟨congrArg some (if_neg (by simp [shuttleLink])), (statusJob_shuttle k payload _) ▸ hstatus⟩
  case probe =>
    rw [goodReply_probe h, goodProbe_counts hr]
    rfl
  case recovers =>
    rw [goodReply_probe h, goodProbe_recovers hr]
    refine ⟨(congrArg (fun w => w.entry i) (recover_frame i v)).trans (tget_tset_self _ _ _),
      congrArg (fun w => w.board.notice) (recover_frame i v), fun r hi => ?_⟩
    subst hi
    exact recover_robot r v
  case others =>
    intro j hj
    exact goodReply_others hj t payload v
  case states =>
    exact if_congr Nat.lt_succ_iff rfl (if_congr Nat.lt_succ_iff rfl (if_congr Nat.lt_succ_iff rfl rfl))

end Sys2Proof.Machine
end

section
/-!
How a FieldLink turn is chosen and begun (O31).
-/

namespace Sys2Proof.Machine

variable {s t u v : State} {i j : LinkId}

/-! ### The urgent queue (R61) -/

theorem chooseUrgent_eq_some {xs rest : List Urgent} {x : Urgent} (h : chooseUrgent u xs = some (x, rest)) :
    ∃ skipped, xs = skipped ++ x :: rest ∧ (∀ y ∈ skipped, ∃ i, y = .station i ∧ (u.entry i).inPollList = false)
      ∧ ∀ i, x = .station i → (u.entry i).inPollList = true := by
  induction xs with
  | nil => cases h
  | cons y ys ih =>
    cases y with
    | park n c m =>
      cases h
      exact ⟨[], rfl, nofun, nofun⟩
    | station j =>
      unfold chooseUrgent at h
      by_cases hj : (u.entry j).inPollList = true
      · rw [if_pos hj] at h
        cases h
        exact ⟨[], rfl, nofun, fun i hi => by cases hi; exact hj⟩
      · rw [if_neg hj] at h
        obtain ⟨skipped, rfl, hskipped, hx⟩ := ih h
        exact ⟨.station j :: skipped, rfl,
          List.forall_mem_cons.mpr ⟨⟨j, rfl, Bool.eq_false_iff.mpr hj⟩, hskipped⟩, hx⟩

theorem chooseUrgent_eq_none {xs : List Urgent} (h : chooseUrgent u xs = none) :
    ∀ y ∈ xs, ∃ i, y = .station i ∧ (u.entry i).inPollList = false := by
  induction xs with
  | nil => exact nofun
  | cons y ys ih =>
    cases y with
    | park n c m => cases h
    | station j =>
      unfold chooseUrgent at h
      by_cases hj : (u.entry j).inPollList = true
      · rw [if_pos hj] at h
        cases h
      · rw [if_neg hj] at h
        exact List.forall_mem_cons.mpr ⟨⟨j, rfl, Bool.eq_false_iff.mpr hj⟩, ih h⟩

/-! ### The poll list (R62) -/

theorem eligible_iff (e : LinkEntry) (c : Nat) : eligible e c = true ↔
    if 256 ≤ e.errorCount then c % 16 = 0
    else if e.doze = true ∧ e.command = none then c % 8 = 0
    else if 128 ≤ e.errorCount then c % 4 = 0 else True := by
  have hmute : ¬256 ≤ e.errorCount → (e.state = .mute ↔ 128 ≤ e.errorCount) := fun h => by
    unfold LinkEntry.state linkStateOf
    split
    · exact ⟨nofun, by omega⟩
    split
    · exact ⟨nofun, by omega⟩
    rw [if_pos (by omega)]
    exact ⟨fun _ => by omega, fun _ => rfl⟩
  have hlost : e.state = .lost ↔ 256 ≤ e.errorCount := by
    unfold LinkEntry.state linkStateOf
    repeat' split
    all_goals simp; omega
  unfold eligible
  by_cases hl : 256 ≤ e.errorCount
  · rw [if_pos (hlost.mpr hl), if_pos hl, beq_iff_eq]
  · rw [if_neg (hlost.not.mpr hl), if_neg hl]
    by_cases hd : e.doze = true ∧ e.command = none
    · rw [if_pos (by simp [hd]), if_pos hd, beq_iff_eq]
    · rw [if_neg (by simpa [Option.isNone_iff_eq_none] using hd), if_neg hd]
      by_cases hm : 128 ≤ e.errorCount
      · rw [if_pos ((hmute hl).mpr hm), if_pos hm, beq_iff_eq]
      · rw [if_neg ((hmute hl).not.mpr hm), if_neg hm]
        exact iff_true_intro rfl

/-- R62: every station is eligible in a cycle whose count is a multiple of 16. -/
theorem eligible_of_sixteen (e : LinkEntry) {c : Nat} (h : c % 16 = 0) : eligible e c = true := by
  rw [eligible_iff]
  split
  · exact h
  · split
    · omega
    · split
      · omega
      · trivial

theorem mem_pollList : i ∈ pollList u ↔ (u.entry i).inPollList = true := by
  simp [pollList, allLinks]

/-- R62: the station stands after the poll cursor. -/
def afterCursor (u : State) (i : LinkId) : Bool :=
  match u.link.cursor with
  | none => true
  | some c => decide (c.1 < i.1)

theorem afterCursor_iff : afterCursor u i = true ↔ ∀ c, u.link.cursor = some c → c < i := by
  unfold afterCursor
  cases u.link.cursor with
  | none => exact ⟨fun _ => nofun, fun _ => rfl⟩
  | some c => exact ⟨fun h d hd => by cases hd; exact of_decide_eq_true h, fun h => decide_eq_true (h c rfl)⟩

theorem nextPoll_eq (u : State) : nextPoll u = if pollList u = [] then none
    else searchPoll u 18 ((pollList u).filter (afterCursor u)) u.link.cycle := by
  unfold nextPoll afterCursor
  cases u.link.cursor with
  | none =>
    dsimp only
    rw [List.filter_eq_self.mpr fun _ _ => rfl]
  | some c => rfl

theorem searchPoll_eq_some {fuel c c' : Nat} {ids : List LinkId} (h : searchPoll u fuel ids c = some (i, c')) :
    (i ∈ ids ∨ i ∈ pollList u) ∧ eligible (u.entry i) c' = true := by
  induction fuel generalizing ids c with
  | zero => cases h
  | succ fuel ih =>
    unfold searchPoll at h
    split at h
    next j hj =>
      cases h
      exact ⟨.inl (List.mem_of_find?_eq_some hj), List.find?_some (p := fun k => eligible (u.entry k) _) hj⟩
    next =>
      obtain ⟨hmem, he⟩ := ih h
      exact ⟨.inr (hmem.elim id id), he⟩

/-- R62: while no station is eligible the search goes on in the next cycle, with the whole poll list. -/
theorem searchPoll_next {fuel c : Nat} {ids : List LinkId} (h : ∀ j ∈ ids, eligible (u.entry j) c = false) :
    searchPoll u (fuel + 1) ids c = searchPoll u fuel (pollList u) ((c + 1) % 65536) := by
  rw [searchPoll, List.find?_eq_none.mpr fun j hj => ne_true_of_eq_false (h j hj)]

theorem searchPoll_found {fuel c : Nat} {ids : List LinkId} (h : ids.find? (fun j => eligible (u.entry j) c) = some i) :
    searchPoll u (fuel + 1) ids c = some (i, c) := by
  rw [searchPoll, h]

/-- R62: the search comes to the n-th cycle after the one under way. -/
theorem searchPoll_after {n fuel c : Nat} {ids : List LinkId} (hfuel : n < fuel) (hn : 1 ≤ n)
    (hids : ∀ j ∈ ids, eligible (u.entry j) c = false)
    (hbetween : ∀ m, 1 ≤ m → m < n → ∀ j ∈ pollList u, eligible (u.entry j) ((c + m) % 65536) = false)
    (hi : (pollList u).find? (fun j => eligible (u.entry j) ((c + n) % 65536)) = some i) :
    searchPoll u fuel ids c = some (i, (c + n) % 65536) := by
  induction n generalizing fuel c ids with
  | zero => omega
  | succ n ih =>
    obtain ⟨fuel, rfl⟩ : ∃ k, fuel = k + 1 := ⟨fuel - 1, by omega⟩
    rw [searchPoll_next hids]
    rcases Nat.eq_zero_or_pos n with rfl | hpos
    · obtain ⟨k, rfl⟩ : ∃ k, fuel = k + 1 := ⟨fuel - 1, by omega⟩
      exact searchPoll_found hi
    · have hcycle (m : Nat) : ((c + 1) % 65536 + m) % 65536 = (c + (m + 1)) % 65536 := by omega
      rw [← hcycle n]
      refine ih (fuel := fuel) (by omega) hpos (hbetween 1 le_rfl (by omega)) (fun m hm hlt => ?_)
        ((hcycle n).symm ▸ hi)
      rw [hcycle]
      exact hbetween (m + 1) (by omega) (by omega)

/-- R62: a search that finds nothing has come to no cycle in which a polled station is eligible. -/
theorem searchPoll_eq_none {fuel c : Nat} {ids : List LinkId} (h : searchPoll u fuel ids c = none) :
    ∀ m, 1 ≤ m → m < fuel → ∀ j ∈ pollList u, eligible (u.entry j) ((c + m) % 65536) = false := by
  induction fuel generalizing ids c with
  | zero => omega
  | succ fuel ih =>
    unfold searchPoll at h
    split at h
    · cases h
    · intro m hm hlt j hj
      have hcycle (k : Nat) : ((c + 1) % 65536 + k) % 65536 = (c + (k + 1)) % 65536 := by omega
      obtain ⟨k, rfl⟩ : ∃ k, m = k + 1 := ⟨m - 1, by omega⟩
      rcases Nat.eq_zero_or_pos k with rfl | hk
      · obtain ⟨f, rfl⟩ : ∃ f, fuel = f + 1 := ⟨fuel - 1, by omega⟩
        unfold searchPoll at h
        split at h
        · cases h
        next hnone => exact Bool.eq_false_iff.mpr (List.find?_eq_none.mp hnone j hj)
      · rw [← hcycle]
        exact ih h k hk (by omega) j hj

/-- R62: within 16 cycles after any there is one whose count is a multiple of 16. -/
theorem cycle_sixteen (c : Nat) : ∃ m, 1 ≤ m ∧ m ≤ 16 ∧ (c + m) % 65536 % 16 = 0 :=
  ⟨16 - c % 16, by omega, by omega, by omega⟩

theorem find?_pollList {c : Nat} (hp : (u.entry i).inPollList = true) (he : eligible (u.entry i) c = true)
    (hlow : ∀ j, j < i → (u.entry j).inPollList = true → eligible (u.entry j) c = false) :
    (pollList u).find? (fun j => eligible (u.entry j) c) = some i := by
  rw [pollList, List.find?_filter]
  refine find?_finRange_eq_some_iff.mpr ⟨by simp [hp, he], fun j hj => ?_⟩
  cases hpoll : (u.entry j).inPollList with
  | false => simp
  | true => simp [hlow j hj hpoll]

theorem pollList_ne_nil (hp : (u.entry i).inPollList = true) : pollList u ≠ [] :=
  List.ne_nil_of_mem (mem_pollList.mpr hp)

theorem nextPoll_eq_some {c : Nat} (h : nextPoll u = some (i, c)) :
    (u.entry i).inPollList = true ∧ eligible (u.entry i) c = true := by
  rw [nextPoll_eq] at h
  split at h
  · cases h
  · obtain ⟨hmem, he⟩ := searchPoll_eq_some h
    exact ⟨mem_pollList.mp (hmem.elim (fun hi => (List.mem_filter.mp hi).1) id), he⟩

theorem nextPoll_isSome (hp : (u.entry i).inPollList = true) : (nextPoll u).isSome = true := by
  rw [nextPoll_eq, if_neg (pollList_ne_nil hp)]
  by_contra hnone
  obtain ⟨m, hm, hle, hsixteen⟩ := cycle_sixteen u.link.cycle
  have he := searchPoll_eq_none (Option.not_isSome_iff_eq_none.mp hnone) m hm (by omega) i (mem_pollList.mpr hp)
  exact Bool.false_ne_true (he.symm.trans (eligible_of_sixteen _ hsixteen))

theorem nextPoll_here (hp : (u.entry i).inPollList = true) (he : eligible (u.entry i) u.link.cycle = true)
    (ha : afterCursor u i = true) (hlow : ∀ j, j < i → afterCursor u j = true → (u.entry j).inPollList = true →
      eligible (u.entry j) u.link.cycle = false) : nextPoll u = some (i, u.link.cycle) := by
  rw [nextPoll_eq, if_neg (pollList_ne_nil hp)]
  refine searchPoll_found ?_
  rw [pollList, List.filter_filter, List.find?_filter]
  refine find?_finRange_eq_some_iff.mpr ⟨by simp [hp, he, ha], fun j hj => ?_⟩
  cases hpoll : (u.entry j).inPollList with
  | false => simp
  | true =>
    cases hafter : afterCursor u j with
    | false => simp
    | true => simp [hlow j hj hafter hpoll]

theorem nextPoll_later {n : Nat} (hp : (u.entry i).inPollList = true)
    (he : eligible (u.entry i) ((u.link.cycle + n) % 65536) = true) (hn : 1 ≤ n)
    (hnow : ∀ j, afterCursor u j = true → (u.entry j).inPollList = true → eligible (u.entry j) u.link.cycle = false)
    (hbetween : ∀ m, 1 ≤ m → m < n → ∀ j, (u.entry j).inPollList = true →
      eligible (u.entry j) ((u.link.cycle + m) % 65536) = false)
    (hlow : ∀ j, j < i → (u.entry j).inPollList = true →
      eligible (u.entry j) ((u.link.cycle + n) % 65536) = false) :
    nextPoll u = some (i, (u.link.cycle + n) % 65536) := by
  have hfuel : n < 18 := by
    by_contra hlarge
    obtain ⟨m, hm, hle, hsixteen⟩ := cycle_sixteen u.link.cycle
    exact Bool.false_ne_true ((hbetween m hm (by omega) i hp).symm.trans (eligible_of_sixteen _ hsixteen))
  rw [nextPoll_eq, if_neg (pollList_ne_nil hp)]
  refine searchPoll_after hfuel hn (fun j hj => ?_) (fun m hm hlt j hj => hbetween m hm hlt j (mem_pollList.mp hj))
    (find?_pollList hp he hlow)
  obtain ⟨hj, ha⟩ := List.mem_filter.mp hj
  exact hnow j ha (mem_pollList.mp hj)

/-! ### The held entries (R63) -/

/-- The free places of the urgent queue. -/
def urgentRoom (u : State) : Nat := 16 - u.link.urgent.length

/-- The broadcasts that the queue holds for a record. -/
def heldBroadcasts (u : State) (n : AlertIx) : List Urgent :=
  List.replicate (tget u.link.heldBroadcast n) (.park n (u.alert n).code (u.alert n).mask)

theorem urgentRoom_append {xs : List Urgent} (h : t.link.urgent = u.link.urgent ++ xs.take (urgentRoom u)) :
    urgentRoom t = urgentRoom u - xs.length := by
  rw [urgentRoom, h, List.length_append, List.length_take]
  unfold urgentRoom
  omega

section Broadcasts
variable {n m : AlertIx}

theorem moveHeldPark_urgent (n : AlertIx) (u : State) :
    (moveHeldPark n u).link.urgent = u.link.urgent ++ (heldBroadcasts u n).take (urgentRoom u) := by
  simp [moveHeldPark, heldBroadcasts, urgentRoom, Nat.min_comm]

theorem moveHeldPark_held (n : AlertIx) (u : State) : tget (moveHeldPark n u).link.heldBroadcast n
    = tget u.link.heldBroadcast n - urgentRoom u := by
  simp only [moveHeldPark, modLink_link, tget_tset_self]
  unfold urgentRoom
  omega

theorem moveHeldPark_held_other (h : m ≠ n) (u : State) :
    tget (moveHeldPark n u).link.heldBroadcast m = tget u.link.heldBroadcast m := by
  simp [moveHeldPark, h]

theorem urgentRoom_moveHeldPark (n : AlertIx) (u : State) :
    urgentRoom (moveHeldPark n u) = urgentRoom u - tget u.link.heldBroadcast n := by
  rw [urgentRoom_append (moveHeldPark_urgent n u), heldBroadcasts, List.length_replicate]

theorem forEach_moveHeldPark_urgent (xs : List AlertIx) (hx : xs.Nodup) (u : State) :
    (forEach xs moveHeldPark u).link.urgent
      = u.link.urgent ++ (xs.flatMap (heldBroadcasts u)).take (urgentRoom u) := by
  induction xs generalizing u with
  | nil => simp [forEach]
  | cons x xs ih =>
    obtain ⟨hfresh, hx⟩ := List.nodup_cons.mp hx
    have hrest : xs.flatMap (heldBroadcasts (moveHeldPark x u)) = xs.flatMap (heldBroadcasts u) :=
      List.flatMap_congr fun m hm => by
        rw [heldBroadcasts, moveHeldPark_held_other (ne_of_mem_of_not_mem hm hfresh)]
        rfl
    calc (forEach (x :: xs) moveHeldPark u).link.urgent
        = (moveHeldPark x u).link.urgent
          ++ (xs.flatMap (heldBroadcasts (moveHeldPark x u))).take (urgentRoom (moveHeldPark x u)) := ih hx _
      _ = _ := by
        rw [hrest, moveHeldPark_urgent, urgentRoom_append (moveHeldPark_urgent x u), List.flatMap_cons,
          List.take_append, List.append_assoc]

theorem forEach_moveHeldPark_held_other {xs : List AlertIx} (h : n ∉ xs) (u : State) :
    tget (forEach xs moveHeldPark u).link.heldBroadcast n = tget u.link.heldBroadcast n := by
  induction xs generalizing u with
  | nil => rfl
  | cons x xs ih =>
    obtain ⟨hne, hn⟩ := not_or.mp (List.mem_cons.not.mp h)
    exact (ih hn (moveHeldPark x u)).trans (moveHeldPark_held_other hne u)

/-- R63: a record's broadcasts find the room that the records before it leave. -/
theorem forEach_moveHeldPark_held (xs : List AlertIx) (hx : xs.Nodup) (hn : n ∈ xs) (u : State) :
    tget (forEach xs moveHeldPark u).link.heldBroadcast n = tget u.link.heldBroadcast n
      - (urgentRoom u - ((xs.takeWhile (· ≠ n)).map (tget u.link.heldBroadcast)).sum) := by
  induction xs generalizing u with
  | nil => cases hn
  | cons x xs ih =>
    obtain ⟨hfresh, hx⟩ := List.nodup_cons.mp hx
    by_cases hxn : x = n
    · subst hxn
      rw [List.takeWhile_cons_of_neg (by simp)]
      exact (forEach_moveHeldPark_held_other hfresh _).trans (moveHeldPark_held x u)
    · have hmem : n ∈ xs := List.mem_of_ne_of_mem (Ne.symm hxn) hn
      have hbefore : (xs.takeWhile (· ≠ n)).map (tget (moveHeldPark x u).link.heldBroadcast)
          = (xs.takeWhile (· ≠ n)).map (tget u.link.heldBroadcast) :=
        List.map_congr_left fun m hm => moveHeldPark_held_other
          (ne_of_mem_of_not_mem ((List.takeWhile_prefix _).mem hm) hfresh) u
      rw [List.takeWhile_cons_of_pos (by simp [hxn]), List.map_cons, List.sum_cons]
      refine (ih hx hmem (moveHeldPark x u)).trans ?_
      rw [hbefore, urgentRoom_moveHeldPark, moveHeldPark_held_other (Ne.symm hxn)]
      omega

/-- The records before one, in ascending order. -/
theorem allAlerts_takeWhile (n : AlertIx) :
    allAlerts.takeWhile (· ≠ n) = (List.finRange 8).filter fun m => decide (m < n) := by
  revert n
  decide

theorem forEach_moveHeldPark_entries (xs : List AlertIx) (u : State) :
    (forEach xs moveHeldPark u).link.entries = u.link.entries :=
  forEach_keeps (P := fun t => t.link.entries = u.link.entries) (f := moveHeldPark) (fun _ _ h => h) xs rfl

end Broadcasts

section Marks

theorem moveHeldMark_room (hm : (u.entry i).heldUrgent = true) (hr : 0 < urgentRoom u) : moveHeldMark i u
    = modEntry i (fun e => { e with heldUrgent := false })
        (modLink (fun l => { l with urgent := l.urgent ++ [.station i] }) u) := by
  unfold moveHeldMark
  rw [if_pos ⟨hm, by unfold urgentRoom at hr; omega⟩]

theorem moveHeldMark_stays (h : (u.entry i).heldUrgent = true → urgentRoom u = 0) : moveHeldMark i u = u := by
  unfold moveHeldMark
  rw [if_neg fun ⟨hm, hlen⟩ => by have := h hm; unfold urgentRoom at this; omega]

theorem moveHeldMark_entry_other (h : j ≠ i) (u : State) : (moveHeldMark i u).entry j = u.entry j := by
  unfold moveHeldMark
  split
  · rw [modEntry_entry_other h]
    rfl
  · rfl

theorem forEach_moveHeldMark_entry_other {xs : List LinkId} (h : j ∉ xs) (u : State) :
    (forEach xs moveHeldMark u).entry j = u.entry j := by
  induction xs generalizing u with
  | nil => rfl
  | cons x xs ih =>
    obtain ⟨hne, hj⟩ := not_or.mp (List.mem_cons.not.mp h)
    exact (ih hj (moveHeldMark x u)).trans (moveHeldMark_entry_other hne u)

theorem filter_marked_moveHeldMark {xs : List LinkId} (h : i ∉ xs) (u : State) :
    xs.filter (fun j => ((moveHeldMark i u).entry j).heldUrgent) = xs.filter fun j => (u.entry j).heldUrgent :=
  List.filter_congr fun j hj => by rw [moveHeldMark_entry_other (ne_of_mem_of_not_mem hj h)]

/-- R63: the marked stations move into the queue in their order while there is room. -/
theorem forEach_moveHeldMark (xs : List LinkId) (hx : xs.Nodup) (u : State) :
    (forEach xs moveHeldMark u).link.urgent = u.link.urgent
        ++ ((xs.filter fun j => (u.entry j).heldUrgent).map Urgent.station).take (urgentRoom u)
      ∧ (xs.filter fun j => ((forEach xs moveHeldMark u).entry j).heldUrgent)
        = (xs.filter fun j => (u.entry j).heldUrgent).drop (urgentRoom u) := by
  induction xs generalizing u with
  | nil => simp [forEach]
  | cons x xs ih =>
    obtain ⟨hfresh, hx⟩ := List.nodup_cons.mp hx
    obtain ⟨hurgent, hmarks⟩ := ih hx (moveHeldMark x u)
    have hself : (forEach xs moveHeldMark (moveHeldMark x u)).entry x = (moveHeldMark x u).entry x :=
      forEach_moveHeldMark_entry_other hfresh _
    rw [filter_marked_moveHeldMark hfresh] at hurgent hmarks
    show (forEach xs moveHeldMark (moveHeldMark x u)).link.urgent = _
      ∧ (x :: xs).filter (fun j => ((forEach xs moveHeldMark (moveHeldMark x u)).entry j).heldUrgent) = _
    rw [List.filter_cons, List.filter_cons, hself, hurgent, hmarks]
    by_cases hm : (u.entry x).heldUrgent = true
    · rcases Nat.eq_zero_or_pos (urgentRoom u) with hr | hr
      · rw [moveHeldMark_stays fun _ => hr, hr]
        simp [hm]
      · have hmoved := moveHeldMark_room hm hr
        have hroom : urgentRoom (moveHeldMark x u) = urgentRoom u - 1 :=
          urgentRoom_append (xs := [.station x]) (by rw [hmoved, List.take_of_length_le (by exact hr)]; rfl)
        obtain ⟨k, hk⟩ : ∃ k, urgentRoom u = k + 1 := ⟨urgentRoom u - 1, by omega⟩
        rw [hroom, hmoved, modEntry_entry, hk, if_pos hm]
        simp
    · rw [moveHeldMark_stays fun h => absurd h hm]
      simp only [if_neg hm, and_self]

end Marks

/-- The second state is the first but for the urgent queue and what is held for it. -/
def UrgentMoved (u t : State) : Prop :=
  (∀ i, t.entry i = { u.entry i with heldUrgent := (t.entry i).heldUrgent })
  ∧ ∃ urgent held entries, t = { u with link := { u.link with
      urgent := urgent, heldBroadcast := held, entries := entries } }

theorem moveHeldPark_urgentMoved (n : AlertIx) (h : UrgentMoved u t) : UrgentMoved u (moveHeldPark n t) := by
  obtain ⟨hentry, urgent, held, entries, rfl⟩ := h
  exact ⟨hentry, _, _, _, rfl⟩

theorem moveHeldMark_urgentMoved (i : LinkId) (h : UrgentMoved u t) : UrgentMoved u (moveHeldMark i t) := by
  obtain ⟨hentry, urgent, held, entries, ht⟩ := h
  unfold moveHeldMark
  split
  · refine ⟨fun j => ?_, ?_⟩
    · by_cases hj : j = i
      · subst hj
        rw [modEntry_entry]
        exact congrArg (fun e : LinkEntry => { e with heldUrgent := false }) (hentry j)
      · rw [modEntry_entry_other hj]
        exact hentry j
    · subst ht
      exact ⟨_, _, _, rfl⟩
  · exact ⟨hentry, urgent, held, entries, ht⟩

theorem moveHeld_urgentMoved (u : State) : UrgentMoved u (moveHeld u) :=
  forEach_keeps (P := UrgentMoved u) (f := moveHeldMark) (fun i _ => moveHeldMark_urgentMoved i) _
    (forEach_keeps (P := UrgentMoved u) (f := moveHeldPark) (fun n _ => moveHeldPark_urgentMoved n) _
      ⟨fun _ => rfl, _, _, _, rfl⟩)

theorem UrgentMoved.frame (h : UrgentMoved u t) : t = { u with link := { u.link with
    urgent := t.link.urgent, heldBroadcast := t.link.heldBroadcast, entries := t.link.entries } } := by
  obtain ⟨-, _, _, _, rfl⟩ := h
  rfl

theorem moveHeld_link (u : State) :
    let broadcasts := allAlerts.flatMap (heldBroadcasts u)
    let marked := allLinks.filter fun i => (u.entry i).heldUrgent
    (moveHeld u).link.urgent = u.link.urgent ++ (broadcasts ++ marked.map Urgent.station).take (urgentRoom u)
      ∧ (∀ n, tget (moveHeld u).link.heldBroadcast n = tget u.link.heldBroadcast n - (urgentRoom u
          - (((List.finRange 8).filter fun m => decide (m < n)).map (tget u.link.heldBroadcast)).sum))
      ∧ (allLinks.filter fun i => ((moveHeld u).entry i).heldUrgent)
        = marked.drop (urgentRoom u - broadcasts.length) := by
  intro broadcasts marked
  have hqueued := forEach_moveHeldPark_urgent allAlerts (List.nodup_finRange 8) u
  have hentry : ∀ i, (forEach allAlerts moveHeldPark u).entry i = u.entry i := fun i =>
    congrArg (tget · i) (forEach_moveHeldPark_entries allAlerts u)
  obtain ⟨hurgent, hmarks⟩ := forEach_moveHeldMark allLinks (List.nodup_finRange 56) (forEach allAlerts moveHeldPark u)
  rw [urgentRoom_append hqueued, funext hentry] at hurgent hmarks
  rw [moveHeld]
  refine ⟨?_, fun n => ?_, hmarks⟩
  · rw [hurgent, hqueued, List.take_append, List.append_assoc]
  · have hkept : (forEach allLinks moveHeldMark (forEach allAlerts moveHeldPark u)).link.heldBroadcast
        = (forEach allAlerts moveHeldPark u).link.heldBroadcast :=
      forEach_keeps (P := fun t => t.link.heldBroadcast = (forEach allAlerts moveHeldPark u).link.heldBroadcast)
        (fun i t h => by unfold moveHeldMark; split <;> exact h) _ rfl
    rw [hkept, forEach_moveHeldPark_held allAlerts (List.nodup_finRange 8) (List.mem_finRange n), allAlerts_takeWhile]

/-! ### How a turn begins (R61, R62, R64) -/

/-- R64: the link after an addressed turn has begun. -/
def addressedLink (l : LinkUnit) (i : LinkId) : LinkUnit :=
  let e := tget l.entries i
  let sends := e.errorCount < 256 ∧ e.synchronised = true
  let plain : Turn := { station := some i, frame := frameOf i.1 (if e.errorCount < 256 then 1 else 2) e.sequence [],
                        sequence := e.sequence, sentCommand := none }
  { l with
    phase := .keyLead
      (match e.command with
      | some p =>
        if sends then
          let q := p.sequence.getD e.sequence
          { station := some i, frame := frameOf i.1 p.cmd.kindByte q p.cmd.payload, sequence := q,
            sentCommand := some q }
        else plain
      | none => plain)
    entries :=
      if sends then tset l.entries i { e with command := e.command.map fun p => { p with sends := p.sends + 1 } }
      else l.entries }

theorem addressedFrame_plain {e : LinkEntry} (h : ¬(e.errorCount < 256 ∧ e.synchronised = true) ∨ e.command = none) :
    addressedFrame i e = { station := some i, frame := frameOf i.1 (if e.errorCount < 256 then 1 else 2) e.sequence [],
                           sequence := e.sequence, sentCommand := none } := by
  unfold addressedFrame
  by_cases hl : e.errorCount < 256
  · rw [if_neg (LinkEntry.state_eq_lost.not.mpr (by omega)), if_pos hl]
    by_cases hs : e.synchronised = true
    · rw [if_pos hs, h.resolve_left fun hn => hn ⟨hl, hs⟩]
      rfl
    · rw [if_neg hs]
      rfl
  · rw [if_pos (LinkEntry.state_eq_lost.mpr (by omega)), if_neg hl]
    rfl

theorem addressedFrame_command {e : LinkEntry} {p : PendingCommand} (hl : e.errorCount < 256)
    (hs : e.synchronised = true) (hp : e.command = some p) : addressedFrame i e =
      { station := some i, frame := frameOf i.1 p.cmd.kindByte (p.sequence.getD e.sequence) p.cmd.payload,
        sequence := p.sequence.getD e.sequence, sentCommand := some (p.sequence.getD e.sequence) } := by
  unfold addressedFrame
  rw [if_neg (LinkEntry.state_eq_lost.not.mpr (by omega)), if_pos hs, hp]

theorem beginAddressed_eq (i : LinkId) (s : State) :
    beginAddressed i s = { s with link := addressedLink s.link i } := by
  have hentry : s.entry i = tget s.link.entries i := rfl
  dsimp only [beginAddressed, addressedLink]
  rw [hentry]
  generalize he : tget s.link.entries i = e
  by_cases hsends : e.errorCount < 256 ∧ e.synchronised = true
  · cases hp : e.command with
    | none =>
      have hsame : ({ e with command := none } : LinkEntry) = e := by rw [← hp]
      have hkept : tset s.link.entries i e = s.link.entries := he ▸ tset_self _ i
      rw [addressedFrame_plain (.inr hp), if_pos hsends, Option.map_none, hsame, hkept]
      rfl
    | some p =>
      rw [addressedFrame_command hsends.1 hsends.2 hp, if_pos hsends]
      simp [modLink, modEntry, he, hp, hsends]
  · rw [addressedFrame_plain (.inl hsends), if_neg hsends]
    cases e.command <;> simp only [if_neg hsends] <;> rfl

theorem beginTurn_broadcast {n : AlertIx} {c m : Byte} {rest : List Urgent}
    (h : chooseUrgent u u.link.urgent = some (.park n c m, rest)) :
    beginTurn u = beginBroadcast c m (modLink (fun l => { l with urgent := rest }) u) := by
  unfold beginTurn
  rw [h]

theorem beginTurn_urgent {rest : List Urgent} (h : chooseUrgent u u.link.urgent = some (.station i, rest)) :
    beginTurn u = beginAddressed i (modLink (fun l => { l with urgent := rest }) u) := by
  unfold beginTurn
  rw [h]

theorem beginTurn_poll {c : Nat} (h : chooseUrgent u u.link.urgent = none)
    (hn : nextPoll { u with link := { u.link with urgent := [] } } = some (i, c)) :
    beginTurn u = beginAddressed i { u with link := { u.link with urgent := [], cursor := some i, cycle := c } } := by
  unfold beginTurn
  rw [h]
  dsimp only [modLink]
  rw [hn]

theorem nextPoll_eq_none (h : ∀ i, (u.entry i).inPollList = false) : nextPoll u = none := by
  have hnone : pollList u = [] := List.filter_eq_nil_iff.mpr fun i _ => ne_true_of_eq_false (h i)
  rw [nextPoll_eq, if_pos hnone]

theorem beginTurn_none (h : chooseUrgent u u.link.urgent = none) (hp : ∀ i, (u.entry i).inPollList = false) :
    beginTurn u = { u with link := { u.link with urgent := [] } } := by
  unfold beginTurn
  rw [h]
  dsimp only [modLink]
  rw [nextPoll_eq_none (u := { u with link := { u.link with urgent := [] } }) hp]

theorem moveHeld_agenda (u : State) : (moveHeld u).agenda = u.agenda := by
  obtain ⟨-, _, _, _, h⟩ := moveHeld_urgentMoved u
  rw [h]

theorem exec_turnStart (s : State) : exec .turnStart s = actWhen turnDue startTurn s := rfl

/-- A turn that queues nothing is begun in one command. -/
theorem turnStart_begins (h : s.resetHeld = false) (hd : turnDue s = true)
    (hu : moveHeld { s with agenda := [] } = u) (hv : beginTurn u = v) (hq : v.agenda = []) :
    exec .turnStart s = .next (commit s v) := by
  subst hu hv
  rw [exec_turnStart]
  exact actWhen_quiet startTurn h hd hq

/-- Settles O31: the urgent queue and the poll list choose the turn, and the held entries move first. -/
theorem turnBegins : Obligations.TurnBegins := by
  unfold Obligations.TurnBegins
  refine ⟨fun s hr hm hw hp => ?_, fun u => ⟨fun _ _ h => chooseUrgent_eq_some h, chooseUrgent_eq_none,
    fun _ _ h => nextPoll_eq_some h, fun ⟨_, h⟩ => nextPoll_isSome h, fun i hi he ha hlow => ?_, eligible_iff,
    fun i n hi he hn hnow hbetween hlow => ?_⟩, fun u => ?_⟩
  · have hdue : turnDue s = true := by simp [turnDue, hm, hw, hp]
    have hquiet : (moveHeld { s with agenda := [] }).agenda = [] := moveHeld_agenda _
    generalize hu : moveHeld { s with agenda := [] } = u at hquiet ⊢
    refine ⟨fun m c k rest h => ?_, fun i rest h => ?_, fun i cycle h hn => ?_, fun h hn => ?_⟩
    · exact turnStart_begins hr hdue hu (beginTurn_broadcast h) hquiet
    · exact turnStart_begins hr hdue hu ((beginTurn_urgent h).trans (beginAddressed_eq i _)) hquiet
    · exact turnStart_begins hr hdue hu ((beginTurn_poll h hn).trans (beginAddressed_eq i _)) hquiet
    · exact turnStart_begins hr hdue hu (beginTurn_none h hn) hquiet
  · exact nextPoll_here hi he (afterCursor_iff.mpr ha) fun j hj hafter => hlow j hj (afterCursor_iff.mp hafter)
  · exact nextPoll_later hi he hn (fun j hafter => hnow j (afterCursor_iff.mp hafter)) hbetween hlow
  · obtain ⟨hurgent, hheld, hmarks⟩ := moveHeld_link u
    exact ⟨hurgent, hheld, hmarks, (moveHeld_urgentMoved u).1, (moveHeld_urgentMoved u).frame⟩

end Sys2Proof.Machine
end

section
/-!
The ends of passes (R133 to R138), and what the planner does when told of commands, lost links, transfers and covered
rows (O42).
-/

namespace Sys2Proof.Machine

variable {s t u v : State} {r q : RobotId} {row : RowId} {c : CtxIx} {p : Pass}

/-! ### One element after another -/

/-- What a loop does to the part of one element, when each round leaves the parts of the others: nothing without the
element, and with it what its own round does. -/
theorem forEach_part {α β : Type} (part : α → State → β) {f : α → State → State}
    (hf : ∀ x y s, y ≠ x → part y (f x s) = part y s) {xs : List α} {x : α} (hx : x ∉ xs) (s : State) :
    part x (forEach xs f s) = part x s := by
  induction xs generalizing s with
  | nil => rfl
  | cons y ys ih =>
    obtain ⟨hne, hx⟩ := not_or.mp (List.mem_cons.not.mp hx)
    exact (ih hx (f y s)).trans (hf y x s hne)

/-- The round of an element is made in a state that has what every round keeps. -/
theorem forEach_part_of_mem {α β : Type} (part : α → State → β) {f : α → State → State}
    (hf : ∀ x y s, y ≠ x → part y (f x s) = part y s) {P : State → Prop} (hP : ∀ x s, P s → P (f x s)) {xs : List α}
    (hn : xs.Nodup) {x : α} (hx : x ∈ xs) {s : State} (hs : P s) :
    ∃ v, P v ∧ part x v = part x s ∧ part x (forEach xs f s) = part x (f x v) := by
  induction xs generalizing s with
  | nil => cases hx
  | cons y ys ih =>
    obtain ⟨hfresh, hn⟩ := List.nodup_cons.mp hn
    by_cases hxy : x = y
    · subst hxy
      exact ⟨s, hs, rfl, forEach_part part hf hfresh (f x s)⟩
    · obtain ⟨v, hpv, hv, hlast⟩ := ih hn (List.mem_of_ne_of_mem hxy hx) (hP y s hs)
      exact ⟨v, hpv, hv.trans (hf y x s hxy), hlast⟩

/-! ### One robot's record and link entry -/

theorem robotLink_injective : Function.Injective robotLink := fun _ _ h => Fin.ext (Fin.mk.inj h)

theorem modRobot_modRobot (r : RobotId) (f g : Robot → Robot) (s : State) :
    modRobot r g (modRobot r f s) = modRobot r (fun b => g (f b)) s := by
  simp only [modRobot, tget_tset_self, tset_tset]

theorem modRobot_self (r : RobotId) (f : Robot → Robot) (s : State) : (modRobot r f s).robot r = f (s.robot r) :=
  tget_tset_self _ _ _

theorem modRobot_other (h : q ≠ r) (f : Robot → Robot) (s : State) : (modRobot r f s).robot q = s.robot q :=
  tget_tset_ne _ h _

/-- R65: the entry of a station once a command is set for it. -/
def LinkEntry.commanded (e : LinkEntry) (cmd : Cmd) (owner : Owner) : LinkEntry :=
  if e.inPollList then
    match e.command with
    | some p => if p.cmd = cmd ∧ p.owner = owner then { e with command := some { p with sends := 0 } }
      else e.withCommand cmd owner
    | none => e.withCommand cmd owner
  else e

/-- R65, R67: who is told that a command is set. -/
def LinkEntry.tells (e : LinkEntry) (i : LinkId) (cmd : Cmd) (owner : Owner) : List Job :=
  if e.inPollList then
    match e.command with
    | some p => if p.owner = owner then [] else [.told i p.owner p.cmd (.superseded cmd)]
    | none => []
  else [.told i owner cmd .noEcho]

theorem modEntry_congr {i : LinkId} {f g : LinkEntry → LinkEntry} (h : f (s.entry i) = g (s.entry i)) :
    modEntry i f s = modEntry i g s :=
  congrArg (fun e => { s with link := { s.link with entries := tset s.link.entries i e } }) h

theorem setCommand_eq (i : LinkId) (cmd : Cmd) (owner : Owner) (s : State) : setCommand i cmd owner s
    = pushAll ((s.entry i).tells i cmd owner) (modEntry i (fun e => e.commanded cmd owner) s) := by
  cases hpoll : (s.entry i).inPollList with
  | false =>
    rw [setCommand_unpolled hpoll, modEntry_eq_self (by simp [LinkEntry.commanded, hpoll]), LinkEntry.tells, hpoll]
    rfl
  | true =>
    cases hc : (s.entry i).command with
    | none =>
      rw [setCommand_free hpoll hc, LinkEntry.tells, hpoll, hc]
      exact (modEntry_congr (by simp [LinkEntry.commanded, hpoll, hc])).trans (pushAll_nil _).symm
    | some p =>
      by_cases hp : p.cmd = cmd ∧ p.owner = owner
      · obtain ⟨rfl, rfl⟩ := hp
        rw [setCommand_again hpoll hc, LinkEntry.tells, hpoll, hc]
        dsimp only
        rw [if_pos rfl, if_pos rfl]
        exact (modEntry_congr (by simp [LinkEntry.commanded, hpoll, hc])).trans (pushAll_nil _).symm
      · rw [setCommand_replaces hpoll hc hp, LinkEntry.tells, hpoll, hc]
        exact congrArg (pushAll _) (modEntry_congr (by simp [LinkEntry.commanded, hpoll, hc, hp]))

theorem setCommand_entry_other {i j : LinkId} (h : j ≠ i) (cmd : Cmd) (owner : Owner) (s : State) :
    (setCommand i cmd owner s).entry j = s.entry j := by
  rw [setCommand_eq]
  exact modEntry_entry_other h _ s

/-! ### The ends of passes -/

/-- From s to t a pass of the robot may have ended, with its effect on its row and the accounts, a context saved, and
its row put back in the list. -/
structure Ended (r : RobotId) (s t : State) : Prop where
  others : ∀ q, q ≠ r → t.robot q = s.robot q
  robot : ∃ c p, (p = none ∨ p = (s.robot r).pass) ∧ t.robot r = { s.robot r with context := c, pass := p }
  rest : t = { s with
    rows := t.rows, robots := t.robots, pool := t.pool, round := t.round, farm := t.farm, mirrors := t.mirrors
    board := t.board, agenda := t.agenda }

namespace Ended

theorem refl (r : RobotId) (s : State) : Ended r s s := ⟨fun _ _ => rfl, ⟨_, _, .inr rfl, rfl⟩, rfl⟩

theorem trans (h : Ended r s t) (g : Ended r t u) : Ended r s u where
  others q hq := (g.others q hq).trans (h.others q hq)
  robot := by
    obtain ⟨c, p, hp, ht⟩ := h.robot
    obtain ⟨d, o, ho, hu⟩ := g.robot
    rw [ht] at ho hu
    exact ⟨d, o, ho.elim .inl fun e => e ▸ hp, hu⟩
  rest := g.rest.trans (by rw [h.rest])

/-- What leaves the robots alone. -/
theorem of_frame (h : t = { s with
    rows := t.rows, pool := t.pool, round := t.round, farm := t.farm, mirrors := t.mirrors, board := t.board
    agenda := t.agenda }) : Ended r s t := by
  rw [h]
  exact ⟨fun _ _ => rfl, ⟨_, _, .inr rfl, rfl⟩, rfl⟩

theorem modRobot {f : Robot → Robot}
    (hf : ∀ b, ∃ c p, (p = none ∨ p = b.pass) ∧ f b = { b with context := c, pass := p }) :
    Ended r s (modRobot r f s) where
  others _ hq := modRobot_other hq f s
  robot := by
    rw [modRobot_self]
    exact hf _
  rest := rfl

theorem marked (h : Ended r s t) (m : MirrorId) : Ended r s (markRewrite m t) := h.trans (.of_frame rfl)
theorem pushed (h : Ended r s t) (j : Job) : Ended r s (push j t) := h.trans (.of_frame rfl)
theorem listLeft (h : Ended r s t) (row : RowId) : Ended r s (leaveList row t) := h.trans (.of_frame rfl)

theorem link (h : Ended r s t) : t.link = s.link := by rw [h.rest]
theorem alerts (h : Ended r s t) : t.alerts = s.alerts := by rw [h.rest]
theorem plant (h : Ended r s t) : t.plant = s.plant := by rw [h.rest]
theorem siteSecond (h : Ended r s t) : t.siteSecond = s.siteSecond := by rw [h.rest]

end Ended

theorem clearPass_ended (r : RobotId) (s : State) : Ended r s (clearPass r s) :=
  (Ended.modRobot fun _ => ⟨_, none, .inl rfl, rfl⟩).trans (.of_frame rfl)

theorem reinsertRow_ended (r : RobotId) (row : RowId) (s : State) : Ended r s (reinsertRow row s) := by
  unfold reinsertRow
  split
  · exact .of_frame rfl
  · exact .refl r s

theorem endUnstarted_ended (r : RobotId) (row : RowId) (s : State) : Ended r s (endUnstarted r row s) :=
  (clearPass_ended r s).trans (reinsertRow_ended r row _)

theorem endWithEffect_ended (r : RobotId) (row : RowId) (n : Nat) (s : State) : Ended r s (endWithEffect r row n s) :=
  (clearPass_ended r s).trans (.of_frame rfl)

theorem checkLowMark_ended (r : RobotId) (s : State) : Ended r s (checkLowMark s) := by
  unfold checkLowMark
  split
  · exact .of_frame rfl
  · exact .refl r s

theorem Ended.lowMarked (h : Ended r s t) : Ended r s (checkLowMark t) := h.trans (checkLowMark_ended r t)

theorem takeContext_ended (c : CtxIx) (x : SaveRequest) (s : State) : Ended x.robot s (takeContext c x s) := by
  unfold takeContext
  dsimp only
  refine .marked (.marked (.marked (.listLeft (.lowMarked (.trans ?_ (.modRobot ?_))) _) _) _) _
  · exact .of_frame rfl
  · exact fun _ => ⟨some c, _, .inr rfl, rfl⟩

theorem saveContext_ended (x : SaveRequest) (s : State) : Ended x.robot s (saveContext x s).2 := by
  unfold saveContext
  split
  · exact .of_frame rfl
  · split
    · exact .of_frame rfl
    · split
      · exact takeContext_ended _ x s
      · exact .of_frame rfl

theorem endWithEffect_pass (r : RobotId) (row : RowId) (n : Nat) (s : State) :
    ((endWithEffect r row n s).robot r).pass = none := clearPass_pass r s

theorem reinsertRow_robots (row : RowId) (s : State) : (reinsertRow row s).robots = s.robots := by
  unfold reinsertRow
  split <;> rfl

theorem endUnstarted_pass (r : RobotId) (row : RowId) (s : State) : ((endUnstarted r row s).robot r).pass = none := by
  rw [State.robot, endUnstarted, reinsertRow_robots]
  exact clearPass_pass r s

theorem endInterrupted_none (h : (s.robot r).pass = none) (cause : ContextCause) : endInterrupted r cause s = s := by
  unfold endInterrupted
  rw [h]

theorem endInterrupted_unstarted (h : (s.robot r).pass = some p) (hn : p.nothingDone = true) (cause : ContextCause) :
    endInterrupted r cause s = push (.examine r) (endUnstarted r p.row s) := by
  unfold endInterrupted
  rw [h]
  dsimp only
  rw [if_pos hn]

/-- R136: with something to save, the context is saved, or else the pass takes its effect. -/
theorem endInterrupted_done (h : (s.robot r).pass = some p) (hn : p.nothingDone = false) (cause : ContextCause) :
    endInterrupted r cause s = push (.examine r)
      (if (saveContext (.ofPass r p cause) s).1 then clearPass r (saveContext (.ofPass r p cause) s).2
      else endWithEffect r p.row p.covered (saveContext (.ofPass r p cause) s).2) := by
  unfold endInterrupted
  rw [h]
  dsimp only
  rw [if_neg (ne_true_of_eq_false hn)]

theorem endInterrupted_ended (r : RobotId) (cause : ContextCause) (s : State) :
    Ended r s (endInterrupted r cause s) := by
  cases hp : (s.robot r).pass with
  | none =>
    rw [endInterrupted_none hp]
    exact .refl r s
  | some p =>
    cases hn : p.nothingDone with
    | true =>
      rw [endInterrupted_unstarted hp hn]
      exact (endUnstarted_ended r p.row s).trans (.of_frame rfl)
    | false =>
      rw [endInterrupted_done hp hn]
      refine (saveContext_ended (.ofPass r p cause) s).trans (Ended.trans ?_ (.of_frame rfl))
      split
      · exact clearPass_ended r _
      · exact endWithEffect_ended r _ _ _

theorem endInterrupted_pass (r : RobotId) (cause : ContextCause) (s : State) :
    ((endInterrupted r cause s).robot r).pass = none := by
  cases hp : (s.robot r).pass with
  | none => rw [endInterrupted_none hp, hp]
  | some p =>
    cases hn : p.nothingDone with
    | true =>
      rw [endInterrupted_unstarted hp hn]
      exact endUnstarted_pass r p.row s
    | false =>
      rw [endInterrupted_done hp hn]
      show Robot.pass (State.robot (ite _ _ _) r) = none
      split
      · exact clearPass_pass r _
      · exact endWithEffect_pass r _ _ _

/-! ### A context saved (R171) -/

theorem saveContext_takes {x : SaveRequest} (hown : (s.robot x.robot).context = none) (hhead : s.pool.head = some c)
    (hfree : s.pool.freeCount ≠ 0) : saveContext x s = (true, takeContext c x s) := by
  unfold saveContext
  rw [hown]
  dsimp only
  rw [if_neg hfree, hhead]

theorem checkLowMark_robots (s : State) : (checkLowMark s).robots = s.robots := by
  unfold checkLowMark
  split <;> rfl

theorem checkLowMark_records (s : State) : (checkLowMark s).pool.records = s.pool.records := by
  unfold checkLowMark
  split <;> rfl

theorem takeContext_owner (c : CtxIx) (x : SaveRequest) (s : State) :
    ((takeContext c x s).robot x.robot).context = some c := by
  simp [State.robot, takeContext, leaveList, checkLowMark_robots]

theorem takeContext_record (c : CtxIx) (x : SaveRequest) (s : State) :
    (takeContext c x s).context c = Context.taken x s.round.number s.siteSecond := by
  simp [State.context, takeContext, leaveList, checkLowMark_records]

/-- R136, R171: a pass ends interrupted with its context in the record at the head of the free list. -/
theorem endInterrupted_saves (hp : (s.robot r).pass = some p) (hn : p.nothingDone = false)
    (hown : (s.robot r).context = none) (hhead : s.pool.head = some c) (hfree : s.pool.freeCount ≠ 0)
    (cause : ContextCause) : ((endInterrupted r cause s).robot r).context = some c
      ∧ (endInterrupted r cause s).context c = Context.taken (.ofPass r p cause) s.round.number s.siteSecond := by
  rw [endInterrupted_done hp hn, saveContext_takes hown hhead hfree]
  exact ⟨(clearPass_context r _ r).trans (takeContext_owner c (.ofPass r p cause) s),
    takeContext_record c (.ofPass r p cause) s⟩

theorem Pass.nothingDone_iff : p.nothingDone = true ↔ p.kind = .fresh ∧ (p.phase = .issued ∨ p.covered = 0) := by
  simp [Pass.nothingDone]

/-! ### A pass that has not reached the rail (R138) -/

theorem setHoming_robot (r : RobotId) (s : State) : (setHoming r s).robot r = { s.robot r with homingMark := true } :=
  modRobot_self r _ s

theorem endIssued_ended (hp : (s.robot r).pass = some p) (cause : ContextCause) :
    Ended r (setHoming r s) (endIssued r cause s) ∧ ((endIssued r cause s).robot r).pass = none := by
  unfold endIssued
  rw [hp]
  dsimp only
  split
  · exact ⟨endUnstarted_ended r p.row _, endUnstarted_pass r p.row _⟩
  · split
    · exact ⟨clearPass_ended r _, clearPass_pass r _⟩
    · have hsaved := saveContext_ended (.ofPass r p cause) (setHoming r s)
      split
      · exact ⟨hsaved.trans (clearPass_ended r _), clearPass_pass r _⟩
      · exact ⟨hsaved.trans (endWithEffect_ended r p.row p.covered _), endWithEffect_pass r p.row p.covered _⟩

theorem endIssued_none (h : (s.robot r).pass = none) (cause : ContextCause) : endIssued r cause s = s := by
  unfold endIssued
  rw [h]

theorem endIssued_others (h : q ≠ r) (cause : ContextCause) (s : State) :
    (endIssued r cause s).robot q = s.robot q := by
  cases hp : (s.robot r).pass with
  | none => rw [endIssued_none hp]
  | some p => exact ((endIssued_ended hp cause).1.others q h).trans (modRobot_other h _ s)

theorem endIssued_link (r : RobotId) (cause : ContextCause) (s : State) : (endIssued r cause s).link = s.link := by
  cases hp : (s.robot r).pass with
  | none => rw [endIssued_none hp]
  | some p => exact (endIssued_ended hp cause).1.link

theorem endIssued_homing (hp : (s.robot r).pass = some p) (cause : ContextCause) :
    ((endIssued r cause s).robot r).homingMark = true := by
  obtain ⟨_, _, -, hr⟩ := (endIssued_ended hp cause).1.robot
  rw [hr, setHoming_robot]

/-! ### Covered rows (R138) -/

/-- R138: the robot's pass is ISSUED on one of these rows. -/
def issuedOn (rows : List RowId) (s : State) (r : RobotId) : Bool :=
  match (s.robot r).pass with
  | some p => p.phase == .issued && rows.contains p.row
  | none => false

theorem issuedOn_iff {rows : List RowId} : issuedOn rows s r = true ↔
    ∃ p, (s.robot r).pass = some p ∧ p.phase = .issued ∧ p.row ∈ rows := by
  unfold issuedOn
  cases (s.robot r).pass with
  | none => simp
  | some p => simp

/-- R138: one robot is sent to its dock and its pass ends. -/
def sendHome (r : RobotId) (s : State) : State := endIssued r .storm (commandRobot r .gotoDock .planner s)

theorem coverRows_eq (rows : List RowId) (s : State) :
    coverRows rows s = forEach (allRobots.filter (issuedOn rows s)) sendHome s := rfl

theorem sendHome_robot_other (h : q ≠ r) (s : State) : (sendHome r s).robot q = s.robot q := by
  rw [sendHome, endIssued_others h, State.robot, commandRobot, setCommand_robots]
  rfl

theorem sendHome_entry_other (h : q ≠ r) (s : State) :
    (sendHome r s).entry (robotLink q) = s.entry (robotLink q) := by
  rw [sendHome, State.entry, endIssued_link]
  exact setCommand_entry_other (robotLink_injective.ne h) _ _ s

theorem sendHome_self (hp : (s.robot r).pass = some p) : ((sendHome r s).robot r).pass = none
    ∧ ((sendHome r s).robot r).homingMark = true ∧ Commanded (sendHome r s) (robotLink r) .gotoDock .planner := by
  have hpass : ((commandRobot r .gotoDock .planner s).robot r).pass = some p := by
    rw [State.robot, commandRobot, setCommand_robots]
    exact hp
  exact ⟨(endIssued_ended hpass .storm).2, endIssued_homing hpass .storm,
    (setCommand_commanded (robotLink r) .gotoDock .planner s).congr (endIssued_link r .storm _)⟩

theorem coverRows_uncovered {rows : List RowId} (h : issuedOn rows s r = false) :
    (coverRows rows s).robot r = s.robot r := by
  rw [coverRows_eq]
  exact forEach_part (fun q s => s.robot q) (fun _ _ s h => sendHome_robot_other h s)
    (fun hr => Bool.false_ne_true (h.symm.trans (List.mem_filter.mp hr).2)) s

theorem coverRows_covered {rows : List RowId} (h : issuedOn rows s r = true) :
    ((coverRows rows s).robot r).pass = none ∧ ((coverRows rows s).robot r).homingMark = true
      ∧ Commanded (coverRows rows s) (robotLink r) .gotoDock .planner := by
  obtain ⟨p, hp, -, -⟩ := issuedOn_iff.mp h
  obtain ⟨v, -, hv, hlast⟩ := forEach_part_of_mem (fun q s => (s.robot q, s.entry (robotLink q)))
    (fun _ _ s h => Prod.ext (sendHome_robot_other h s) (sendHome_entry_other h s)) (P := fun _ => True)
    (fun _ _ h => h) ((List.nodup_finRange 48).filter (issuedOn rows s))
    (List.mem_filter.mpr ⟨List.mem_finRange r, h⟩) (s := s) trivial
  obtain ⟨hrobot, hentry⟩ := Prod.mk.inj hlast
  obtain ⟨hpass, hhoming, hcmd⟩ := sendHome_self (s := v) ((congrArg (fun x => Robot.pass x.1) hv).trans hp)
  rw [coverRows_eq]
  refine ⟨(congrArg Robot.pass hrobot).trans hpass, (congrArg Robot.homingMark hrobot).trans hhoming, ?_⟩
  unfold Commanded at hcmd ⊢
  rwa [show (forEach (allRobots.filter (issuedOn rows s)) sendHome s).entry (robotLink r) = _ from hentry]

/-! ### A row put back in the list (R125) -/

/-- R123, R125: the entry stands before the row: forced, with a higher score, or with an equal one and a lower
number. -/
def Stands (u : State) (row : RowId) (x : RowId × Bool) : Prop :=
  x.2 = true ∨ (u.row row).lastScore < (u.row x.1).lastScore
    ∨ (u.row x.1).lastScore = (u.row row).lastScore ∧ x.1 < row

theorem stands_iff {x : RowId × Bool} : (x.2 || standsBefore u x.1 row) = true ↔ Stands u row x := by
  simp [Stands, standsBefore]

theorem insertScored_split (u : State) (row : RowId) (xs : List (RowId × Bool)) : ∃ before after, xs = before ++ after
    ∧ insertScored u row xs = before ++ (row, false) :: after
    ∧ (∀ x ∈ before, Stands u row x) ∧ ∀ x rest, after = x :: rest → ¬Stands u row x := by
  induction xs with
  | nil => exact ⟨[], [], rfl, rfl, nofun, nofun⟩
  | cons x xs ih =>
    by_cases hx : Stands u row x
    · obtain ⟨before, after, rfl, hins, hbefore, hafter⟩ := ih
      refine ⟨x :: before, after, rfl, ?_, List.forall_mem_cons.mpr ⟨hx, hbefore⟩, hafter⟩
      rw [insertScored, if_pos (stands_iff.mpr hx), hins]
      rfl
    · refine ⟨[], x :: xs, rfl, ?_, nofun, fun y rest hy => ?_⟩
      · rw [insertScored, if_neg (stands_iff.not.mpr hx)]
        rfl
      · cases hy
        exact hx

theorem isPassRow_iff : isPassRow u row = false ↔ ∀ q p, (u.robot q).pass = some p → p.row ≠ row := by
  simp [isPassRow, allRobots, Robot.passRow]

theorem reinsertable_iff : reinsertable u row = true ↔
    u.round.state = .active ∧ (u.site row).present = true ∧ (u.row row).enabled = true ∧ (u.row row).contested = false
      ∧ (u.row row).reserved = none ∧ (∀ q p, (u.robot q).pass = some p → p.row ≠ row)
      ∧ (∀ o, (u.row row).occupant = some o → (u.robot o).context = none)
      ∧ u.round.leastLoss ≤ 32768 - (u.row row).tr ∧ 0 < (u.row row).lastScore
      ∧ ∀ p ∈ u.round.candidates, p.1 ≠ row := by
  have howner : occupantOwnsContext u row = false
      ↔ ∀ o, (u.row row).occupant = some o → (u.robot o).context = none := by
    unfold occupantOwnsContext
    cases (u.row row).occupant <;> simp
  have hlisted : isCandidate u row = false ↔ ∀ p ∈ u.round.candidates, p.1 ≠ row := by
    simp [isCandidate]
  rw [← isPassRow_iff, ← howner, ← hlisted, ← show lossOf (u.row row).tr = 32768 - (u.row row).tr from rfl]
  simp [reinsertable, and_assoc]

theorem reinsertRow_unqualified (h : reinsertable u row = false) : reinsertRow row u = u := by
  unfold reinsertRow
  rw [if_neg (ne_true_of_eq_false h)]

theorem reinsertRow_qualified (h : reinsertable u row = true) : reinsertRow row u = { u with
    agenda := u.agenda ++ [.examineBlock (u.site row).block]
    round := { u.round with candidates := insertScored u row u.round.candidates } } := by
  unfold reinsertRow
  rw [if_pos h]
  rfl

/-! ### What the planner is told of a CLEAN (R133) -/

theorem handle_toldPlanner (r : RobotId) (cmd : Cmd) (what : Told) (u : State) :
    handle (.told (robotLink r) .planner cmd what) u = toldPlanner r cmd what u := by
  show tellOwner (robotLink r) .planner cmd what u = _
  unfold tellOwner
  exact dif_pos r.2

theorem cleanDelivered_releases (hc : (u.robot r).context = some c) (hp : (u.robot r).pass = some p)
    (hk : p.kind = .resume c) : cleanDelivered r u = freeContext c u := by
  have hres : (u.robot r).resumes c = true := by simp [Robot.resumes, hp, hk]
  unfold cleanDelivered
  rw [hc]
  exact if_pos hres

theorem cleanDelivered_stands
    (h : ∀ c p, (u.robot r).context = some c → (u.robot r).pass = some p → p.kind ≠ .resume c) :
    cleanDelivered r u = u := by
  unfold cleanDelivered
  cases hc : (u.robot r).context with
  | none => rfl
  | some c =>
    refine if_neg fun hres => ?_
    unfold Robot.resumes at hres
    cases hp : (u.robot r).pass with
    | none => rw [hp] at hres; exact Bool.false_ne_true hres
    | some p => rw [hp] at hres; exact h c p hc hp (beq_iff_eq.mp hres)

theorem clearPass_modRobot (r : RobotId) (f : Robot → Robot) (u : State) : clearPass r (modRobot r f u)
    = { u with
        agenda := u.agenda ++ [.closeCheck], robots := tset u.robots r { f (u.robot r) with pass := none } } := by
  rw [clearPass, modRobot_modRobot]
  rfl

theorem cleanFailed_none (h : (u.robot r).pass = none) :
    cleanFailed r u = { u with robots := tset u.robots r { u.robot r with noEchoBar := true } } := by
  unfold cleanFailed
  dsimp only
  rw [modRobot_self]
  split
  next => rfl
  next p hp => cases h.symm.trans hp

theorem cleanFailed_pass (h : (u.robot r).pass = some p) :
    let ended := { u with
      agenda := u.agenda ++ [.closeCheck]
      robots := tset u.robots r { u.robot r with noEchoBar := true, pass := none } }
    (p.kind = .fresh → cleanFailed r u = reinsertRow p.row ended) ∧ (p.kind ≠ .fresh → cleanFailed r u = ended) := by
  intro ended
  have hended : clearPass r (modRobot r (fun b => { b with noEchoBar := true }) u) = ended := clearPass_modRobot r _ u
  unfold cleanFailed
  dsimp only
  rw [modRobot_self, hended]
  refine ⟨fun hk => ?_, fun hk => ?_⟩
  · rw [h]
    dsimp only
    rw [hk]
  · rw [h]
    dsimp only
    cases hk' : p.kind with
    | fresh => exact absurd hk' hk
    | resume c => rfl

theorem cleanSuperseded_resuming (hc : (u.robot r).context = some c) (hp : (u.robot r).pass = some p)
    (hk : p.kind = .resume c) (hi : p.phase = .issued) :
    cleanSuperseded r u = push (.examine r) (clearPass r u) := by
  have hres : (u.robot r).resuming c = true := by simp [Robot.resuming, hp, hk, hi]
  unfold cleanSuperseded
  rw [hc]
  exact if_pos hres

/-- R133: where the pass does not resume the context that the robot owns, it ends interrupted. -/
theorem cleanSuperseded_interrupts (h : ∀ c p, (u.robot r).context = some c → (u.robot r).pass = some p →
    ¬(p.kind = .resume c ∧ p.phase = .issued)) : cleanSuperseded r u = endInterrupted r .storm u := by
  unfold cleanSuperseded
  cases hc : (u.robot r).context with
  | none => rfl
  | some c =>
    refine if_neg fun hres => ?_
    unfold Robot.resuming at hres
    cases hp : (u.robot r).pass with
    | none => rw [hp] at hres; exact Bool.false_ne_true hres
    | some p => rw [hp] at hres; exact h c p hc hp (by simpa using hres)

theorem cleanSuperseded_pass (r : RobotId) (u : State) : ((cleanSuperseded r u).robot r).pass = none := by
  unfold cleanSuperseded
  split
  · split
    · exact clearPass_pass r u
    · exact endInterrupted_pass r .storm u
  · exact endInterrupted_pass r .storm u

/-! ### A lost link (R71, R136) -/

/-- R136: the first step: a CLEAN still pending for a pass is cleared. -/
def dropClean (r : RobotId) (s : State) : State :=
  if (s.robot r).pass.isSome && plannerPending s r Cmd.isClean then clearCommand (robotLink r) s else s

/-- R140, R143: the robot's homing and recall marks go. -/
def dropMarks (r : RobotId) (s : State) : State :=
  push .closeCheck (modRobot r (fun b => { b with homingMark := false, recallMark := false }) s)

theorem handle_robotLost (r : RobotId) (u : State) :
    handle (.robotLost r) u = dropMarks r (endInterrupted r .linkLost (dropClean r u)) := rfl

theorem dropClean_frame (r : RobotId) (u : State) : dropClean r u = { u with link := (dropClean r u).link } := by
  unfold dropClean
  split <;> rfl

theorem dropClean_idle (h : (u.robot r).pass = none) : dropClean r u = u := by
  unfold dropClean
  rw [h]
  rfl

theorem dropClean_command (hp : (u.robot r).pass ≠ none)
    (h : ∃ x, (u.entry (robotLink r)).command = some x ∧ x.owner = .planner ∧ x.cmd.isClean = true) :
    ((dropClean r u).entry (robotLink r)).command = none := by
  obtain ⟨x, hx, hown, hclean⟩ := h
  have hpending : plannerPending u r Cmd.isClean = true := by simp [plannerPending, hx, hown, hclean]
  unfold dropClean
  rw [if_pos (by simp [hpending, Option.isSome_iff_ne_none, hp])]
  exact congrArg LinkEntry.command (modEntry_entry _ _ u)

theorem dropMarks_robot (r : RobotId) (s : State) :
    (dropMarks r s).robot r = { s.robot r with homingMark := false, recallMark := false } :=
  modRobot_self r (fun b => { b with homingMark := false, recallMark := false }) s

/-- Settles O42: each notice of the planner, by what it finds of the robot's pass and context. -/
theorem plannerTold : Obligations.PlannerTold := by
  unfold Obligations.PlannerTold
  refine ⟨fun u r row leg position => ?_, fun u r => ?_, fun u r row => ⟨rfl, fun what hw => ?_⟩, fun u rows => ?_,
    fun u row => ?_⟩
  · intro b told unpassed
    have htold : ∀ what, told what = toldPlanner r (.clean row leg position) what u := fun what =>
      handle_toldPlanner r _ what u
    simp only [htold]
    refine ⟨⟨fun c p => cleanDelivered_releases, fun h => cleanDelivered_stands fun c p hc hp hk => ?_⟩,
      ⟨cleanFailed_none, fun p => cleanFailed_pass⟩, fun by_ => ⟨fun hp => ?_, fun p hp => ⟨cleanSuperseded_pass r u,
        fun c hc hk hi => ?_, fun hk hn => ?_, fun c hhead hfree hown hn => ?_⟩⟩⟩
    · obtain hnone | hnone | ⟨o, ho, hnot⟩ := h
      · cases hc.symm.trans hnone
      · cases hp.symm.trans hnone
      · cases hp.symm.trans ho
        exact hnot c hc hk
    · exact (cleanSuperseded_interrupts fun c p _ h => by cases hp.symm.trans h).trans (endInterrupted_none hp _)
    · exact (cleanSuperseded_resuming hc hp hk hi).trans
        (congrArg (fun js => { unpassed with agenda := js }) (List.append_assoc u.agenda _ _))
    · exact (cleanSuperseded_interrupts fun c o _ h => by cases hp.symm.trans h; simp [hk]).trans
        (endInterrupted_unstarted hp (Pass.nothingDone_iff.mpr ⟨hk, hn⟩) _)
    · obtain ⟨howns, hrecord⟩ := endInterrupted_saves hp (Bool.eq_false_iff.mpr (Pass.nothingDone_iff.not.mpr hn))
        hown hhead hfree .storm
      rw [← cleanSuperseded_interrupts fun c o h _ => by cases hown.symm.trans h] at howns hrecord
      exact ⟨howns, congrArg Context.cause hrecord, congrArg Context.row hrecord, congrArg Context.covered hrecord⟩
  · intro b t
    have ht : t = dropMarks r (endInterrupted r .linkLost (dropClean r u)) := rfl
    have hbegin := dropClean_frame r u
    rw [ht, dropMarks_robot]
    refine ⟨endInterrupted_pass r _ _, rfl, rfl, fun hp hclean => ?_, fun hp => ?_,
      fun p c hp hhead hfree hown hn => ?_⟩
    · show ((endInterrupted r .linkLost (dropClean r u)).entry (robotLink r)).command = none
      rw [State.entry, (endInterrupted_ended r .linkLost _).link]
      exact dropClean_command hp hclean
    · rw [dropClean_idle hp, endInterrupted_none hp]
      rfl
    · rw [hbegin]
      exact ⟨(endInterrupted_saves (s := { u with link := (dropClean r u).link }) hp
          (Bool.eq_false_iff.mpr (Pass.nothingDone_iff.not.mpr hn)) hown hhead hfree _).1,
        congrArg Context.cause (endInterrupted_saves (s := { u with link := (dropClean r u).link }) hp
          (Bool.eq_false_iff.mpr (Pass.nothingDone_iff.not.mpr hn)) hown hhead hfree _).2⟩
  · obtain rfl | rfl := hw <;> rfl
  · intro t r covered
    have hcov : issuedOn rows u r = true ↔ covered := issuedOn_iff
    exact ⟨fun h => coverRows_covered (hcov.mpr h), fun h =>
      coverRows_uncovered (Bool.eq_false_iff.mpr (hcov.not.mpr h))⟩
  · intro x t qualifies stands
    have hq : reinsertable u row = true ↔ qualifies := reinsertable_iff
    refine ⟨fun h => reinsertRow_unqualified (Bool.eq_false_iff.mpr (hq.not.mpr h)), fun h => ?_⟩
    obtain ⟨before, after, hlist, hins, hbefore, hafter⟩ := insertScored_split u row u.round.candidates
    exact ⟨before, after, hlist, hins ▸ reinsertRow_qualified (hq.mpr h), hbefore, hafter⟩

end Sys2Proof.Machine
end

section
/-!
What entering PARKING does (O50).
-/

namespace Sys2Proof.Machine

variable {s t u v : State} {n m : AlertIx} {r q : RobotId} {deadline : Nat} {was : RobotId → Bool}

/-! ### A change of one alert record -/

theorem changeAlert_alerts (n : AlertIx) (f : Alert → Alert) (s : State) :
    (changeAlert n f s).alerts = tset s.alerts n (f (s.alert n)) := by
  have hrefresh : ∀ w, (refreshFlags w).alerts = w.alerts := fun w =>
    forEach_keeps (P := fun v => v.alerts = w.alerts) (f := fun r => modRobot r _) (fun _ _ h => h) _ rfl
  unfold changeAlert
  dsimp only
  rw [hrefresh]
  split <;> rfl

theorem dropRelease_target (rows : List RowId) (s : State) (r : RobotId) :
    ((dropRelease rows s).robot r).storm.target = (s.robot r).storm.target :=
  forEach_keeps (P := fun v => (v.robot r).storm.target = (s.robot r).storm.target)
    (f := fun q => modRobot q fun b => { b with storm := { b.storm with release := false } })
    (fun q v h => by
      by_cases hr : r = q
      · subst hr
        rw [modRobot_self]
        exact h
      · rwa [modRobot_other hr]) _ rfl

theorem changeAlert_target (n : AlertIx) (f : Alert → Alert) (s : State) (r : RobotId) :
    ((changeAlert n f s).robot r).storm.target = (s.robot r).storm.target := by
  unfold changeAlert refreshFlags
  dsimp only
  refine (dropRelease_target _ _ r).trans ?_
  split <;> rfl

/-! ### The set of a record cleared (R191, R195) -/

/-- R192: the robot belongs to the set of another record. -/
def inOtherSet (u : State) (n : AlertIx) (r : RobotId) : Bool :=
  allAlerts.any fun m => m != n && (u.alert m).member r != .out

theorem inOtherSet_iff : inOtherSet u n r = true ↔ ∃ m, m ≠ n ∧ (u.alert m).member r ≠ .out := by
  simp [inOtherSet, allAlerts]

/-- R192, R195: the target a robot has once the set of the record is cleared. -/
def targetBefore (u : State) (n : AlertIx) (r : RobotId) : StormTarget :=
  if inOtherSet u n r then (u.robot r).storm.target else .none

theorem inSomeSet_congr (h : t.alerts = s.alerts) (r : RobotId) : inSomeSet t r = inSomeSet s r := by
  unfold inSomeSet State.alert
  rw [h]

theorem inSomeSet_emptied (u : State) (n : AlertIx) (r : RobotId) :
    inSomeSet (modAlert n (fun a => { a with members := tfill 48 .out }) u) r = inOtherSet u n r := by
  refine congrArg (List.any allAlerts) (funext fun m => ?_)
  rw [State.alert, modAlert_alerts, tget_tset]
  split
  next h => simp [h, Alert.member]
  next h => simp [h, State.alert]

theorem dropTarget_robot_other (h : q ≠ r) (s : State) : (dropTarget r s).robot q = s.robot q := by
  unfold dropTarget
  split
  · rfl
  · exact modRobot_other h _ s

theorem dropTarget_target (r : RobotId) (s : State) :
    ((dropTarget r s).robot r).storm.target = if inSomeSet s r then (s.robot r).storm.target else .none := by
  unfold dropTarget
  split
  · rfl
  · rw [modRobot_self]
    rfl

theorem dropTarget_alerts (r : RobotId) (s : State) : (dropTarget r s).alerts = s.alerts := by
  unfold dropTarget
  split <;> rfl

theorem clearSet_alerts (n : AlertIx) (u : State) :
    (clearSet n u).alerts = tset u.alerts n { u.alert n with members := tfill 48 .out } :=
  forEach_keeps (P := fun v => v.alerts = tset u.alerts n { u.alert n with members := tfill 48 .out })
    (f := dropTarget) (fun r v h => (dropTarget_alerts r v).trans h) _ rfl

theorem clearSet_target (n : AlertIx) (u : State) (r : RobotId) :
    ((clearSet n u).robot r).storm.target = targetBefore u n r := by
  obtain ⟨v, halerts, hv, hlast⟩ := forEach_part_of_mem (fun q s => s.robot q) (f := dropTarget) (xs := allRobots)
    (fun _ _ s h => dropTarget_robot_other h s)
    (P := fun v => v.alerts = (modAlert n (fun a => { a with members := tfill 48 .out }) u).alerts)
    (fun q v h => (dropTarget_alerts q v).trans h) (List.nodup_finRange 48) (List.mem_finRange r)
    (s := modAlert n (fun a => { a with members := tfill 48 .out }) u) rfl
  rw [clearSet, hlast, dropTarget_target, inSomeSet_congr halerts, inSomeSet_emptied, hv]
  rfl

theorem clearSet_supervised (n : AlertIx) (u : State) : Supervised u (clearSet n u) :=
  (modAlert_supervised n _ u).trans (forEach_supervised dropTarget_supervised allRobots _)

/-! ### Before the members join -/

/-- R191 steps 1 to 3: the record as it enters PARKING. -/
def Alert.parking (a : Alert) (deadline : Nat) : Alert :=
  { a with state := .parking, deadline := deadline, toSecure := 0, secured := 0, late := 0, members := tfill 48 .out }

/-- R191: the record has entered PARKING with its set empty; the robots are as they were but for their passes, contexts
and storm marks. -/
structure ParkingBegun (n : AlertIx) (deadline : Nat) (u s : State) : Prop where
  alert : s.alert n = (u.alert n).parking deadline
  robot : ∀ r, ∃ c p m, m.target = targetBefore u n r ∧ (p = none ∨ p = (u.robot r).pass)
    ∧ s.robot r = { u.robot r with context := c, pass := p, storm := m }
  entries : s.link.entries = u.link.entries
  plant : s.plant = u.plant
  siteSecond : s.siteSecond = u.siteSecond

namespace ParkingBegun

theorem activity (h : ParkingBegun n deadline u s) (r : RobotId) : (s.robot r).activity = (u.robot r).activity := by
  obtain ⟨c, p, m, -, -, hr⟩ := h.robot r
  rw [hr]

theorem place (h : ParkingBegun n deadline u s) (r : RobotId) : (s.robot r).place = (u.robot r).place := by
  obtain ⟨c, p, m, -, -, hr⟩ := h.robot r
  rw [hr]

theorem position (h : ParkingBegun n deadline u s) (r : RobotId) : (s.robot r).position = (u.robot r).position := by
  obtain ⟨c, p, m, -, -, hr⟩ := h.robot r
  rw [hr]

theorem target (h : ParkingBegun n deadline u s) (r : RobotId) : (s.robot r).storm.target = targetBefore u n r := by
  obtain ⟨c, p, m, hm, -, hr⟩ := h.robot r
  rw [hr]
  exact hm

theorem passless (h : ParkingBegun n deadline u s) (hr : (u.robot r).pass = none) : (s.robot r).pass = none := by
  obtain ⟨c, p, m, -, hp, hrobot⟩ := h.robot r
  rw [hrobot]
  exact hp.elim id fun e => e.trans hr

theorem standsIn (h : ParkingBegun n deadline u s) (r : RobotId) : standsIn s n r = standsIn u n r := by
  unfold Machine.standsIn Robot.row?
  rw [h.place, h.alert]
  rfl

end ParkingBegun

/-- R191 steps 1 and 2. -/
def beginParking (n : AlertIx) (deadline : Nat) (s : State) : State :=
  changeAlert n (fun a => { a with state := .parking, deadline := deadline, toSecure := 0, secured := 0, late := 0 })
    (clearSet n s)

theorem beginParking_supervised (n : AlertIx) (deadline : Nat) (u : State) :
    Supervised u (beginParking n deadline u) := (clearSet_supervised n u).trans (changeAlert_supervised n _ _)

theorem beginParking_begun (n : AlertIx) (deadline : Nat) (u : State) :
    ParkingBegun n deadline u (beginParking n deadline u) where
  alert := by
    rw [State.alert, beginParking, changeAlert_alerts, tget_tset_self, State.alert, clearSet_alerts, tget_tset_self]
    rfl
  robot r := by
    obtain ⟨m, -, hr⟩ := (beginParking_supervised n deadline u).robots r
    refine ⟨_, _, m, ?_, .inr rfl, hr⟩
    rw [← clearSet_target, ← changeAlert_target n _ (clearSet n u) r]
    exact (congrArg (fun b => b.storm.target) hr).symm
  entries := congrArg LinkUnit.entries (beginParking_supervised n deadline u).link
  plant := (beginParking_supervised n deadline u).plant
  siteSecond := by rw [(beginParking_supervised n deadline u).rest]

/-! ### The broadcasts (R63, R191 step 3) -/

theorem pushPark_frame (n : AlertIx) (s : State) : pushPark n s = { s with link := { s.link with
    urgent := (pushPark n s).link.urgent, heldBroadcast := (pushPark n s).link.heldBroadcast } } := by
  unfold pushPark
  dsimp only
  split <;> rfl

theorem pushPark_urgent (h : s.link.urgent.length < 16) (n : AlertIx) :
    (pushPark n s).link.urgent = s.link.urgent ++ [.park n (s.alert n).code (s.alert n).mask] := by
  unfold pushPark
  dsimp only
  rw [if_pos h]
  rfl

theorem ParkingBegun.pushPark (h : ParkingBegun n deadline u s) : ParkingBegun n deadline u (pushPark n s) := by
  rw [pushPark_frame]
  exact ⟨h.alert, h.robot, h.entries, h.plant, h.siteSecond⟩

theorem pushPark_alerts (n : AlertIx) (s : State) : (pushPark n s).alerts = s.alerts := by rw [pushPark_frame]

theorem pushPark_robots (n : AlertIx) (s : State) : (pushPark n s).robots = s.robots := by rw [pushPark_frame]

theorem pushPark_thrice (h : s.link.urgent.length ≤ 13) (n : AlertIx) :
    (pushPark n (pushPark n (pushPark n s))).link.urgent
      = s.link.urgent ++ List.replicate 3 (.park n (s.alert n).code (s.alert n).mask) := by
  have hone := pushPark_urgent (s := s) (by omega) n
  have htwo := pushPark_urgent (s := pushPark n s) (by simp [hone]; omega) n
  have hthree := pushPark_urgent (s := pushPark n (pushPark n s)) (by simp [htwo, hone]; omega) n
  rw [hthree, htwo, hone]
  simp [State.alert, pushPark_alerts, List.replicate]

/-! ### The passes on the rail (R191 step 3) -/

/-- R191: a robot cleaning on the rail at a row of the record. -/
def onRailAt (s : State) (n : AlertIx) (r : RobotId) : Bool :=
  standsIn s n r && (s.robot r).activity == .cleaning && (s.robot r).passOnRail

/-- R191: the passes on the rail at the rows of the record end. -/
def endPasses (n : AlertIx) (s : State) : State :=
  forEach (allRobots.filter (onRailAt s n)) (fun r => endInterrupted r .storm) s

theorem ParkingBegun.ended (h : ParkingBegun n deadline u s) (he : Ended q s t) : ParkingBegun n deadline u t where
  alert := by rw [State.alert, he.alerts]; exact h.alert
  robot r := by
    obtain ⟨c, p, m, hm, hp, hr⟩ := h.robot r
    by_cases hq : r = q
    · subst hq
      obtain ⟨d, o, ho, ht⟩ := he.robot
      rw [hr] at ho ht
      exact ⟨d, o, m, hm, ho.elim .inl fun e => e ▸ hp, ht⟩
    · rw [he.others r hq]
      exact ⟨c, p, m, hm, hp, hr⟩
  entries := by rw [he.link]; exact h.entries
  plant := he.plant.trans h.plant
  siteSecond := he.siteSecond.trans h.siteSecond

theorem endPasses_begun (h : ParkingBegun n deadline u s) : ParkingBegun n deadline u (endPasses n s) :=
  forEach_keeps (P := ParkingBegun n deadline u) (f := fun r => endInterrupted r .storm)
    (fun r v hv => hv.ended (endInterrupted_ended r .storm v)) _ h

theorem endPasses_link (n : AlertIx) (s : State) : (endPasses n s).link = s.link :=
  forEach_keeps (P := fun v => v.link = s.link) (f := fun r => endInterrupted r .storm)
    (fun r v hv => (endInterrupted_ended r .storm v).link.trans hv) _ rfl

theorem endPasses_pass (h : onRailAt s n r = true) : ((endPasses n s).robot r).pass = none := by
  obtain ⟨v, -, -, hlast⟩ := forEach_part_of_mem (fun q s => s.robot q) (f := fun r => endInterrupted r .storm)
    (fun q _ s hq => (endInterrupted_ended q .storm s).others _ hq) (P := fun _ => True) (fun _ _ h => h)
    ((List.nodup_finRange 48).filter (onRailAt s n)) (List.mem_filter.mpr ⟨List.mem_finRange r, h⟩) (s := s) trivial
  exact (congrArg Robot.pass hlast).trans (endInterrupted_pass r .storm v)

/-! ### The members join (R191 step 4, R192) -/

/-- R191: the robot stands clamped under an earlier shelter. -/
def securedAtOnce (was : RobotId → Bool) (s : State) (r : RobotId) : Bool :=
  (s.robot r).activity == .clamped && was r

/-- R191: the record with one robot more in its set. -/
def Alert.joined (a : Alert) (r : RobotId) (secured : Bool) : Alert :=
  { a with
    members := tset a.members r (if secured then .secured else .unsecured), toSecure := countRobot a.toSecure
    secured := if secured then countRobot a.secured else a.secured }

theorem Alert.joined_member (a : Alert) (r : RobotId) (secured : Bool) :
    (a.joined r secured).member r = if secured then .secured else .unsecured := tget_tset_self _ _ _

theorem Alert.joined_member_other (h : q ≠ r) (a : Alert) (secured : Bool) :
    (a.joined r secured).member q = a.member q := tget_tset_ne _ h _

theorem joinSet_secured (n : AlertIx) (r : RobotId) (s : State) :
    joinSet n r .secured s = modAlert n (fun a => a.joined r true) s := rfl

theorem joinSet_unsecured (n : AlertIx) (r : RobotId) (s : State) :
    joinSet n r .unsecured s = modAlert n (fun a => a.joined r false) s := rfl

theorem modAlert_alert (n : AlertIx) (f : Alert → Alert) (s : State) : (modAlert n f s).alert n = f (s.alert n) :=
  tget_tset_self _ _ _

theorem parkMember_secured (h : securedAtOnce was s r = true) :
    parkMember n was r s = modAlert n (fun a => a.joined r true) s := by
  have hsec : (s.robot r).activity = .clamped ∧ was r = true := by simpa [securedAtOnce] using h
  unfold parkMember
  rw [if_pos hsec, joinSet_secured]

theorem parkMember_unsecured (h : securedAtOnce was s r = false) : parkMember n was r s =
    let joined := modAlert n (fun a => a.joined r false) s
    if (s.robot r).storm.target = decideTarget s n r then joined else setTarget r (decideTarget s n r) joined := by
  have hsec : ¬((s.robot r).activity = .clamped ∧ was r = true) := by simpa [securedAtOnce] using h
  unfold parkMember
  rw [if_neg hsec]
  rfl

theorem setTarget_alerts (r : RobotId) (x : StormTarget) (s : State) : (setTarget r x s).alerts = s.alerts := by
  rw [setTarget, commandRobot, setCommand_frame]
  rfl

theorem setTarget_robots (r : RobotId) (x : StormTarget) (s : State) : (setTarget r x s).robots =
    (modRobot r (fun b => { b with storm :=
      { b.storm with target := x, enRoute := false, acknowledged := false, retry := false } }) s).robots := by
  rw [setTarget, commandRobot, setCommand_robots]

theorem setTarget_target (r : RobotId) (x : StormTarget) (s : State) :
    ((setTarget r x s).robot r).storm.target = x := by
  rw [State.robot, setTarget_robots]
  exact congrArg (fun b : Robot => b.storm.target) (modRobot_self r _ s)

theorem setTarget_commanded (r : RobotId) (x : StormTarget) (s : State) :
    Commanded (setTarget r x s) (robotLink r) x.command .supervisor := setCommand_commanded _ _ _ _

theorem setTarget_entry_other (h : q ≠ r) (x : StormTarget) (s : State) :
    (setTarget r x s).entry (robotLink q) = s.entry (robotLink q) :=
  setCommand_entry_other (robotLink_injective.ne h) _ _ _

theorem setTarget_robot_other (h : q ≠ r) (x : StormTarget) (s : State) : (setTarget r x s).robot q = s.robot q := by
  rw [State.robot, setTarget_robots]
  exact modRobot_other h _ s

/-- What the joining of members leaves: the urgent queue, the site, and all of a robot but its storm marks and all of
the record but its set and counts. -/
structure Joining (n : AlertIx) (s t : State) : Prop where
  alert : ∃ members toSecure secured,
    t.alert n = { s.alert n with members := members, toSecure := toSecure, secured := secured }
  robot : ∀ r, ∃ m, t.robot r = { s.robot r with storm := m }
  urgent : t.link.urgent = s.link.urgent
  plant : t.plant = s.plant
  siteSecond : t.siteSecond = s.siteSecond

theorem Joining.refl (n : AlertIx) (s : State) : Joining n s s :=
  ⟨⟨_, _, _, rfl⟩, fun _ => ⟨_, rfl⟩, rfl, rfl, rfl⟩

theorem Joining.trans (h : Joining n s t) (g : Joining n t u) : Joining n s u where
  alert := by
    obtain ⟨a, b, c, ht⟩ := h.alert
    obtain ⟨d, e, f, hu⟩ := g.alert
    exact ⟨d, e, f, by rw [hu, ht]⟩
  robot r := by
    obtain ⟨m, ht⟩ := h.robot r
    obtain ⟨o, hu⟩ := g.robot r
    exact ⟨o, by rw [hu, ht]⟩
  urgent := g.urgent.trans h.urgent
  plant := g.plant.trans h.plant
  siteSecond := g.siteSecond.trans h.siteSecond

theorem joined_joining (n : AlertIx) (r : RobotId) (secured : Bool) (s : State) :
    Joining n s (modAlert n (fun a => a.joined r secured) s) where
  alert := ⟨_, _, _, modAlert_alert n _ s⟩
  robot _ := ⟨_, rfl⟩
  urgent := rfl
  plant := rfl
  siteSecond := rfl

theorem setTarget_joining (n : AlertIx) (r : RobotId) (x : StormTarget) (s : State) :
    Joining n s (setTarget r x s) where
  alert := ⟨_, _, _, congrArg (tget · n) (setTarget_alerts r x s)⟩
  robot q := by
    by_cases hq : q = r
    · subst hq
      rw [State.robot, setTarget_robots]
      exact ⟨_, modRobot_self q _ s⟩
    · exact ⟨_, setTarget_robot_other hq x s⟩
  urgent := by
    rw [setTarget, commandRobot, setCommand_eq]
    rfl
  plant := by
    rw [setTarget, commandRobot, setCommand_frame]
    rfl
  siteSecond := by
    rw [setTarget, commandRobot, setCommand_siteSecond]
    rfl

theorem parkMember_joining (n : AlertIx) (was : RobotId → Bool) (r : RobotId) (s : State) :
    Joining n s (parkMember n was r s) := by
  cases h : securedAtOnce was s r with
  | true =>
    rw [parkMember_secured h]
    exact joined_joining n r true s
  | false =>
    rw [parkMember_unsecured h]
    dsimp only
    split
    · exact joined_joining n r false s
    · exact (joined_joining n r false s).trans (setTarget_joining n r _ _)

theorem parkMember_alert (n : AlertIx) (was : RobotId → Bool) (r : RobotId) (s : State) :
    (parkMember n was r s).alert n = (s.alert n).joined r (securedAtOnce was s r) := by
  cases h : securedAtOnce was s r with
  | true =>
    rw [parkMember_secured h]
    exact modAlert_alert n _ s
  | false =>
    rw [parkMember_unsecured h]
    dsimp only
    split
    · exact modAlert_alert n _ s
    · rw [State.alert, setTarget_alerts]
      exact modAlert_alert n _ s

theorem parkMember_robot_other (h : q ≠ r) (s : State) : (parkMember n was r s).robot q = s.robot q := by
  unfold parkMember
  split
  · rfl
  · dsimp only
    split
    · rfl
    · exact setTarget_robot_other h _ _

theorem parkMember_entry_other (h : q ≠ r) (s : State) :
    (parkMember n was r s).entry (robotLink q) = s.entry (robotLink q) := by
  unfold parkMember
  split
  · rfl
  · dsimp only
    split
    · rfl
    · exact setTarget_entry_other h _ _

/-- What the joining of one robot changes of another: nothing. -/
theorem parkMember_other (h : q ≠ r) (s : State) : ((parkMember n was r s).robot q,
      (parkMember n was r s).entry (robotLink q), ((parkMember n was r s).alert n).member q)
    = (s.robot q, s.entry (robotLink q), (s.alert n).member q) := by
  rw [parkMember_robot_other h, parkMember_entry_other h, parkMember_alert, Alert.joined_member_other h]

/-- R191: the members join. -/
def joinMembers (n : AlertIx) (was : RobotId → Bool) (xs : List RobotId) (s : State) : State :=
  forEach xs (parkMember n was) s

theorem joinMembers_joining (n : AlertIx) (was : RobotId → Bool) (xs : List RobotId) (s : State) :
    Joining n s (joinMembers n was xs s) :=
  forEach_keeps (P := Joining n s) (f := parkMember n was) (fun r v h => h.trans (parkMember_joining n was r v)) xs
    (.refl n s)

theorem securedAtOnce_joining (h : Joining n s t) (was : RobotId → Bool) (r : RobotId) :
    securedAtOnce was t r = securedAtOnce was s r := by
  obtain ⟨m, hr⟩ := h.robot r
  unfold securedAtOnce
  rw [hr]

/-- R191: with at most 48 members the counts do not saturate. -/
theorem joinMembers_counts (xs : List RobotId) (s : State) (h : (s.alert n).toSecure + xs.length ≤ 48)
    (hs : (s.alert n).secured ≤ (s.alert n).toSecure) :
    ((joinMembers n was xs s).alert n).toSecure = (s.alert n).toSecure + xs.length
      ∧ ((joinMembers n was xs s).alert n).secured
        = (s.alert n).secured + (xs.filter (securedAtOnce was s)).length := by
  induction xs generalizing s with
  | nil => exact ⟨rfl, rfl⟩
  | cons x xs ih =>
    have hfilter : xs.filter (securedAtOnce was (parkMember n was x s)) = xs.filter (securedAtOnce was s) :=
      List.filter_congr fun r _ => securedAtOnce_joining (parkMember_joining n was x s) was r
    have hsec : ((parkMember n was x s).alert n).toSecure = (s.alert n).toSecure + 1 := by
      rw [parkMember_alert]
      exact countRobot_below (by rw [List.length_cons] at h; omega)
    have hone : ((parkMember n was x s).alert n).secured
        = (s.alert n).secured + if securedAtOnce was s x then 1 else 0 := by
      rw [parkMember_alert]
      unfold Alert.joined
      dsimp only
      split
      · exact countRobot_below (by rw [List.length_cons] at h; omega)
      · rfl
    obtain ⟨hto, hcount⟩ := ih (parkMember n was x s) (by rw [hsec]; rw [List.length_cons] at h; omega)
      (by rw [hsec, hone]; split <;> omega)
    rw [hfilter, hone] at hcount
    rw [hsec] at hto
    refine ⟨hto.trans (by rw [List.length_cons]; omega), hcount.trans ?_⟩
    rw [List.filter_cons]
    split
    · rw [List.length_cons]
      omega
    · rfl

theorem joinMembers_other {xs : List RobotId} (h : r ∉ xs) (s : State) :
    ((joinMembers n was xs s).alert n).member r = (s.alert n).member r :=
  forEach_part (fun q s => (s.alert n).member q) (f := parkMember n was)
    (fun _ _ s h => by rw [parkMember_alert, Alert.joined_member_other h]) h s

/-- R191, R192: a member's part is that of its own joining. -/
theorem joinMembers_member {xs : List RobotId} (hx : xs.Nodup) (h : r ∈ xs) (s : State) :
    ∃ v, Joining n s v ∧ v.robot r = s.robot r ∧ v.entry (robotLink r) = s.entry (robotLink r)
      ∧ (joinMembers n was xs s).robot r = (parkMember n was r v).robot r
      ∧ (joinMembers n was xs s).entry (robotLink r) = (parkMember n was r v).entry (robotLink r)
      ∧ ((joinMembers n was xs s).alert n).member r = ((parkMember n was r v).alert n).member r := by
  obtain ⟨v, hv, hbefore, hafter⟩ := forEach_part_of_mem
    (fun q s => (s.robot q, s.entry (robotLink q), (s.alert n).member q)) (f := parkMember n was)
    (fun _ _ s h => parkMember_other h s) (P := Joining n s) (fun r v h => h.trans (parkMember_joining n was r v)) hx h
    (.refl n s)
  simp only [Prod.mk.injEq] at hbefore hafter
  obtain ⟨hrobot, hentry, -⟩ := hbefore
  obtain ⟨hrobot', hentry', hmember'⟩ := hafter
  exact ⟨v, hv, hrobot, hentry, hrobot', hentry', hmember'⟩

/-- R192: the target decided for a member. -/
def parkTarget (u : State) (n : AlertIx) (deadline : Nat) (r : RobotId) : StormTarget :=
  if targetBefore u n r = .clamp then .clamp else if reachesDock u r deadline then .dock else .clamp

theorem ParkingBegun.decideTarget (h : ParkingBegun n deadline u s) (hv : Joining n s v)
    (hr : v.robot r = s.robot r) : decideTarget v n r = parkTarget u n deadline r := by
  have hdeadline : (v.alert n).deadline = deadline := by
    obtain ⟨a, b, c, hn⟩ := hv.alert
    rw [hn, h.alert]
    rfl
  unfold Machine.decideTarget parkTarget reachesDock State.robotConfig State.params
  rw [hr, h.target, hdeadline, hv.plant, h.plant, hv.siteSecond, h.siteSecond, h.position]

/-- R192: what a member is left with: one secured at once as it was, any other with the target decided, its command
set where that is new. -/
structure MemberParked (n : AlertIx) (deadline : Nat) (was : RobotId → Bool) (u t : State) (r : RobotId) : Prop where
  member : (t.alert n).member r = if securedAtOnce was u r then .secured else .unsecured
  kept : securedAtOnce was u r = true ∨ targetBefore u n r = parkTarget u n deadline r →
    (t.entry (robotLink r)).command = (u.entry (robotLink r)).command
  target : securedAtOnce was u r = false → (t.robot r).storm.target = parkTarget u n deadline r
  command : securedAtOnce was u r = false → targetBefore u n r ≠ parkTarget u n deadline r →
    Commanded t (robotLink r) (parkTarget u n deadline r).command .supervisor

theorem ParkingBegun.entry (h : ParkingBegun n deadline u s) (i : LinkId) : s.entry i = u.entry i :=
  congrArg (tget · i) h.entries

theorem ParkingBegun.securedAtOnce (h : ParkingBegun n deadline u s) (was : RobotId → Bool) (r : RobotId) :
    securedAtOnce was s r = securedAtOnce was u r := by
  unfold Machine.securedAtOnce
  rw [h.activity]

theorem joinMembers_parked (h : ParkingBegun n deadline u s) {xs : List RobotId} (hx : xs.Nodup) (hr : r ∈ xs) :
    MemberParked n deadline was u (joinMembers n was xs s) r := by
  obtain ⟨v, hv, hrobot, hentry, hrobot', hentry', hmember'⟩ := joinMembers_member (n := n) (was := was) hx hr s
  have hsec : securedAtOnce was v r = securedAtOnce was u r :=
    (securedAtOnce_joining hv was r).trans (h.securedAtOnce was r)
  have hdecide := h.decideTarget hv hrobot
  have hbefore : (v.robot r).storm.target = targetBefore u n r := by rw [hrobot, h.target]
  have hunsecured : securedAtOnce was u r = false → parkMember n was r v = _ := fun hs =>
    parkMember_unsecured (n := n) (hsec.trans hs)
  rw [hdecide, hbefore] at hunsecured
  refine ⟨?_, fun hk => ?_, fun hs => ?_, fun hs hne => ?_⟩
  · rw [hmember', parkMember_alert, Alert.joined_member, hsec]
  · rw [hentry', ← h.entry, ← hentry]
    cases hs : securedAtOnce was u r with
    | true =>
      rw [parkMember_secured (hsec.trans hs)]
      rfl
    | false =>
      rw [hunsecured hs]
      dsimp only
      rw [if_pos (hk.resolve_left (by simp [hs]))]
      rfl
  · rw [hrobot', hunsecured hs]
    dsimp only
    split
    next heq => exact hbefore.trans heq
    next => exact setTarget_target r _ _
  · unfold Commanded
    rw [hentry', hunsecured hs]
    dsimp only
    rw [if_neg hne]
    exact setTarget_commanded r _ _

/-! ### The urgent entries (R63, R191 step 5) -/

/-- The second state is the first with more urgent entries, queued or held. -/
structure UrgentMore (s t : State) : Prop where
  frame : t = { s with link := { s.link with urgent := t.link.urgent, entries := t.link.entries } }
  queued : s.link.urgent <+: t.link.urgent
  entries : ∀ i, ∃ held, t.entry i = { s.entry i with heldUrgent := held }
    ∧ ((s.entry i).heldUrgent = true → held = true)

theorem UrgentMore.refl (s : State) : UrgentMore s s := ⟨rfl, List.prefix_refl _, fun _ => ⟨_, rfl, id⟩⟩

theorem UrgentMore.trans (h : UrgentMore s t) (g : UrgentMore t u) : UrgentMore s u where
  frame := g.frame.trans (by rw [h.frame])
  queued := h.queued.trans g.queued
  entries i := by
    obtain ⟨a, ht, ha⟩ := h.entries i
    obtain ⟨b, hu, hb⟩ := g.entries i
    rw [ht] at hu hb
    exact ⟨b, hu, hb ∘ ha⟩

theorem UrgentMore.urged (h : UrgentMore s t) {i : LinkId} (hi : Urged s i) : Urged t i := by
  obtain ⟨held, hentry, hheld⟩ := h.entries i
  exact hi.imp (fun hq => h.queued.mem hq) fun he => by rw [hentry]; exact hheld he

theorem Urged.congr {i : LinkId} (h : Urged s i) (hl : t.link = s.link) : Urged t i := by
  unfold Urged State.entry at h ⊢
  rwa [hl]

theorem UrgentMore.commanded (h : UrgentMore s t) {i : LinkId} {cmd : Cmd} {owner : Owner}
    (hc : Commanded s i cmd owner) : Commanded t i cmd owner := by
  obtain ⟨held, hentry, -⟩ := h.entries i
  unfold Commanded
  rw [hentry]
  exact hc

theorem pushUrgent_more (i : LinkId) (s : State) : UrgentMore s (pushUrgent i s) ∧ Urged (pushUrgent i s) i := by
  unfold pushUrgent
  split
  · exact ⟨⟨rfl, List.prefix_append _ _, fun _ => ⟨_, rfl, id⟩⟩,
      .inl (List.mem_append_right _ (List.mem_singleton_self _))⟩
  · refine ⟨⟨rfl, List.prefix_refl _, fun j => ?_⟩, .inr (congrArg LinkEntry.heldUrgent (modEntry_entry i _ s))⟩
    by_cases hj : j = i
    · subst hj
      exact ⟨true, modEntry_entry j _ s, fun _ => rfl⟩
    · exact ⟨_, modEntry_entry_other hj _ s, id⟩

/-- R191: the robots are pushed into the urgent queue. -/
def pushRobots (xs : List RobotId) (s : State) : State := forEach xs (fun r => pushUrgent (robotLink r)) s

theorem pushRobots_more (xs : List RobotId) (s : State) : UrgentMore s (pushRobots xs s) :=
  forEach_keeps (P := UrgentMore s) (f := fun r => pushUrgent (robotLink r))
    (fun _ v h => h.trans (pushUrgent_more _ v).1) xs (.refl s)

theorem pushRobots_urged {xs : List RobotId} (h : r ∈ xs) (s : State) : Urged (pushRobots xs s) (robotLink r) := by
  induction xs generalizing s with
  | nil => cases h
  | cons x xs ih =>
    rcases List.mem_cons.mp h with rfl | h
    · exact (pushRobots_more xs _).urged (pushUrgent_more (robotLink r) s).2
    · exact ih h _

/-! ### The record PARKED at once (R193) -/

theorem answerHeld_alert (n : AlertIx) (cls : AnswerClass) (d : Nat) (ws : List Word) (s : State) :
    ∃ slot, (answerHeld n cls d ws s).alert n = { s.alert n with heldSlot := slot } := by
  unfold answerHeld
  split
  · rw [State.alert, answer_alerts]
    exact ⟨none, modAlert_alert n _ s⟩
  · exact ⟨_, rfl⟩

theorem answerHeld_robots (n : AlertIx) (cls : AnswerClass) (d : Nat) (ws : List Word) (s : State) :
    (answerHeld n cls d ws s).robots = s.robots := by
  unfold answerHeld
  split
  · rw [answer_frame]
    rfl
  · rfl

theorem checkParked_alert (h : (s.alert n).state = .parking) : ∃ slot, (checkParked n s).alert n = { s.alert n with
    heldSlot := slot, state := if (s.alert n).secured = (s.alert n).toSecure then .parked else .parking } := by
  unfold checkParked
  dsimp only
  by_cases hall : (s.alert n).secured = (s.alert n).toSecure
  · rw [if_pos ⟨h, hall⟩, if_pos hall]
    obtain ⟨slot, hslot⟩ := answerHeld_alert n .done 0 (parkResults s n)
      (changeAlert n (fun a => { a with state := .parked }) s)
    refine ⟨slot, hslot.trans ?_⟩
    rw [State.alert, changeAlert_alerts, tget_tset_self]
  · rw [if_neg fun hn => hall hn.2, if_neg hall]
    exact ⟨_, by rw [← h]⟩

theorem checkParked_target (n : AlertIx) (s : State) (r : RobotId) :
    ((checkParked n s).robot r).storm.target = (s.robot r).storm.target := by
  unfold checkParked
  dsimp only
  split
  · rw [State.robot, answerHeld_robots]
    exact changeAlert_target n _ s r
  · rfl

theorem UrgentMore.parked (h : UrgentMore s t) (hp : MemberParked n deadline was u s r) :
    MemberParked n deadline was u t r := by
  obtain ⟨held, hentry, -⟩ := h.entries (robotLink r)
  have halerts : t.alerts = s.alerts := by rw [h.frame]
  have hrobots : t.robots = s.robots := by rw [h.frame]
  refine ⟨?_, fun hk => ?_, fun hs => ?_, fun hs hne => h.commanded (hp.command hs hne)⟩
  · rw [State.alert, halerts]
    exact hp.member
  · rw [hentry]
    exact hp.kept hk
  · rw [State.robot, hrobots]
    exact hp.target hs

theorem checkParked_parked (hp : MemberParked n deadline was u s r) :
    MemberParked n deadline was u (checkParked n s) r := by
  have hlink : (checkParked n s).link = s.link := (checkParked_supervised n s).link
  refine ⟨(checkParked_member n s n r).trans hp.member, fun hk => ?_, fun hs => ?_,
    fun hs hne => (hp.command hs hne).congr hlink⟩
  · rw [State.entry, hlink]
    exact hp.kept hk
  · rw [checkParked_target]
    exact hp.target hs

/-! ### Entering PARKING (R191) -/

/-- R191: the robot's row is sheltered before the record enters PARKING. -/
def shelteredBefore (u : State) (r : RobotId) : Bool :=
  match (u.robot r).row? with | some x => (u.row x).sheltered | none => false

/-- R191: the robots that become members. -/
def parks (u : State) (n : AlertIx) (r : RobotId) : Bool := standsIn u n r && (u.robot r).activity.onRail

/-- R191: the state in which the members join. -/
def beforeMembers (n : AlertIx) (deadline : Nat) (u : State) : State :=
  endPasses n (pushPark n (pushPark n (pushPark n (beginParking n deadline u))))

theorem enterParking_eq (n : AlertIx) (deadline : Nat) (u : State) : enterParking n deadline u =
    let s := beforeMembers n deadline u
    let members := allRobots.filter (parks s n)
    checkParked n (pushRobots (members.filter (memberCommanded s n (shelteredBefore u)))
      (joinMembers n (shelteredBefore u) members s)) := rfl

theorem beforeMembers_begun (n : AlertIx) (deadline : Nat) (u : State) :
    ParkingBegun n deadline u (beforeMembers n deadline u) :=
  endPasses_begun (beginParking_begun n deadline u).pushPark.pushPark.pushPark

theorem ParkingBegun.parks (h : ParkingBegun n deadline u s) : parks s n = parks u n := by
  funext r
  unfold Machine.parks
  rw [h.standsIn, h.activity]

theorem ParkingBegun.memberCommanded (h : ParkingBegun n deadline u s) (was : RobotId → Bool) (r : RobotId) :
    memberCommanded s n was r = true
      ↔ Machine.securedAtOnce was u r = false ∧ targetBefore u n r ≠ parkTarget u n deadline r := by
  unfold Machine.memberCommanded
  rw [h.target, h.activity, h.decideTarget (.refl n s) rfl]
  simp [Machine.securedAtOnce, and_comm, imp_iff_not_or]

/-- R191: the queue holds the three broadcasts behind what it held. -/
theorem beforeMembers_urgent (h : u.link.urgent.length ≤ 13) (n : AlertIx) (deadline : Nat) :
    (beforeMembers n deadline u).link.urgent
      = u.link.urgent ++ List.replicate 3 (.park n (u.alert n).code (u.alert n).mask) := by
  have hlink : (beginParking n deadline u).link = u.link := (beginParking_supervised n deadline u).link
  have halert := (beginParking_begun n deadline u).alert
  rw [beforeMembers, endPasses_link, pushPark_thrice (by rw [hlink]; exact h), hlink, halert]
  rfl

/-- R191: a pass on the rail at a row of the record ends. -/
theorem beforeMembers_pass (hstands : standsIn u n r = true) (hact : (u.robot r).activity = .cleaning)
    (hrail : (u.robot r).passOnRail = true) (deadline : Nat) :
    ((beforeMembers n deadline u).robot r).pass = none := by
  have hbegun := (beginParking_begun n deadline u).pushPark.pushPark.pushPark
  have hpass : ((pushPark n (pushPark n (pushPark n (beginParking n deadline u)))).robot r).pass
      = (u.robot r).pass := by
    rw [State.robot, pushPark_robots, pushPark_robots, pushPark_robots]
    exact (beginParking_supervised n deadline u).pass r
  refine endPasses_pass ?_
  unfold onRailAt Robot.passOnRail
  rw [hbegun.standsIn, hbegun.activity, hpass, hstands, hact]
  exact hrail

/-- R191: the members of the record and what each is left with; the record; the queue; the passes that end. -/
structure ParkingDone (n : AlertIx) (deadline : Nat) (was : RobotId → Bool) (u s t : State) : Prop where
  parked : ∀ r, parks u n r = true → MemberParked n deadline was u t r
  out : ∀ r, parks u n r = false → (t.alert n).member r = .out
  urged : ∀ r, parks u n r = true → securedAtOnce was u r = false →
    targetBefore u n r ≠ parkTarget u n deadline r → Urged t (robotLink r)
  alert : ∃ members slot, t.alert n = { u.alert n with
    deadline := deadline, late := 0, members := members, heldSlot := slot
    toSecure := (allRobots.filter (parks u n)).length
    secured := (allRobots.filter fun r => parks u n r && securedAtOnce was u r).length
    state := if (allRobots.filter fun r => parks u n r && securedAtOnce was u r).length
      = (allRobots.filter (parks u n)).length then .parked else .parking }
  urgent : s.link.urgent <+: t.link.urgent
  pass : ∀ r, (t.robot r).pass = (s.robot r).pass

theorem enterParking_done (n : AlertIx) (deadline : Nat) (u : State) :
    ParkingDone n deadline (shelteredBefore u) u (beforeMembers n deadline u) (enterParking n deadline u) := by
  have hbegun := beforeMembers_begun n deadline u
  rw [enterParking_eq]
  dsimp only
  rw [hbegun.parks]
  generalize beforeMembers n deadline u = s at hbegun ⊢
  generalize shelteredBefore u = was
  have hnodup : (allRobots.filter (parks u n)).Nodup := (List.nodup_finRange 48).filter _
  have hmem : ∀ r, r ∈ allRobots.filter (parks u n) ↔ parks u n r = true := fun r => by simp [allRobots]
  have hmembers : (allRobots.filter (parks u n)).length ≤ 48 :=
    (List.length_filter_le _ _).trans_eq (List.length_finRange)
  have hparked : ∀ r, parks u n r = true →
      MemberParked n deadline was u (joinMembers n was (allRobots.filter (parks u n)) s) r := fun r hr =>
    joinMembers_parked hbegun hnodup ((hmem r).mpr hr)
  have hout : ∀ r, parks u n r = false →
      ((joinMembers n was (allRobots.filter (parks u n)) s).alert n).member r = .out := fun r hr => by
    rw [joinMembers_other fun hin => Bool.false_ne_true (hr.symm.trans ((hmem r).mp hin)), hbegun.alert]
    exact tget_tfill _ r
  obtain ⟨hto, hcount⟩ := joinMembers_counts (n := n) (was := was) (allRobots.filter (parks u n)) s
    (by rw [hbegun.alert]; exact (Nat.zero_add _).trans_le hmembers) (by rw [hbegun.alert]; exact le_rfl)
  have hjoin := joinMembers_joining n was (allRobots.filter (parks u n)) s
  have hcommanded := fun r => hbegun.memberCommanded was r
  have hfilter : (allRobots.filter (parks u n)).filter (securedAtOnce was s)
      = allRobots.filter fun r => parks u n r && securedAtOnce was u r := by
    rw [List.filter_filter]
    exact List.filter_congr fun r _ => by rw [hbegun.securedAtOnce, Bool.and_comm]
  rw [hfilter, hbegun.alert] at hcount
  rw [hbegun.alert] at hto
  generalize joinMembers n was (allRobots.filter (parks u n)) s = v at *
  have hmore := pushRobots_more ((allRobots.filter (parks u n)).filter (memberCommanded s n was)) v
  have hpushed := fun r hr => pushRobots_urged (r := r)
    (xs := (allRobots.filter (parks u n)).filter (memberCommanded s n was)) hr v
  generalize pushRobots _ v = w at hmore hpushed ⊢
  have halerts : w.alerts = v.alerts := by rw [hmore.frame]
  have hrobots : w.robots = v.robots := by rw [hmore.frame]
  have hlink : (checkParked n w).link = w.link := (checkParked_supervised n w).link
  refine ⟨fun r hr => checkParked_parked (hmore.parked (hparked r hr)), fun r hr => ?_, fun r hr hs hne => ?_, ?_, ?_,
    fun r => ?_⟩
  · rw [checkParked_member, State.alert, halerts]
    exact hout r hr
  · exact (hpushed r (List.mem_filter.mpr ⟨(hmem r).mpr hr, (hcommanded r).mpr ⟨hs, hne⟩⟩)).congr hlink
  · have hw : w.alert n = v.alert n := congrArg (tget · n) halerts
    obtain ⟨members, a, b, hv⟩ := hjoin.alert
    rw [hbegun.alert] at hv
    obtain ⟨slot, hslot⟩ := checkParked_alert (s := w) (n := n) (by rw [hw, hv]; rfl)
    have ha : a = _ := (congrArg Alert.toSecure hv).symm.trans (hto.trans (Nat.zero_add _))
    have hb : b = _ := (congrArg Alert.secured hv).symm.trans (hcount.trans (Nat.zero_add _))
    subst ha hb
    refine ⟨members, slot, hslot.trans ?_⟩
    rw [hw, hv]
    rfl
  · rw [hlink, ← hjoin.urgent]
    exact hmore.queued
  · obtain ⟨m, hr⟩ := hjoin.robot r
    rw [(checkParked_supervised n w).pass, State.robot, hrobots]
    show (v.robot r).pass = _
    rw [hr]

theorem Activity.onRail_eq (a : Activity) : a.onRail = (a == .cleaning || a == .returning || a == .clamped) := by
  cases a <;> rfl

theorem reachesDock_iff : reachesDock u r deadline = true ↔ u.siteSecond < deadline
    ∧ ((u.robot r).position * 60 + (u.robotConfig r).speed - 1) / (u.robotConfig r).speed + u.params.parkMargin
      ≤ deadline - u.siteSecond := by
  unfold reachesDock
  rw [Bool.and_eq_true, decide_eq_true_iff, decide_eq_true_iff]
  rfl

/-- Settles O50: the record is opened with an empty set, its broadcasts queued and passes ended; each robot at its rows
joins with its own target; and the commanded ones are pushed. -/
theorem parkingEntered : Obligations.ParkingEntered := by
  unfold Obligations.ParkingEntered
  intro u n deadline t member secured
  have hdone : ParkingDone n deadline (shelteredBefore u) u (beforeMembers n deadline u) t :=
    enterParking_done n deadline u
  have hmember : parks u n = member := funext fun r => congrArg (standsIn u n r && ·) (Activity.onRail_eq _)
  have hsecured : securedAtOnce (shelteredBefore u) u = secured := rfl
  obtain ⟨members, slot, halert⟩ := hdone.alert
  rw [hmember, hsecured] at halert
  refine ⟨by rw [halert], by rw [halert], by rw [halert], by rw [halert], fun r => ?_, by rw [halert]; rfl,
    by rw [halert]; rfl, by rw [halert], fun hlen => ?_, fun r hstands hact hrail => ?_, fun r hr => ?_⟩
  · cases hr : parks u n r with
    | true =>
      rw [if_pos (hmember ▸ hr)]
      exact (hdone.parked r hr).member
    | false =>
      rw [if_neg (ne_true_of_eq_false (hmember ▸ hr))]
      exact hdone.out r hr
  · obtain ⟨more, hmore⟩ := hdone.urgent
    rw [← hmore, beforeMembers_urgent hlen, List.append_assoc, List.drop_left]
    exact List.take_left' (List.length_replicate)
  · exact (hdone.pass r).trans (beforeMembers_pass hstands hact hrail deadline)
  · intro b others before speed target
    rw [← hmember] at hr
    have hothers : inOtherSet u n r = true ↔ others := inOtherSet_iff
    have hbefore : targetBefore u n r = before := if_congr hothers rfl rfl
    have htarget : parkTarget u n deadline r = target := by
      unfold parkTarget
      rw [hbefore]
      exact if_congr Iff.rfl rfl (if_congr reachesDock_iff rfl rfl)
    have hcommand : target.command = if target = .clamp then .clamp else .gotoDock := by
      cases target <;> rfl
    have hp := hdone.parked r hr
    have hurged := hdone.urged r hr
    have hcmd := hp.command
    have hkept := hp.kept
    have hgoal := hp.target
    rw [hbefore, htarget] at hurged hcmd hkept
    rw [htarget] at hgoal
    rw [hcommand] at hcmd
    exact ⟨hkept, hgoal, fun hs hne => ⟨hcmd hs hne, hurged hs hne⟩⟩

end Sys2Proof.Machine
end

section
/-!
START ROUND (O26).
-/

namespace Sys2Proof.Machine

variable {s t u v : State} {n : SlotIx} {ws : List Word} {rest : List SlotIx} {r q : RowId} {b : RobotId}

/-! ### The scores (R108) -/

/-- R108: a row once it is scored. -/
def scoredRow (s : State) (r : RowId) : Row :=
  let d := (32768 - (s.row r).tr) * (s.site r).yield / 32768
  { s.row r with
    daily := d
    lastScore := (d * s.round.horizon * s.params.efficiency / 256 : Nat)
      - (ceilDiv (2 * (s.site r).length * (lowestEpm s (s.site r).block).getD 0) 10000 : Nat) }

/-- What the scoring of a row moves of a row: its accounts and its mirror's mark. -/
def rowPart (r : RowId) (s : State) : Row × Mirror := (s.row r, mirrorOf s (.row r))

theorem modRow_self (r : RowId) (f : Row → Row) (s : State) : (modRow r f s).row r = f (s.row r) :=
  tget_tset_self _ _ _

theorem modRow_other (h : q ≠ r) (f : Row → Row) (s : State) : (modRow r f s).row q = s.row q :=
  tget_tset_ne _ h _

theorem markRewrite_row (m : MirrorId) (s : State) (r : RowId) : (markRewrite m s).row r = s.row r := rfl

theorem markRewrite_mark (m : MirrorId) (s : State) : (mirrorOf (markRewrite m s) m).pending = true := by
  unfold markRewrite modMirror
  rw [mirrorOf_replace, if_pos rfl]

theorem scoreRow_frame (r : RowId) (s : State) :
    scoreRow r s = { s with rows := (scoreRow r s).rows, mirrors := (scoreRow r s).mirrors } := rfl

theorem scoreRow_row (r : RowId) (s : State) : (scoreRow r s).row r = scoredRow s r := by
  unfold scoreRow
  dsimp only
  rw [markRewrite_row, modRow_self, recomputeDaily, modRow_self]
  unfold baseScore benefit
  rw [modRow_self]
  rfl

theorem scoreRow_row_other (h : q ≠ r) (s : State) : (scoreRow r s).row q = s.row q := by
  unfold scoreRow
  dsimp only
  rw [markRewrite_row, modRow_other h, recomputeDaily, modRow_other h]

theorem scoreRow_mark (r : RowId) (s : State) : (mirrorOf (scoreRow r s) (.row r)).pending = true :=
  markRewrite_mark _ _

theorem scoreRow_other (h : q ≠ r) (s : State) : rowPart q (scoreRow r s) = rowPart q s :=
  Prod.ext (scoreRow_row_other h s) (tget_tset_ne _ h _)

/-- The rows and the row marks alone have changed. -/
def Scored (s t : State) : Prop := ∃ rows mirrors, t = { s with rows := rows, mirrors := mirrors }

theorem scoreRow_scored (r : RowId) (h : Scored s t) : Scored s (scoreRow r t) := by
  obtain ⟨_, _, rfl⟩ := h
  exact ⟨_, _, scoreRow_frame r _⟩

theorem Scored.scoredRow (h : Scored s t) (hr : t.row r = s.row r) : scoredRow t r = scoredRow s r := by
  obtain ⟨_, _, rfl⟩ := h
  unfold Machine.scoredRow
  rw [hr]
  rfl

/-- R108: the rows are scored in turn. -/
def scoreRows (xs : List RowId) (s : State) : State := forEach xs scoreRow s

theorem scoreRows_scored (xs : List RowId) (s : State) : Scored s (scoreRows xs s) :=
  forEach_keeps (P := Scored s) (f := scoreRow) (fun r _ h => scoreRow_scored r h) xs ⟨_, _, rfl⟩

theorem scoreRows_other {xs : List RowId} (h : r ∉ xs) (s : State) : (scoreRows xs s).row r = s.row r :=
  congrArg Prod.fst (forEach_part rowPart (fun _ _ s h => scoreRow_other h s) h s)

theorem scoreRows_row {xs : List RowId} (hx : xs.Nodup) (h : r ∈ xs) (s : State) :
    (scoreRows xs s).row r = scoredRow s r ∧ (mirrorOf (scoreRows xs s) (.row r)).pending = true := by
  obtain ⟨v, hv, hbefore, hafter⟩ := forEach_part_of_mem rowPart (f := scoreRow) (fun _ _ s h => scoreRow_other h s)
    (P := Scored s) (fun r _ h => scoreRow_scored r h) hx h ⟨_, _, rfl⟩
  refine ⟨(congrArg Prod.fst hafter).trans ((scoreRow_row r v).trans (hv.scoredRow (congrArg Prod.fst hbefore))), ?_⟩
  exact (congrArg (fun x => x.2.pending) hafter).trans (scoreRow_mark r v)

/-! ### The candidate list (R109, R123) -/

/-- R123: the order of the list, for rows that are not forced. -/
def Precedes (s : State) (p q : RowId × Bool) : Prop :=
  (s.row q.1).lastScore < (s.row p.1).lastScore ∨ (s.row q.1).lastScore = (s.row p.1).lastScore ∧ p.1 < q.1

theorem Precedes.trans {p q o : RowId × Bool} (h : Precedes s p q) (g : Precedes s q o) : Precedes s p o := by
  obtain hscore | ⟨hscore, hnumber⟩ := h
  · obtain gscore | ⟨gscore, -⟩ := g
    · exact .inl (gscore.trans hscore)
    · exact .inl (gscore.trans_lt hscore)
  · obtain gscore | ⟨gscore, gnumber⟩ := g
    · exact .inl (gscore.trans_eq hscore)
    · exact .inr ⟨gscore.trans hscore, hnumber.trans gnumber⟩

theorem precedes_of_stands {p : RowId × Bool} (hp : p.2 = false) (h : Stands s r p) : Precedes s p (r, false) := by
  obtain hforced | hscore | ⟨hscore, hnumber⟩ := h
  · exact absurd hforced (ne_true_of_eq_false hp)
  · exact .inl hscore
  · exact .inr ⟨hscore.symm, hnumber⟩

theorem precedes_of_not_stands {p : RowId × Bool} (hne : p.1 ≠ r) (h : ¬Stands s r p) : Precedes s (r, false) p := by
  rcases lt_trichotomy (s.row p.1).lastScore (s.row r).lastScore with hlower | hequal | hhigher
  · exact .inl hlower
  · exact .inr ⟨hequal, lt_of_le_of_ne (not_lt.mp fun hn => h (.inr (.inr ⟨hequal, hn⟩))) hne.symm⟩
  · exact absurd (.inr (.inl hhigher)) h

/-- R123: the list as it is built: its entries unforced and in order. -/
structure Listed (s : State) (rows : List RowId) (xs : List (RowId × Bool)) : Prop where
  mem : ∀ p, p ∈ xs ↔ p.2 = false ∧ p.1 ∈ rows
  order : xs.Pairwise (Precedes s)

theorem Listed.insert {rows : List RowId} {xs : List (RowId × Bool)} (h : Listed s rows xs) (hr : r ∉ rows) :
    Listed s (r :: rows) (insertScored s r xs) := by
  obtain ⟨before, after, rfl, hins, hbefore, hafter⟩ := insertScored_split s r xs
  rw [hins]
  have hfresh : ∀ p ∈ before ++ after, p.2 = false ∧ p.1 ≠ r := fun p hp => by
    obtain ⟨hflag, hrow⟩ := (h.mem p).mp hp
    exact ⟨hflag, ne_of_mem_of_not_mem hrow hr⟩
  obtain ⟨hpre, hpost, hacross⟩ := List.pairwise_append.mp h.order
  have hahead : ∀ p ∈ before, Precedes s p (r, false) := fun p hp =>
    precedes_of_stands (hfresh p (List.mem_append_left _ hp)).1 (hbefore p hp)
  have hbehind : ∀ p ∈ after, Precedes s (r, false) p := by
    cases after with
    | nil => exact nofun
    | cons x xs =>
      have hx : Precedes s (r, false) x :=
        precedes_of_not_stands (hfresh x (List.mem_append_right _ List.mem_cons_self)).2 (hafter x xs rfl)
      exact List.forall_mem_cons.mpr ⟨hx, fun p hp => hx.trans ((List.pairwise_cons.mp hpost).1 p hp)⟩
  refine ⟨fun p => ?_, List.pairwise_append.mpr ⟨hpre, List.pairwise_cons.mpr ⟨hbehind, hpost⟩, fun p hp q hq => ?_⟩⟩
  · have hmem := h.mem p
    simp only [List.mem_append, List.mem_cons, Prod.ext_iff] at hmem ⊢
    tauto
  · rcases List.mem_cons.mp hq with rfl | hq
    · exact hahead p hp
    · exact hacross p hp q hq

theorem listed_foldl {rows done : List RowId} {xs : List (RowId × Bool)} (h : Listed s done xs)
    (hn : (rows.reverse ++ done).Nodup) :
    Listed s (rows.reverse ++ done) (rows.foldl (fun acc r => insertScored s r acc) xs) := by
  induction rows generalizing done xs with
  | nil => exact h
  | cons r rows ih =>
    have hsplit : (r :: rows).reverse ++ done = rows.reverse ++ r :: done := by simp
    rw [hsplit] at hn ⊢
    have hr : r ∉ done := (List.nodup_cons.mp (List.nodup_append.mp hn).2.1).1
    exact ih (h.insert hr) hn

theorem fitList_listed (s : State) : Listed s ((rowsOfMask s).filter (fitRow s)).reverse (fitList s) := by
  have hn : ((rowsOfMask s).filter (fitRow s)).Nodup := ((List.nodup_finRange 256).filter _).filter _
  have h := listed_foldl (s := s) (rows := (rowsOfMask s).filter (fitRow s)) (done := []) (xs := [])
    ⟨fun p => by simp, .nil⟩ (by simpa using hn)
  rwa [List.append_nil] at h

/-! ### The fleet is woken (R122 step 4) -/

/-- R122: WAKE is set for the robots in turn. -/
def wakeRobots (xs : List RobotId) (s : State) : State := forEach xs (fun b => commandRobot b .wake .planner) s

/-- R65: who is told that WAKE is set. -/
def wakeTells (s : State) (b : RobotId) : List Job :=
  (s.entry (robotLink b)).tells (robotLink b) .wake .planner

theorem wake_entry_other {b x : RobotId} (h : b ≠ x) (s : State) :
    (commandRobot x .wake .planner s).entry (robotLink b) = s.entry (robotLink b) :=
  setCommand_entry_other (robotLink_injective.ne h) _ _ s

theorem wakeRobots_frame (xs : List RobotId) (s : State) :
    ∃ link agenda, wakeRobots xs s = { s with link := link, agenda := agenda } :=
  forEach_keeps (P := fun t => ∃ link agenda, t = { s with link := link, agenda := agenda })
    (f := fun b => commandRobot b .wake .planner)
    (fun b t h => by
      obtain ⟨_, _, rfl⟩ := h
      exact ⟨_, _, setCommand_frame (robotLink b) .wake .planner _⟩) xs ⟨_, _, rfl⟩

theorem wakeRobots_agenda {xs : List RobotId} (hx : xs.Nodup) (s : State) :
    (wakeRobots xs s).agenda = s.agenda ++ xs.flatMap (wakeTells s) := by
  induction xs generalizing s with
  | nil => exact (List.append_nil _).symm
  | cons x xs ih =>
    obtain ⟨hfresh, hx⟩ := List.nodup_cons.mp hx
    have hrest : xs.flatMap (wakeTells (commandRobot x .wake .planner s)) = xs.flatMap (wakeTells s) :=
      List.flatMap_congr fun b hb => by
        rw [wakeTells, wake_entry_other (ne_of_mem_of_not_mem hb hfresh)]
        rfl
    have hone : (commandRobot x .wake .planner s).agenda = s.agenda ++ wakeTells s x := by
      rw [commandRobot, setCommand_eq]
      rfl
    calc (wakeRobots (x :: xs) s).agenda
        = (commandRobot x .wake .planner s).agenda ++ xs.flatMap (wakeTells (commandRobot x .wake .planner s)) :=
          ih hx _
      _ = _ := by rw [hrest, hone, List.flatMap_cons, List.append_assoc]

theorem wakeRobots_other {xs : List RobotId} (h : b ∉ xs) (s : State) :
    (wakeRobots xs s).entry (robotLink b) = s.entry (robotLink b) :=
  forEach_part (fun b s => s.entry (robotLink b)) (fun _ _ s h => wake_entry_other h s) h s

theorem wakeRobots_commanded {xs : List RobotId} (hx : xs.Nodup) (h : b ∈ xs) (s : State) :
    Commanded (wakeRobots xs s) (robotLink b) .wake .planner := by
  obtain ⟨v, -, -, hlast⟩ := forEach_part_of_mem (fun b s => s.entry (robotLink b))
    (f := fun b => commandRobot b .wake .planner) (fun _ _ s h => wake_entry_other h s) (P := fun _ => True)
    (fun _ _ h => h) hx h (s := s) trivial
  unfold Commanded
  rw [show (wakeRobots xs s).entry (robotLink b) = _ from hlast]
  exact setCommand_commanded (robotLink b) .wake .planner v

/-! ### A round is opened (R122) -/

/-- R122 step 1: the round record from the words of the order. -/
def openedRound (u : State) (ws : List Word) : Round := (openRecord ws u).round

theorem openRecord_eq (ws : List Word) (u : State) : openRecord ws u = { u with round := openedRound u ws } := rfl

/-- R122 steps 1 and 2. -/
def scoredState (u : State) (ws : List Word) : State :=
  scoreRows (rowsOfMask (openRecord ws u)) (openRecord ws u)

/-- R122 step 4: the dozing robots of the masked blocks that are not WITHDRAWN. -/
def wakened (s : State) : List RobotId := (robotsOfMask s).filter fun b => inFleet s b && dozing s b

theorem wakeFleet_eq (s : State) : wakeFleet s = if s.round.held then s else wakeRobots (wakened s) s := rfl

theorem wakeFleet_frame (s : State) : ∃ link agenda, wakeFleet s = { s with link := link, agenda := agenda } := by
  rw [wakeFleet_eq]
  split
  · exact ⟨_, _, rfl⟩
  · exact wakeRobots_frame _ s

/-- R122 steps 1 to 4, before the list's answer. -/
def wokenState (u : State) (ws : List Word) : State :=
  let s := scoredState u ws
  wakeFleet (modRound (fun x => { x with candidates := fitList s }) s)

/-- R122: the state whose answer and examinations are still to come. -/
def activeState (u : State) (ws : List Word) : State :=
  modRound (fun x => { x with state := .active }) (wokenState u ws)

theorem openRound_eq (n : SlotIx) (ws : List Word) (u : State) : openRound n ws u =
    let s := activeState u ws
    let t := answer n .done 0 [word s.round.candidates.length, word s.round.number] s
    if t.round.held then t else pushAll ((robotsOfMask t).map Job.examine) t := rfl

theorem robotsOfMask_congr (hp : t.plant = s.plant) (hr : t.round = s.round) : robotsOfMask t = robotsOfMask s := by
  unfold robotsOfMask inMask State.robotConfig
  rw [hp, hr]

/-- R122: the rows of the masked blocks. -/
def maskedRow (u : State) (ws : List Word) (r : RowId) : Bool :=
  (u.site r).present && (BitVec.ofNat 8 (field ws 2)).getLsbD (u.site r).block

theorem rowsOfMask_openRecord (u : State) (ws : List Word) :
    rowsOfMask (openRecord ws u) = allRows.filter (maskedRow u ws) := rfl

theorem scoredState_scored (u : State) (ws : List Word) : ∃ rows mirrors, scoredState u ws = { u with
    round := openedRound u ws, rows := rows, mirrors := mirrors } := scoreRows_scored _ _

theorem scoredState_masked (h : maskedRow u ws r = true) : (scoredState u ws).row r = scoredRow (openRecord ws u) r
    ∧ (mirrorOf (scoredState u ws) (.row r)).pending = true := by
  unfold scoredState
  rw [rowsOfMask_openRecord]
  exact scoreRows_row ((List.nodup_finRange 256).filter _) (List.mem_filter.mpr ⟨List.mem_finRange r, h⟩) _

theorem scoredState_unmasked (h : maskedRow u ws r = false) : (scoredState u ws).row r = u.row r := by
  unfold scoredState
  rw [rowsOfMask_openRecord]
  exact scoreRows_other (fun hr => Bool.false_ne_true (h.symm.trans (List.mem_filter.mp hr).2)) _

theorem fitRow_iff : fitRow s r = true ↔ (s.row r).enabled = true ∧ (s.row r).contested = false
    ∧ (s.row r).reserved = none ∧ (∀ o, (s.row r).occupant = some o → (s.robot o).context = none)
    ∧ lowestEpm s (s.site r).block ≠ none ∧ s.round.leastLoss ≤ 32768 - (s.row r).tr ∧ 0 < (s.row r).lastScore := by
  rw [← show lossOf (s.row r).tr = 32768 - (s.row r).tr from rfl, ← Option.isSome_iff_ne_none]
  cases ho : (s.row r).occupant <;> simp [fitRow, blockOf, ho, and_assoc]

/-- R109: fitness once the rows are scored, in the terms of the state before. -/
theorem fitRow_scoredState : fitRow (scoredState u ws) r = true ↔
    let x := (scoredState u ws).row r
    x.enabled = true ∧ x.contested = false ∧ x.reserved = none
      ∧ (∀ o, x.occupant = some o → (u.robot o).context = none) ∧ lowestEpm u (u.site r).block ≠ none
      ∧ (openedRound u ws).leastLoss ≤ 32768 - x.tr ∧ 0 < x.lastScore := by
  obtain ⟨rows, mirrors, hs⟩ := scoredState_scored u ws
  rw [fitRow_iff, hs]
  rfl

/-- R122 step 3: the candidate list in the state once the rows are scored. -/
theorem scoredState_list (u : State) (ws : List Word) :
    let s := scoredState u ws
    (∀ p, p ∈ fitList s ↔ p.2 = false ∧ maskedRow u ws p.1 = true ∧ fitRow s p.1 = true)
      ∧ (fitList s).Pairwise (Precedes s) := by
  intro s
  have hlisted := fitList_listed s
  have hmask : rowsOfMask s = allRows.filter (maskedRow u ws) := by
    obtain ⟨_, _, hs⟩ := scoredState_scored u ws
    show rowsOfMask (scoredState u ws) = _
    rw [hs]
    rfl
  refine ⟨fun p => (hlisted.mem p).trans ?_, hlisted.order⟩
  rw [hmask]
  simp [allRows, and_comm]

theorem wokenState_frame (u : State) (ws : List Word) : wokenState u ws = { u with
    round := { openedRound u ws with candidates := fitList (scoredState u ws) }
    rows := (scoredState u ws).rows
    mirrors := (scoredState u ws).mirrors
    link := (wokenState u ws).link
    agenda := (wokenState u ws).agenda } := by
  obtain ⟨rows, mirrors, hs⟩ := scoredState_scored u ws
  obtain ⟨link, agenda, hw⟩ := wakeFleet_frame
    (modRound (fun x => { x with candidates := fitList (scoredState u ws) }) (scoredState u ws))
  have hwoken : wokenState u ws = _ := hw
  generalize fitList (scoredState u ws) = xs at hwoken ⊢
  rw [hwoken, hs]
  rfl

/-- R122: the robots of the masked blocks. -/
def maskedRobot (u : State) (ws : List Word) (b : RobotId) : Bool :=
  (u.robotConfig b).registered && (BitVec.ofNat 8 (field ws 2)).getLsbD (u.robotConfig b).block

/-- R122 step 4: the robots that are woken. -/
def wakes (u : State) (ws : List Word) (b : RobotId) : Bool :=
  maskedRobot u ws b && (u.robot b).activity != .withdrawn && (u.entry (robotLink b)).doze

theorem wakened_eq {xs : List (RowId × Bool)} (u : State) (ws : List Word) :
    wakened (modRound (fun x => { x with candidates := xs }) (scoredState u ws)) = allRobots.filter (wakes u ws) := by
  obtain ⟨rows, mirrors, hs⟩ := scoredState_scored u ws
  rw [hs]
  unfold wakened robotsOfMask
  rw [List.filter_filter]
  refine List.filter_congr fun b _ => ?_
  show ((u.robotConfig b).registered && (u.robot b).activity != .withdrawn && (u.entry (robotLink b)).doze
    && maskedRobot u ws b) = wakes u ws b
  unfold wakes maskedRobot
  cases (u.robotConfig b).registered with
  | false => simp
  | true => simp only [Bool.true_and]; ac_rfl

theorem wokenState_held (h : u.round.held = true) (ws : List Word) :
    (wokenState u ws).link = u.link ∧ (wokenState u ws).agenda = u.agenda := by
  obtain ⟨rows, mirrors, hs⟩ := scoredState_scored u ws
  have hheld : (scoredState u ws).round.held = true := by rw [hs]; exact h
  have hwoken : wokenState u ws = modRound (fun x => { x with candidates := fitList (scoredState u ws) })
      (scoredState u ws) := if_pos hheld
  rw [hwoken]
  generalize fitList (scoredState u ws) = xs
  rw [hs]
  exact ⟨rfl, rfl⟩

theorem wokenState_woken (h : u.round.held = false) (ws : List Word) :
    ∃ v, v.link = u.link ∧ v.agenda = u.agenda ∧ wokenState u ws = wakeRobots (allRobots.filter (wakes u ws)) v := by
  obtain ⟨rows, mirrors, hs⟩ := scoredState_scored u ws
  have hheld : ¬(scoredState u ws).round.held = true := by rw [hs]; exact ne_true_of_eq_false h
  have hwoken : wokenState u ws = wakeRobots
      (wakened (modRound (fun x => { x with candidates := fitList (scoredState u ws) }) (scoredState u ws)))
      (modRound (fun x => { x with candidates := fitList (scoredState u ws) }) (scoredState u ws)) := if_neg hheld
  rw [wakened_eq] at hwoken
  refine ⟨modRound (fun x => { x with candidates := fitList (scoredState u ws) }) (scoredState u ws), ?_, ?_, hwoken⟩
  · rw [modRound_link, hs]
  · rw [modRound_agenda, hs]

theorem wokenState_entry (hb : u.round.held = true ∨ wakes u ws b = false) :
    (wokenState u ws).entry (robotLink b) = u.entry (robotLink b) := by
  cases h : u.round.held with
  | true => exact congrArg (fun l => tget l.entries (robotLink b)) (wokenState_held h ws).1
  | false =>
    obtain ⟨v, hlink, -, hw⟩ := wokenState_woken h ws
    have hout : b ∉ allRobots.filter (wakes u ws) := fun hin =>
      ne_true_of_eq_false (hb.resolve_left (ne_true_of_eq_false h)) (List.mem_filter.mp hin).2
    rw [hw, wakeRobots_other hout, State.entry, hlink]
    rfl

theorem wokenState_commanded (h : u.round.held = false) (hb : wakes u ws b = true) :
    Commanded (wokenState u ws) (robotLink b) .wake .planner := by
  obtain ⟨v, -, -, hw⟩ := wokenState_woken h ws
  rw [hw]
  exact wakeRobots_commanded ((List.nodup_finRange 48).filter _) (List.mem_filter.mpr ⟨List.mem_finRange b, hb⟩) v

theorem wokenState_agenda (u : State) (ws : List Word) : (wokenState u ws).agenda
    = u.agenda ++ if u.round.held then [] else (allRobots.filter (wakes u ws)).flatMap (wakeTells u) := by
  cases h : u.round.held with
  | true => exact (wokenState_held h ws).2.trans (List.append_nil _).symm
  | false =>
    obtain ⟨v, hlink, hagenda, hw⟩ := wokenState_woken h ws
    have htells : wakeTells v = wakeTells u := funext fun b => by
      unfold wakeTells State.entry
      rw [hlink]
    rw [hw, wakeRobots_agenda (xs := allRobots.filter (wakes u ws)) ((List.nodup_finRange 48).filter _), hagenda,
      htells]
    rfl

/-- R122 step 5: what the answer of a round opened says. -/
def roundResults (u : State) (ws : List Word) : List Word :=
  [word (fitList (scoredState u ws)).length, word (openedRound u ws).number]

theorem activeState_round (u : State) (ws : List Word) : (activeState u ws).round =
    { openedRound u ws with state := .active, candidates := fitList (scoredState u ws) } := by
  rw [activeState, wokenState_frame]
  rfl

theorem activeState_frame (u : State) (ws : List Word) : activeState u ws = { u with
    round := (activeState u ws).round
    rows := (scoredState u ws).rows
    mirrors := (scoredState u ws).mirrors
    link := (wokenState u ws).link
    agenda := (wokenState u ws).agenda } := by
  rw [activeState_round, activeState]
  conv_lhs => rw [wokenState_frame]
  rfl

theorem robotsOfMask_activeState (u : State) (ws : List Word) :
    robotsOfMask (activeState u ws) = allRobots.filter (maskedRobot u ws) := by
  rw [activeState_frame, activeState_round]
  rfl

theorem openRound_answered (n : SlotIx) (ws : List Word) (u : State) : openRound n ws u =
    pushAll (if u.round.held then [] else (allRobots.filter (maskedRobot u ws)).map Job.examine)
      (answer n .done 0 (roundResults u ws) (activeState u ws)) := by
  have hround := activeState_round u ws
  have hrobots := robotsOfMask_activeState u ws
  rw [openRound_eq]
  generalize activeState u ws = s at hround hrobots ⊢
  have hresults : [word s.round.candidates.length, word s.round.number] = roundResults u ws := by rw [hround]; rfl
  have hheld : s.round.held = u.round.held := by rw [hround]; rfl
  dsimp only
  rw [hresults, robotsOfMask_congr (answer_plant ..) (answer_round ..), hrobots, answer_round, hheld]
  split
  · exact (pushAll_nil _).symm
  · rfl

/-- Settles O26: the rows are scored one by one, the list is built by insertion (`fitList_listed`), and the fleet is
woken robot by robot. -/
theorem roundsOpened : Obligations.RoundsOpened := by
  unfold Obligations.RoundsOpened
  refine ⟨fun s n rest h hlow hhigh => ?_, fun u n ws hwf => ?_⟩
  · intro u
    have haccepts : isKind .startRound (slotWords s n) = true := by
      rw [isKind, slotWords_get s n (by decide), Nat.add_zero, h.orderKind rfl]
      rfl
    have hrange : rangeFailure .startRound (slotWords s n) = none := by
      simp [rangeFailure, firstOutOfRange, field_slotWords, hlow, hhigh]
    have hexec : exec .startRound s = .next (drain (commit s (startRound n (slotWords s n) u))) :=
      takeOrder_eq h .startRound haccepts hrange startRound
    refine ⟨fun hstate => hexec.trans ?_, fun hstate => hexec.trans ?_⟩
    · rw [startRound, if_neg hstate]
      exact congrArg _ (drain_refused s n rest _)
    · rw [startRound, if_pos hstate]
  · intro t window grace masked
    have ht : t = _ := openRound_answered n ws u
    have hframe := activeState_frame u ws
    have hround := activeState_round u ws
    have hrow : ∀ r, (activeState u ws).row r = (scoredState u ws).row r := fun r => by rw [hframe]; rfl
    have htround : t.round = (activeState u ws).round := by rw [ht, pushAll_round, answer_round]
    have htrow : ∀ r, t.row r = (scoredState u ws).row r := fun r => by
      rw [ht, ← hrow, State.row, pushAll_rows, answer_rows]
      rfl
    have htlink : t.link = (wokenState u ws).link := by
      rw [ht, pushAll_link, answer_link, hframe]
    have htmirrors : t.mirrors = (scoredState u ws).mirrors := by
      rw [ht, pushAll_mirrors, answer_mirrors, hframe]
    have hmemory : (activeState u ws).memory = u.memory := by rw [hframe]
    have htmem : ∀ a, t.mem a = (answer n .done 0 (roundResults u ws) (activeState u ws)).mem a := fun a => by
      rw [ht, State.mem, pushAll_memory]
      rfl
    have htagenda : t.agenda = (wokenState u ws).agenda
        ++ if u.round.held then [] else (allRobots.filter (maskedRobot u ws)).map Job.examine := by
      rw [ht, pushAll_agenda, answer_agenda, hframe]
    have hwfActive : Memory.wf (activeState u ws).memory = true := hmemory ▸ hwf
    obtain ⟨-, hclass, hdetail⟩ := answer_answeredWith n .done 0 (roundResults u ws) hwfActive
    have hslot : (t.slot n).state = .answered := by
      rw [ht, State.slot, pushAll_board]
      exact congrArg Slot.state ((answer_slot n .done 0 _ _ n).trans (if_pos rfl))
    have hcandidates : t.round.candidates = fitList (scoredState u ws) := by rw [htround, hround]
    have hnumber : t.round.number = (openedRound u ws).number := by rw [htround, hround]
    obtain ⟨hmem, horder⟩ := scoredState_list u ws
    refine ⟨by rw [htround, hround]; rfl, fun r hr => (htrow r).trans (scoredState_unmasked hr), fun r hr => ?_,
      fun r hr => ?_, fun p => ?_, ?_, hslot, ?_, ?_, ?_, ?_, ?_⟩
    · rw [htrow, (scoredState_masked hr).1, htround, hround]
      rfl
    · rw [mirrorOf_congr htmirrors]
      exact (scoredState_masked hr).2
    · rw [hcandidates, hmem, fitRow_scoredState, htrow, htround, hround]
      rfl
    · rw [hcandidates]
      simp only [htrow]
      exact horder
    · exact (htmem _).trans (hclass.trans rfl)
    · exact (htmem _).trans (hdetail.trans rfl)
    · rw [hcandidates]
      exact (htmem _).trans (answer_result n .done 0 (roundResults u ws) hwfActive (i := 0) (by decide))
    · rw [hnumber]
      exact (htmem _).trans (answer_result n .done 0 (roundResults u ws) hwfActive (i := 1) (by decide))
    · intro ofMask waked told
      have hblocks : t.round.blocks = BitVec.ofNat 8 (field ws 2) := by rw [htround, hround]; rfl
      have hofMask : ofMask = maskedRobot u ws := by
        funext b
        show ((u.robotConfig b).registered && t.round.blocks.getLsbD (u.robotConfig b).block) = _
        rw [hblocks]
        rfl
      have hwaked : waked = wakes u ws := by
        funext b
        show (ofMask b && (u.robot b).activity != .withdrawn && (u.entry (robotLink b)).doze) = _
        rw [hofMask]
        rfl
      have htold : told = wakeTells u := rfl
      rw [hofMask, hwaked, htold]
      refine ⟨?_, fun b => ⟨fun hheld hb => (wokenState_commanded hheld hb).congr htlink, fun hb => ?_⟩⟩
      · rw [htagenda, wokenState_agenda, List.append_assoc]
        split <;> rfl
      · rw [State.entry, htlink]
        exact wokenState_entry hb

end Sys2Proof.Machine
end

section
/-!
SCAN STATIONS and the start of a scan (O23).
-/

namespace Sys2Proof.Machine

variable {s t u : State} {n : SlotIx} {rest : List SlotIx} {k : OrderKind} {kind : Nat} {mask : Word} {m : StationIx}

/-! ### Station masks -/

@[simp] theorem maskHas_or (x y : Word) (m : StationIx) : maskHas (x ||| y) m = (maskHas x m || maskHas y m) :=
  BitVec.getLsbD_or

@[simp] theorem maskHas_bit (m q : StationIx) : maskHas (1#16 <<< q.1) m = decide (m = q) := by
  rw [maskHas, Bool.eq_iff_iff]
  simp [Fin.ext_iff]
  omega

theorem maskHas_foldl (p : StationIx → Bool) (xs : List StationIx) (acc : Word) (m : StationIx) :
    maskHas (xs.foldl (fun acc q => if p q then acc ||| (1#16 <<< q.1) else acc) acc) m
      = (maskHas acc m || decide (m ∈ xs) && p m) := by
  induction xs generalizing acc with
  | nil => simp
  | cons x xs ih =>
    rw [List.foldl_cons, ih]
    by_cases hx : m = x
    · subst hx
      cases p m <;> simp
    · cases p x <;> simp [hx]

/-- Bit m of a mask says whether station m satisfies the condition. -/
@[simp] theorem maskHas_stationMask (p : StationIx → Bool) (m : StationIx) : maskHas (stationMask p) m = p m := by
  rw [stationMask, maskHas_foldl]
  simp [maskHas, allStations]

theorem maskHas_zero (m : StationIx) : maskHas 0 m = false := BitVec.getLsbD_zero

theorem namesUnused_iff : namesUnused s mask = true ↔
    ∃ m, maskHas mask m = true ∧ (s.stationConfig m).used = false := by
  simp [namesUnused, allStations]

theorem not_namesUnused (h : ∀ m, maskHas mask m = true → (s.stationConfig m).used = true) :
    ¬namesUnused s mask = true := fun hnames => by
  obtain ⟨m, hm, hunused⟩ := namesUnused_iff.mp hnames
  exact absurd (h m hm) (ne_true_of_eq_false hunused)

/-! ### Orders that name stations (R87, R96) -/

theorem isKind_slotWords (h : AtHead s n rest kind) (hk : orderKind (BitVec.ofNat 16 kind) = some k) :
    isKind k (slotWords s n) = true := by
  rw [isKind, slotWords_get s n (by decide), Nat.add_zero, h.orderKind hk]
  exact beq_self_eq_true _

theorem orderMask_slotWords (s : State) (n : SlotIx) : orderMask (slotWords s n) = s.mem (slotBase n + 2) :=
  slotWords_get s n (by decide)

theorem orderWord_ne_zero (h : maskHas (s.mem (slotBase n + 2)) m = true) : orderWord s n 2 ≠ 0 := fun h0 => by
  rw [BitVec.eq_of_toNat_eq (x := s.mem (slotBase n + 2)) (y := 0) h0, maskHas_zero] at h
  cases h

/-- R87, R96: an order whose mask names a station takes the head slot in RUN. -/
theorem takeStationOrder_eq (h : AtHead s n rest kind) (hk : orderKind (BitVec.ofNat 16 kind) = some k)
    (hs : k = .scanStations ∨ k = .wipeStation) (hmask : orderWord s n 2 ≠ 0)
    (job : SlotIx → List Word → State → State) :
    takeOrder k (isKind k) job s
      = .next (drain (commit s (job n (slotWords s n) (takenAt s n rest)))) := by
  refine takeOrder_eq h k (isKind_slotWords h hk) ?_ job
  have hrange := (ordersRefused.2 (slotWords s n)).2.2.1 k hs
  rw [hrange, field_slotWords s n (by decide), if_neg hmask]

/-! ### A scan starts, or is asked for (R83, R84) -/

theorem startScan_eq (mask : Word) (u : State) : startScan mask u = { u with
    agenda := u.agenda ++ if channelsOf u (measuredSet u mask) = [] then [Job.scanComplete] else []
    scanner := { u.scanner with
      scan := some { requested := mask, measured := measuredSet u mask, channels := channelsOf u (measuredSet u mask)
                     raw := [], telling := false }
      orders := u.scanner.orders.map fun o => { o with covered := true } } } := by
  unfold startScan
  dsimp only
  split
  · rfl
  · rw [List.append_nil]
    rfl

theorem requestScan_idle (h : u.scanner.scan = none) (mask : Word) : requestScan mask u = startScan mask u := by
  rw [requestScan, h]

theorem requestScan_busy (h : u.scanner.scan ≠ none) (mask : Word) : requestScan mask u
    = { u with scanner := { u.scanner with pendingMask := u.scanner.pendingMask ||| mask } } := by
  obtain ⟨sc, hsc⟩ := Option.ne_none_iff_exists'.mp h
  rw [requestScan, hsc]
  rfl

theorem maskHas_measuredSet (v : State) (mask : Word) (m : StationIx) : maskHas (measuredSet v mask) m = true ↔
    maskHas mask m = true ∧ (v.stationConfig m).used = true ∧ (v.station m).state ≠ .wiping := by
  simp [measuredSet, and_assoc]

theorem mem_channelsOf (v : State) (mask : Word) (c : Nat) : c ∈ channelsOf v mask ↔ c ≤ 31 ∧ ∃ m,
    maskHas mask m = true ∧ (c = (v.stationConfig m).clean ∨ c = (v.stationConfig m).soiled) := by
  simp [channelsOf, stationChannels, allStations, Nat.lt_succ_iff]

theorem channelsOf_sorted (v : State) (mask : Word) : (channelsOf v mask).Pairwise (· < ·) :=
  List.pairwise_lt_range.filter _

/-- R87: the order is held. -/
def withScanOrder (n : SlotIx) (mask : Word) (u : State) : State :=
  { u with scanner := { u.scanner with orders := u.scanner.orders ++ [{ slot := n, mask := mask, covered := false }] } }

/-- Settles O23: an unused station, a scan in flight, and none. -/
theorem scanOrders : Obligations.ScanOrders := by
  unfold Obligations.ScanOrders
  refine ⟨fun s n rest h hmask => ?_, fun v mask => ⟨maskHas_measuredSet v mask, mem_channelsOf v mask,
    channelsOf_sorted v mask⟩⟩
  intro u mask measured
  have hexec : exec .scanStations s = .next (drain (commit s (scanStations n (slotWords s n) u))) :=
    takeStationOrder_eq h rfl (.inl rfl) hmask scanStations
  have hheld (hused : ∀ m, maskHas mask m = true → (u.stationConfig m).used = true) :
      scanStations n (slotWords s n) u = requestScan mask (withScanOrder n mask u) := by
    rw [scanStations, orderMask_slotWords]
    exact if_neg (not_namesUnused hused)
  refine ⟨fun hunused => ?_, fun hused hscan => ?_, fun hused hscan => ?_⟩
  · rw [hexec, scanStations, orderMask_slotWords, if_pos (namesUnused_iff.mpr hunused)]
    exact congrArg _ (drain_refused s n rest _)
  · rw [hexec, hheld hused, requestScan_busy (u := withScanOrder n mask u) (Option.isSome_iff_ne_none.mp hscan),
      drain_nil rfl]
    rfl
  · rw [hexec, hheld hused, requestScan_idle (u := withScanOrder n mask u) hscan, startScan_eq, withScanOrder,
      List.map_append]
    rfl

end Sys2Proof.Machine
end

section
/-!
WIPE STATION, and the wiper pulses that it starts (O24).
-/

namespace Sys2Proof.Machine

variable {s t u : State} {n : SlotIx} {rest : List SlotIx} {mask : Word} {m x : StationIx} {sc : Scan}
  {xs ds es : List StationIx}

/-! ### Tables changed entry by entry -/

section
variable {α : Type} {l : Nat} {i : Fin l} {is : List (Fin l)} {f g : Fin l → α}

theorem tabulate_nil (v : Table l α) : (tabulate fun j => if j ∈ ([] : List (Fin l)) then f j else tget v j) = v :=
  table_ext fun j => by simp

/-- An entry changed ahead of the others, which do not see the change. -/
theorem tabulate_cons (hfresh : i ∉ is) (h : ∀ j ∈ is, f j = g j) (v : Table l α) :
    (tabulate fun j => if j ∈ is then f j else tget (tset v i (g i)) j)
      = tabulate fun j => if j ∈ i :: is then g j else tget v j := table_ext fun j => by
  rw [tget_tabulate, tget_tabulate, tget_tset]
  by_cases hj : j ∈ is
  · rw [if_pos hj, if_pos (List.mem_cons_of_mem i hj), h j hj]
  · by_cases hi : j = i
    · subst hi
      simp [hfresh]
    · simp [hi, hj]

end

/-! ### A scan less some stations (R95) -/

theorem mask_ext {v w : Word} (h : ∀ m, maskHas v m = maskHas w m) : v = w :=
  BitVec.eq_of_getLsbD_eq fun i hi => h ⟨i, hi⟩

@[simp] theorem maskHas_and_not_bit (w : Word) (x m : StationIx) :
    maskHas (w &&& ~~~(1#16 <<< x.1)) m = (maskHas w m && decide (m ≠ x)) := by
  rw [maskHas, BitVec.getLsbD_and, BitVec.getLsbD_not, ← maskHas, ← maskHas, maskHas_bit]
  simp [m.2]

theorem stationChannels_contains (u : State) (m : StationIx) (c : Nat) : (stationChannels u m).contains c
    = (c == (u.stationConfig m).clean || c == (u.stationConfig m).soiled) := by
  simp [stationChannels, beq_eq_decide]

/-- R81: the channel belongs to one of these stations. -/
def channelOfAny (u : State) (ds : List StationIx) (c : Nat) : Bool :=
  ds.any fun m => c == (u.stationConfig m).clean || c == (u.stationConfig m).soiled

theorem channelOfAny_append (u : State) (es ds : List StationIx) (c : Nat) :
    channelOfAny u (es ++ ds) c = (channelOfAny u es c || channelOfAny u ds c) := List.any_append

/-- R95: the channels still to be measured less those of some stations; the one being measured runs on. -/
def channelsLess (u : State) (ds : List StationIx) (cs : List Nat) : List Nat :=
  match cs with
  | [] => []
  | c :: rest => c :: rest.filter fun d => !channelOfAny u ds d

/-- R95: a scan less some stations, with their raw counts and channels. -/
def scanLess (u : State) (ds : List StationIx) (sc : Scan) : Scan :=
  { sc with
    measured := stationMask fun m => maskHas sc.measured m && !decide (m ∈ ds)
    raw := sc.raw.filter fun p => !channelOfAny u ds p.1
    channels := channelsLess u ds sc.channels }

theorem filter_channelOfAny_append {α : Type} (u : State) (es ds : List StationIx) (f : α → Nat) (l : List α) :
    (l.filter fun a => !channelOfAny u es (f a)).filter (fun a => !channelOfAny u ds (f a))
      = l.filter fun a => !channelOfAny u (es ++ ds) (f a) := by
  rw [List.filter_filter]
  exact List.filter_congr fun a _ => by rw [channelOfAny_append, Bool.not_or, Bool.and_comm]

theorem scanLess_nil (u : State) (sc : Scan) : scanLess u [] sc = sc := by
  obtain ⟨requested, measured, channels, raw, telling⟩ := sc
  have hm : (stationMask fun m => maskHas measured m && !decide (m ∈ ([] : List StationIx))) = measured :=
    mask_ext fun m => by simp
  have hc : channelsLess u [] channels = channels := by
    cases channels <;> simp [channelsLess, channelOfAny]
  rw [scanLess, hm, hc]
  simp [channelOfAny]

theorem scanLess_append (u : State) (es ds : List StationIx) (sc : Scan) :
    scanLess u ds (scanLess u es sc) = scanLess u (es ++ ds) sc := by
  obtain ⟨requested, measured, channels, raw, telling⟩ := sc
  have hc : channelsLess u ds (channelsLess u es channels) = channelsLess u (es ++ ds) channels := by
    cases channels with
    | nil => rfl
    | cons c rest => exact congrArg (c :: ·) (filter_channelOfAny_append u es ds id rest)
  have hm : (stationMask fun m => maskHas measured m && !decide (m ∈ es) && !decide (m ∈ ds))
      = stationMask fun m => maskHas measured m && !decide (m ∈ es ++ ds) :=
    mask_ext fun m => by simp [Bool.and_assoc]
  simp only [scanLess, maskHas_stationMask, filter_channelOfAny_append, hc, hm]

/-- R95: which of these stations leave the scan when their pulses start or restart. -/
def droppedFrom (u : State) (xs : List StationIx) (sc : Scan) : List StationIx :=
  xs.filter fun m => maskHas sc.measured m && !decide ((u.station m).state = .wiping) && !sc.telling

theorem scanWithout_eq (u : State) (x : StationIx) (sc : Scan) :
    scanWithout x (stationChannels u x) sc = scanLess u [x] sc := by
  have hm : sc.measured &&& ~~~(1#16 <<< x.1) = stationMask fun m => maskHas sc.measured m && !decide (m ∈ [x]) :=
    mask_ext fun m => by simp
  have hc : ∀ c, (stationChannels u x).contains c = channelOfAny u [x] c := fun c => by
    rw [stationChannels_contains, channelOfAny]
    simp
  simp only [scanWithout, scanLess, hm, hc]
  rfl

theorem mem_droppedFrom : m ∈ droppedFrom u xs sc ↔ m ∈ xs ∧ maskHas sc.measured m = true
    ∧ (u.station m).state ≠ .wiping ∧ sc.telling = false := by
  simp [droppedFrom, and_assoc]

/-! ### Pulses (R94) -/

/-- R94: a station whose pulse starts, or restarts where it is WIPING. -/
def pulsed (u : State) (m : StationIx) : Station :=
  if (u.station m).state = .wiping then { u.station m with pulseEnd := some (later u u.params.wipeTime) }
  else { u.station m with
    remembered := (u.station m).state, state := .wiping, reseed := true
    pulseEnd := some (later u u.params.wipeTime) }

theorem startPulse_eq (x : StationIx) (u : State) : startPulse x u = { u with
    stations := tset u.stations x (pulsed u x)
    scanner := { u.scanner with scan := u.scanner.scan.map fun sc => scanLess u (droppedFrom u [x] sc) sc } } := by
  unfold startPulse pulsed
  dsimp only
  split
  next hw =>
    have hkept : (u.scanner.scan.map fun sc => scanLess u (droppedFrom u [x] sc) sc) = u.scanner.scan := by
      cases u.scanner.scan with
      | none => rfl
      | some sc => simp [droppedFrom, hw, scanLess_nil]
    rw [hkept]
    rfl
  next hw =>
    have hdrop : ∀ sc : Scan, scanLess u (droppedFrom u [x] sc) sc
        = if maskHas sc.measured x && !sc.telling then scanWithout x (stationChannels u x) sc else sc := fun sc => by
      split
      next h => simp_all [droppedFrom, scanWithout_eq]
      next h => simp_all [droppedFrom, scanLess_nil]
    simp only [hdrop]
    rfl

/-- R94, R95: the pulses of several stations start, each on the state that the others leave as it is. -/
theorem forEach_startPulse (hx : xs.Nodup) (u : State) : forEach xs startPulse u = { u with
    stations := tabulate fun m => if m ∈ xs then pulsed u m else u.station m
    scanner := { u.scanner with scan := u.scanner.scan.map fun sc => scanLess u (droppedFrom u xs sc) sc } } := by
  induction xs generalizing u with
  | nil =>
    have hstations : (tabulate fun m => if m ∈ [] then pulsed u m else u.station m) = u.stations := tabulate_nil _
    have hscan : (u.scanner.scan.map fun sc => scanLess u (droppedFrom u [] sc) sc) = u.scanner.scan := by
      cases u.scanner.scan with
      | none => rfl
      | some sc => exact congrArg some (scanLess_nil u sc)
    rw [hstations, hscan]
    rfl
  | cons x xs ih =>
    obtain ⟨hfresh, hx⟩ := List.nodup_cons.mp hx
    have hother : ∀ m ∈ xs, (startPulse x u).station m = u.station m := fun m hm => by
      rw [startPulse_eq]
      exact tget_tset_ne _ (ne_of_mem_of_not_mem hm hfresh) _
    have hstations : (tabulate fun m => if m ∈ xs then pulsed (startPulse x u) m else (startPulse x u).station m)
        = tabulate fun m => if m ∈ x :: xs then pulsed u m else u.station m := by
      have hpulsed : ∀ m ∈ xs, pulsed (startPulse x u) m = pulsed u m := fun m hm => by
        rw [pulsed, hother m hm, startPulse_eq]
        rfl
      unfold State.station
      rw [show (startPulse x u).stations = tset u.stations x (pulsed u x) by rw [startPulse_eq]]
      exact tabulate_cons hfresh hpulsed _
    have hscan : ((startPulse x u).scanner.scan.map fun sc =>
          scanLess (startPulse x u) (droppedFrom (startPulse x u) xs sc) sc)
        = u.scanner.scan.map fun sc => scanLess u (droppedFrom u (x :: xs) sc) sc := by
      have hless : scanLess (startPulse x u) = scanLess u := by rw [startPulse_eq]; rfl
      have hscanner : (startPulse x u).scanner.scan
          = u.scanner.scan.map fun sc => scanLess u (droppedFrom u [x] sc) sc := by rw [startPulse_eq]
      rw [hless, hscanner, Option.map_map]
      refine congrArg (fun f => u.scanner.scan.map f) (funext fun sc => ?_)
      have hdropped : droppedFrom (startPulse x u) xs (scanLess u (droppedFrom u [x] sc) sc) = droppedFrom u xs sc :=
        List.filter_congr fun m hm => by
          have hne : m ∉ droppedFrom u [x] sc := fun h =>
            ne_of_mem_of_not_mem hm hfresh (List.mem_singleton.mp (mem_droppedFrom.mp h).1)
          rw [hother m hm, scanLess, maskHas_stationMask, decide_eq_false hne, Bool.not_false, Bool.and_true]
      rw [Function.comp_apply, hdropped, scanLess_append, droppedFrom, droppedFrom, ← List.filter_append]
      rfl
    refine (ih hx (startPulse x u)).trans ?_
    rw [hstations, hscan, startPulse_eq]

/-- Settles O24: the two refusals, the pulses station by station, and what is left of the scan. -/
theorem wipeOrders : Obligations.WipeOrders := by
  unfold Obligations.WipeOrders
  intro s n rest h u mask named wiping t
  have hnamed : ∀ m, m ∈ named ↔ maskHas mask m = true := fun m => by simp [named]
  have ht : t = _ := forEach_startPulse (xs := named) ((List.nodup_finRange 16).filter _) u
  have hexec (hmask : orderWord s n 2 ≠ 0) :
      exec .wipeStation s = .next (drain (commit s (wipeStation n (slotWords s n) u))) :=
    takeStationOrder_eq h rfl (.inr rfl) hmask wipeStation
  refine ⟨fun hzero => ?_, fun hunused => ?_, fun hmask hused => ?_, ?_, fun hscan => ?_, fun sc hsc => ?_⟩
  · have hrange : rangeFailure .wipeStation (slotWords s n) = some 2 := by
      rw [(ordersRefused.2 (slotWords s n)).2.2.1 _ (.inr rfl), field_slotWords s n (by decide), if_pos hzero]
    exact ((ordersRefused.1 s n rest h.released h.head).2 .wipeStation .wipeStation _ rfl
      (isKind_slotWords h rfl)).2 2 h.running hrange
  · have hnames := namesUnused_iff.mpr hunused
    obtain ⟨m, hm, -⟩ := hunused
    rw [hexec (orderWord_ne_zero hm), wipeStation, orderMask_slotWords, if_pos hnames]
    exact congrArg _ (drain_refused s n rest _)
  · have hjob : wipeStation n (slotWords s n) u = answer n .done 0
        [stationMask fun m => maskHas mask m && !wiping m, stationMask fun m => maskHas mask m && wiping m] t := by
      rw [wipeStation, orderMask_slotWords]
      exact if_neg (not_namesUnused hused)
    rw [hexec hmask, hjob, drain_nil]
    rw [commit_agenda, answer_agenda, ht]
    rfl
  · rw [ht]
    simp only [hnamed, pulsed, wiping, decide_eq_true_eq]
  · rw [ht]
    simp [hscan]
  · refine ⟨scanLess u (droppedFrom u named sc) sc, by rw [ht, hsc]; rfl, fun m => ?_, rfl⟩
    rw [scanLess, maskHas_stationMask, Bool.and_eq_true, Bool.not_eq_true', decide_eq_false_iff_not, mem_droppedFrom,
      hnamed]
    have hw : wiping m = true ↔ (u.station m).state = .wiping := decide_eq_true_iff
    rw [hw, ← Bool.not_eq_true, ← Bool.not_eq_true]
    tauto

end Sys2Proof.Machine
end

section
/-!
DAY CLOSE (O25).
-/

namespace Sys2Proof.Machine

variable {s t u : State} {n : SlotIx} {rest : List SlotIx} {m x : StationIx} {r : RowId} {sc : Scan}

/-! ### The stations close, and are wiped (R105 steps 1 and 2) -/

theorem usedStations_nodup (u : State) : (usedStations u).Nodup := (List.nodup_finRange 16).filter _

theorem allRows_nodup : allRows.Nodup := List.nodup_finRange 256

/-- R94: what a pulse does to a station's record. -/
theorem pulsed_record (u : State) (m : StationIx) :
    (pulsed u m).ts = (u.station m).ts ∧ (pulsed u m).fresh = (u.station m).fresh
    ∧ (pulsed u m).srf = (u.station m).srf ∧ (pulsed u m).state = .wiping
    ∧ (pulsed u m).pulseEnd = some (later u u.params.wipeTime) := by
  unfold pulsed
  split
  next hw => exact ⟨rfl, rfl, rfl, hw, rfl⟩
  next => exact ⟨rfl, rfl, rfl, rfl, rfl⟩

/-- R105 step 1: a used station at a close. -/
def closedStation (u : State) (m : StationIx) : Station :=
  if (u.stationConfig m).used then
    { u.station m with ts := if (u.station m).fresh then (u.station m).srf else (u.station m).ts, fresh := false }
  else u.station m

theorem closeStation_eq (x : StationIx) (s : State) :
    closeStation x s = { s with stations := tset s.stations x (closedStation s x) } := by
  unfold closeStation closedStation
  split
  · rfl
  · rw [State.station, tset_self]

theorem forEach_closeStation {xs : List StationIx} (hx : xs.Nodup) (u : State) : forEach xs closeStation u
    = { u with stations := tabulate fun m => if m ∈ xs then closedStation u m else u.station m } := by
  induction xs generalizing u with
  | nil => exact congrArg (fun v => { u with stations := v }) (tabulate_nil _).symm
  | cons x xs ih =>
    obtain ⟨hfresh, hx⟩ := List.nodup_cons.mp hx
    have hother : ∀ m ∈ xs, closedStation (closeStation x u) m = closedStation u m := fun m hm => by
      have hstation : (closeStation x u).station m = u.station m := by
        rw [closeStation_eq]
        exact tget_tset_ne _ (ne_of_mem_of_not_mem hm hfresh) _
      rw [closedStation, hstation, closeStation_eq]
      rfl
    refine (ih hx (closeStation x u)).trans ?_
    unfold State.station
    rw [show (closeStation x u).stations = tset u.stations x (closedStation u x) by rw [closeStation_eq],
      tabulate_cons hfresh hother, closeStation_eq]

theorem forEach_closeStation_all (u : State) : forEach allStations closeStation u
    = { u with stations := tabulate (closedStation u) } := by
  refine (forEach_closeStation (List.nodup_finRange 16) u).trans ?_
  simp only [List.mem_finRange, if_true]

/-- R105 steps 1 and 2: the used stations take their filtered ratios, and their pulses start. -/
def closeStations (u : State) : State :=
  forEach (usedStations (forEach allStations closeStation u)) startPulse (forEach allStations closeStation u)

theorem closeStations_frame (u : State) :
    closeStations u = { u with stations := (closeStations u).stations, scanner := (closeStations u).scanner } := by
  rw [closeStations, forEach_startPulse (usedStations_nodup _), forEach_closeStation_all]

theorem closeStations_station (u : State) (m : StationIx) : (closeStations u).station m =
    if (u.stationConfig m).used then pulsed { u with stations := tabulate (closedStation u) } m else u.station m := by
  rw [closeStations, forEach_startPulse (usedStations_nodup _), forEach_closeStation_all, State.station,
    tget_tabulate]
  have hused : m ∈ usedStations { u with stations := tabulate (closedStation u) } ↔
      (u.stationConfig m).used = true := by
    simp [usedStations, allStations, State.stationConfig]
  simp only [hused]
  split
  · rfl
  next hm => rw [State.station, tget_tabulate, closedStation, if_neg hm]

/-- R105: what a close does of a used station. -/
theorem closeStations_used (h : (u.stationConfig m).used = true) :
    ((closeStations u).station m).ts = (if (u.station m).fresh then (u.station m).srf else (u.station m).ts)
    ∧ ((closeStations u).station m).fresh = false ∧ ((closeStations u).station m).srf = (u.station m).srf
    ∧ ((closeStations u).station m).state = .wiping
    ∧ ((closeStations u).station m).pulseEnd = some (later u u.params.wipeTime) := by
  obtain ⟨hts, hfresh, hsrf, hstate, hend⟩ := pulsed_record { u with stations := tabulate (closedStation u) } m
  rw [State.station, tget_tabulate, closedStation, if_pos h] at hts hfresh hsrf
  rw [closeStations_station, if_pos h]
  exact ⟨hts, hfresh, hsrf, hstate, hend⟩

/-! ### The rows close (R105 step 3) -/

/-- R105 step 3: a present row at a close, from its record, its site words and the stations' Ts. -/
def closedRecord (x : Row) (site : SiteRow) (ts : StationIx → Nat) : Row :=
  let tr := match site.station with
    | some m => x.tr * ts m / 32768
    | none => x.tr
  let d := (32768 - tr) * site.yield / 32768
  { x with tr := tr, daily := d, cumLoss := min 0xFFFFFFFF (x.cumLoss + d) }

/-- R105 step 3: a present row at a close. -/
def closedRow (s : State) (r : RowId) : Row := closedRecord (s.row r) (s.site r) fun m => (s.station m).ts

/-- R105 step 3: a row at a close, present or absent. -/
def rowAtClose (s : State) (r : RowId) : Row := if (s.site r).present then closedRow s r else s.row r

/-- R105 step 3: the daily losses of the present rows among these at a close. -/
def dailyLosses (s : State) (xs : List RowId) : List Nat :=
  (xs.filter fun r => (s.site r).present).map fun r => (closedRow s r).daily

theorem closeRow_eq (r : RowId) (s : State) : closeRow r s = { s with
    rows := tset s.rows r (rowAtClose s r)
    farm := { s.farm with totalLoss := (dailyLosses s [r]).foldl (satAdd max32) s.farm.totalLoss } } := by
  cases hp : (s.site r).present with
  | false =>
    have hkept : closeRow r s = s := if_neg (ne_true_of_eq_false hp)
    have hrow : rowAtClose s r = s.row r := if_neg (ne_true_of_eq_false hp)
    have hdaily : dailyLosses s [r] = [] := by simp [dailyLosses, hp]
    rw [hkept, hrow, hdaily, State.row, tset_self]
    rfl
  | true =>
    have hrow : rowAtClose s r = closedRow s r := if_pos hp
    have hdaily : dailyLosses s [r] = [(closedRow s r).daily] := by simp [dailyLosses, hp]
    rw [hrow, hdaily]
    unfold closeRow setTransmission recomputeDaily
    dsimp only
    rw [if_pos hp]
    simp only [modRow, modFarm, State.row, tget_tset_self, tset_tset]
    rfl

/-- R105 step 3: the rows close in turn, each adding its daily loss to the farm's. -/
theorem forEach_closeRow {xs : List RowId} (hx : xs.Nodup) (s : State) : forEach xs closeRow s = { s with
    rows := tabulate fun r => if r ∈ xs then rowAtClose s r else s.row r
    farm := { s.farm with totalLoss := (dailyLosses s xs).foldl (satAdd max32) s.farm.totalLoss } } := by
  induction xs generalizing s with
  | nil =>
    have hrows : (tabulate fun r => if r ∈ [] then rowAtClose s r else s.row r) = s.rows := tabulate_nil _
    rw [hrows]
    rfl
  | cons x xs ih =>
    obtain ⟨hfresh, hx⟩ := List.nodup_cons.mp hx
    have hrow : ∀ r ∈ xs, (closeRow x s).row r = s.row r := fun r hr => by
      rw [closeRow_eq]
      exact tget_tset_ne _ (ne_of_mem_of_not_mem hr hfresh) _
    have hclosed : ∀ r ∈ xs, closedRow (closeRow x s) r = closedRow s r := fun r hr => by
      rw [closedRow, hrow r hr, closeRow_eq]
      rfl
    have hsite : (closeRow x s).site = s.site := by
      rw [closeRow_eq]
      rfl
    have hrows : (tabulate fun r => if r ∈ xs then rowAtClose (closeRow x s) r else (closeRow x s).row r)
        = tabulate fun r => if r ∈ x :: xs then rowAtClose s r else s.row r := by
      have hother : ∀ r ∈ xs, rowAtClose (closeRow x s) r = rowAtClose s r := fun r hr => by
        rw [rowAtClose, hsite, hclosed r hr, hrow r hr, rowAtClose]
      unfold State.row
      rw [show (closeRow x s).rows = tset s.rows x (rowAtClose s x) by rw [closeRow_eq]]
      exact tabulate_cons hfresh hother _
    have hdaily : dailyLosses s (x :: xs) = dailyLosses s [x] ++ dailyLosses (closeRow x s) xs := by
      have hrest : dailyLosses (closeRow x s) xs = dailyLosses s xs := by
        rw [dailyLosses, hsite]
        exact List.map_congr_left fun r hr => congrArg Row.daily (hclosed r (List.mem_filter.mp hr).1)
      rw [hrest, dailyLosses, ← List.singleton_append, List.filter_append, List.map_append]
      rfl
    refine (ih hx (closeRow x s)).trans ?_
    rw [hrows, hdaily, List.foldl_append, closeRow_eq]

theorem foldl_satAdd {cap a : Nat} (h : a ≤ cap) (ds : List Nat) : ds.foldl (satAdd cap) a = min cap (a + ds.sum) := by
  induction ds generalizing a with
  | nil => simp [h]
  | cons d ds ih =>
    rw [List.foldl_cons, satAdd, ih (Nat.min_le_left _ _), List.sum_cons]
    omega

/-! ### A close (R104 to R106) -/

theorem closeStations_site (u : State) (r : RowId) : (closeStations u).site r = u.site r := by
  unfold State.site
  rw [closeStations_frame]

theorem closeStations_row (u : State) (r : RowId) : (closeStations u).row r = u.row r := by
  unfold State.row
  rw [closeStations_frame]

theorem closeRecord_eq (s : State) : closeRecord s = { s with
    farm := { s.farm with lastClose := s.siteSecond, closeCount := satAdd max16 s.farm.closeCount 1 } } := rfl

/-- R105: what a close leaves. -/
theorem runClose_eq (u : State) : runClose u = { u with
    stations := (closeStations u).stations, scanner := (closeStations u).scanner
    rows := tabulate (rowAtClose (closeStations u))
    farm := { u.farm with
      totalLoss := (dailyLosses (closeStations u) allRows).foldl (satAdd max32) u.farm.totalLoss
      lastClose := u.siteSecond, closeCount := satAdd max16 u.farm.closeCount 1 } } := by
  have hrun : runClose u = closeRecord (forEach allRows closeRow (closeStations u)) := rfl
  have hall : ∀ r, r ∈ allRows := List.mem_finRange
  obtain ⟨stations, scanner, hclose⟩ :
      ∃ stations scanner, closeStations u = { u with stations := stations, scanner := scanner } :=
    ⟨_, _, closeStations_frame u⟩
  rw [hrun, forEach_closeRow allRows_nodup, closeRecord_eq, hclose]
  simp only [hall, if_true]

theorem runClose_row (u : State) (r : RowId) : (runClose u).row r
    = if (u.site r).present = true then closedRow (closeStations u) r else u.row r := by
  rw [State.row, runClose_eq, tget_tabulate, rowAtClose, closeStations_site, closeStations_row]

theorem closeStations_closedRow (u : State) (r : RowId) : closedRow (closeStations u) r
    = closedRecord (u.row r) (u.site r) fun m => ((closeStations u).station m).ts := by
  rw [closedRow, closeStations_row, closeStations_site]

theorem runClose_station (u : State) (m : StationIx) : (runClose u).station m = (closeStations u).station m := by
  unfold State.station
  rw [runClose_eq]

theorem runClose_farm (h : u.farm.totalLoss ≤ 0xFFFFFFFF) : (runClose u).farm = { u.farm with
    totalLoss := min 0xFFFFFFFF (u.farm.totalLoss +
      (((List.finRange 256).filter fun r => (u.site r).present).map fun r => ((runClose u).row r).daily).sum)
    closeCount := min 65535 (u.farm.closeCount + 1), lastClose := u.siteSecond } := by
  have hdaily : ((List.finRange 256).filter fun r => (u.site r).present).map (fun r => ((runClose u).row r).daily)
      = dailyLosses (closeStations u) allRows := by
    simp only [dailyLosses, closeStations_site]
    exact List.map_congr_left fun r hr => by rw [runClose_row, if_pos (List.mem_filter.mp hr).2]
  rw [hdaily, runClose_eq, foldl_satAdd (cap := max32) h]
  rfl

theorem closeAndAnswer_agenda (n : SlotIx) (u : State) : (closeAndAnswer n u).agenda = u.agenda := by
  unfold closeAndAnswer
  dsimp only
  rw [answer_agenda, runClose_eq]

/-- Settles O25: the order when it is taken, the close that a completed scan owes, and a close record by record. -/
theorem dayCloses : Obligations.DayCloses := by
  unfold Obligations.DayCloses
  refine ⟨⟨fun s n rest h => ?_, fun s sc n hr hm hscan ht hslot => ?_, fun u n => rfl⟩, fun u => ?_⟩
  · intro u
    have hexec : exec .dayClose s = .next (drain (commit s (takeDayClose n (slotWords s n) u))) :=
      takeOrder_eq h .dayClose (isKind_slotWords h rfl) rfl takeDayClose
    refine ⟨fun hheld => ?_, fun hfree hscan => ?_, fun hfree hscan => ?_⟩
    · rw [hexec, takeDayClose, if_pos (Option.isSome_iff_ne_none.mpr hheld), drain_nil rfl]
    · obtain ⟨sc, hsc⟩ := Option.ne_none_iff_exists'.mp hscan
      rw [hexec, takeDayClose, if_neg (by simp [hfree]), hsc, drain_nil rfl]
      rfl
    · rw [hexec, takeDayClose, if_neg (by simp [hfree]), hscan]
      exact congrArg _ (drain_nil ((commit_agenda _ _).trans (closeAndAnswer_agenda n u)))
  · have hdue : (s.modes.mode == .run && tellingScan s) = true := by simp [hm, tellingScan, hscan, ht]
    refine (actWhen_eq (due := fun s => s.modes.mode == .run && tellingScan s) runDeferredClose hr hdue).trans ?_
    unfold runDeferredClose
    rw [show ({ s with agenda := [] } : State).farm.closeSlot = some n from hslot]
    rfl
  · intro t
    have hstation : t.station = (closeStations u).station := funext (runClose_station u)
    refine ⟨fun m hm => ?_, fun m hm => ?_, fun r hr => ?_, fun r hr => ?_, runClose_farm, ?_⟩
    · rw [hstation]
      exact closeStations_used hm
    · rw [hstation, closeStations_station, if_neg (ne_true_of_eq_false hm)]
    · rw [show t = runClose u from rfl, runClose_row, if_neg (ne_true_of_eq_false hr)]
    · rw [hstation]
      exact ((runClose_row u r).trans (if_pos hr)).trans (closeStations_closedRow u r)
    · rw [show t = _ from runClose_eq u]

end Sys2Proof.Machine
end

section
/-!
The field instruments (O37): wiper pulses that end, anemometer pulses and windows, and what a window does to its alert
record.
-/

namespace Sys2Proof.Machine

variable {s t u : State} {n : AlertIx} {p : AnemometerParams} {gust mean due : Nat}

/-! ### A fault window (R182) -/

theorem modAlert_self (n : AlertIx) (f : Alert → Alert) (s : State) : (modAlert n f s).alert n = f (s.alert n) :=
  tget_tset_self _ _ _

theorem watchAlert_alert (n : AlertIx) (s : State) : (watchAlert n s).alert n
    = { s.alert n with members := tfill 48 .out, state := .watch, calm := 0 } := by
  rw [watchAlert, State.alert, changeAlert_alerts, tget_tset_self, State.alert, clearSet_alerts, tget_tset_self]

/-- R182: the fault flag and the notice of a first fault window. -/
def faultFlagged (n : AlertIx) (u : State) : State :=
  setNotice .anemometerFault (modAlert n (fun a => { a with fault := true }) u)

theorem faultFlagged_alert (n : AlertIx) (u : State) :
    (faultFlagged n u).alert n = { u.alert n with fault := true } :=
  modAlert_self n (fun a => { a with fault := true }) u

/-- R182: a further fault window does nothing. -/
theorem faultWindow_again (h : (u.alert n).fault = true) : faultWindow n u = u := if_pos h

/-- R182: what a first fault window does, by the state of its record. -/
theorem faultWindow_first (h : (u.alert n).fault = false) : faultWindow n u =
    if (u.alert n).state = .free then watchAlert n (faultFlagged n u)
    else if (u.alert n).state = .watch then modAlert n (fun a => { a with calm := 0 }) (faultFlagged n u)
    else faultFlagged n u := by
  unfold faultWindow
  rw [if_neg (ne_true_of_eq_false h)]
  dsimp only
  rw [show (setNotice .anemometerFault (modAlert n (fun a => { a with fault := true }) u)).alert n = _ from
    faultFlagged_alert n u]
  cases (u.alert n).state <;> rfl

theorem faultFlagged_notice (n : AlertIx) (u : State) : (faultFlagged n u).board.notice.getLsbD 11 = true := by
  simp [faultFlagged, Notice.bit]

theorem faultWindow_notice (h : (u.alert n).fault = false) : (faultWindow n u).board.notice.getLsbD 11 = true := by
  rw [faultWindow_first h]
  split
  · exact (watchAlert_moves n (.refl _)).internal_notice (faultFlagged_notice n u)
  · split <;> exact faultFlagged_notice n u

theorem faultWindow_alert (h : (u.alert n).fault = false) : ((faultWindow n u).alert n).fault = true
    ∧ ((faultWindow n u).alert n).state = if (u.alert n).state = .free then .watch else (u.alert n).state := by
  rw [faultWindow_first h]
  split
  · rw [watchAlert_alert, faultFlagged_alert]
    exact ⟨rfl, rfl⟩
  · split
    · rw [modAlert_self, faultFlagged_alert]
      exact ⟨rfl, rfl⟩
    · rw [faultFlagged_alert]
      exact ⟨rfl, rfl⟩

/-! ### A good window (R186) -/

theorem windowTransition_parks (hp : (u.alert n).state ≠ .parking) (hd : (u.alert n).state ≠ .parked)
    (h : p.parkGust ≤ gust ∨ p.parkMean ≤ mean) :
    windowTransition n p gust mean u = enterParking n (later u p.parkDeadline) u := by
  unfold windowTransition
  cases hs : (u.alert n).state with
  | parking => exact absurd hs hp
  | parked => exact absurd hs hd
  | free | watch | releasing => simp [h]

section
variable (h : ¬(p.parkGust ≤ gust ∨ p.parkMean ≤ mean))
include h

theorem windowTransition_free (hs : (u.alert n).state = .free) :
    windowTransition n p gust mean u = if p.watchGust ≤ gust then watchAlert n u else u := by
  simp [windowTransition, hs, h]

theorem windowTransition_releasing (hs : (u.alert n).state = .releasing) : windowTransition n p gust mean u
    = if p.watchGust ≤ gust then modAlert n (fun x => { x with holdOff := later u (60 * p.holdOff) }) u else u := by
  simp [windowTransition, hs, h]

/-- R186: a window at a WATCH record, windy, calm, or the last of the calm windows that free it. -/
theorem windowTransition_watch (hs : (u.alert n).state = .watch) : windowTransition n p gust mean u
    = if p.watchGust ≤ gust then modAlert n (fun x => { x with calm := 0 }) u
      else if 100 ≤ (u.alert n).calm + 1 then freeAlert n (modAlert n (fun x => { x with calm := x.calm + 1 }) u)
      else modAlert n (fun x => { x with calm := x.calm + 1 }) u := by
  simp [windowTransition, hs, h]

end

theorem windowTransition_sheltering (hs : (u.alert n).state = .parking ∨ (u.alert n).state = .parked) :
    windowTransition n p gust mean u = if mean < p.releaseMean ∧ gust < p.watchGust then
      changeAlert n (fun x => { x with state := .releasing, holdOff := later u (60 * p.holdOff) }) u else u := by
  unfold windowTransition
  rcases hs with hs | hs <;> simp only [hs] <;> rfl

/-! ### The events of the instruments (R94, R180) -/

/-- R180: the next window runs, three seconds on. -/
def nextWindow (a : AnemIx) (due : Nat) (s : State) : State :=
  modAnemometer a (fun x => { x with pulses := 0, windowDue := some ((due + 3) % 4294967296) }) s

/-- R181: a good window gives the gust and the speeds held; its record's fault flag is clear. -/
def goodWindow (a : AnemIx) (speed : Nat) (speeds : List Nat) (s : State) : State :=
  modAlert (anemAlert a) (fun x => { x with fault := false })
    (modAnemometer a (fun x => { x with gust := speed, speeds := speeds }) s)

section
variable {a : AnemIx} {x : Anemometer} (hx : tget s.anemometers a = x) (hdue : x.windowDue = some due)
include hx hdue

/-- R180 to R182: a window ends, as a fault window or as a good one. -/
theorem windowEnds_eq : windowEnds a s =
    let v := nextWindow a due (advanceTo due s)
    let p := tget s.params.anemometers a
    let speed := windSpeed x.pulses p.metres
    let speeds := enterSpeed speed x.speeds
    if 600 < x.pulses then faultWindow (anemAlert a) v
    else windowTransition (anemAlert a) p speed (meanSpeed speeds) (goodWindow a speed speeds v) := by
  have hends : windowEnds a s = endWindow a (advanceTo due s) := by rw [windowEnds, hx, hdue]
  have hx' : tget (advanceTo due s).anemometers a = x := hx
  have hv : modAnemometer a
      (fun x => { x with pulses := 0, windowDue := x.windowDue.map fun t => (t + 3) % 4294967296 }) (advanceTo due s)
        = nextWindow a due (advanceTo due s) := by
    rw [nextWindow, modAnemometer, modAnemometer, hx', hdue]
    rfl
  have hspeeds : (tget (nextWindow a due (advanceTo due s)).anemometers a).speeds = x.speeds := by
    rw [nextWindow, modAnemometer_anemometers, tget_tset_self, hx']
  have hgood (speed : Nat) : modAnemometer a (fun y => { y with gust := speed, speeds := enterSpeed speed y.speeds })
      (nextWindow a due (advanceTo due s))
      = modAnemometer a (fun y => { y with gust := speed, speeds := enterSpeed speed x.speeds })
          (nextWindow a due (advanceTo due s)) := by
    rw [modAnemometer, hspeeds]
    rfl
  rw [hends, endWindow]
  dsimp only
  rw [hv, hx', hgood, modAlert_anemometers, modAnemometer_anemometers, tget_tset_self]
  rfl

end

/-- Settles O37: the three events, and then a window by the state of its record. -/
theorem fieldInstruments : Obligations.FieldInstruments := by
  unfold Obligations.FieldInstruments
  refine ⟨⟨fun s n due hr hend => ?_, fun s a hr hm => ?_⟩, fun u n p gust mean => ?_⟩
  · have hexpires : pulseExpires n { s with agenda := [] } = endPulse n (advanceTo due { s with agenda := [] }) := by
      rw [pulseExpires, show (({ s with agenda := [] } : State).station n).pulseEnd = some due from hend]
    refine (actWhen_quiet (due := fun s => (s.station n).pulseEnd.isSome) (pulseExpires n) hr (by simp [hend]) ?_).trans
      ?_
    · rw [hexpires]
      rfl
    · rw [hexpires]
      rfl
  · have hrunning : running s = true := by simp [running, hm]
    intro x
    refine ⟨actWhen_quiet (countPulse a) hr hrunning rfl, fun due hdue => ?_⟩
    intro u p speed speeds n
    have hexec : exec (.anemometerWindowEnd a) s
        = .next (drain (commit s (windowEnds a { s with agenda := [] }))) :=
      actWhen_eq (due := fun s => running s && (tget s.anemometers a).windowDue.isSome) (windowEnds a) hr
        (by simp [hrunning, x, hdue])
    have hends := windowEnds_eq (s := { s with agenda := [] }) (x := x) rfl hdue
    refine ⟨fun hfault => hexec.trans ?_, fun hgood => hexec.trans ?_⟩
    · rw [hends]
      dsimp only
      rw [if_pos hfault]
      rfl
    · rw [hends]
      dsimp only
      rw [if_neg (not_lt.mpr hgood)]
      rfl
  · intro parks a t with_
    refine ⟨windowTransition_parks, fun hs hp => windowTransition_free hp hs, fun hs hp hw => ?_,
      fun hs hp hw hc => ?_, fun hs hp hw hc => ?_, fun hs hp => windowTransition_releasing hp hs,
      windowTransition_sheltering, faultWindow_again, fun hf => ⟨faultWindow_notice hf, faultWindow_alert hf⟩⟩
    · exact (windowTransition_watch hp hs).trans (if_pos hw)
    · exact (windowTransition_watch hp hs).trans ((if_neg (not_le.mpr hw)).trans (if_neg (not_le.mpr hc)))
    · exact (windowTransition_watch hp hs).trans ((if_neg (not_le.mpr hw)).trans (if_pos hc))

end Sys2Proof.Machine
end

section
/-!
SUPPORT. The stations judged (R90 to R100) and several orders answered (R87), for the completion of a scan (O36).
-/

namespace Sys2Proof.Machine

variable {s t u v : State} {n m x : StationIx} {sc : Scan} {xs : List StationIx} {b d k c sr : Nat}

/-! ### Verdicts (R90) -/

theorem judge_saturated (h : k = 2 ^ b - 1 ∨ c = 2 ^ b - 1) : judge b d k c = .saturated := if_pos h

theorem judge_dark (hk : k ≠ 2 ^ b - 1) (hc : c ≠ 2 ^ b - 1) (h : normalize b k < d ∨ normalize b k = 0) :
    judge b d k c = .dark := (if_neg (not_or.mpr ⟨hk, hc⟩)).trans (if_pos h)

theorem judge_valid (hk : k ≠ 2 ^ b - 1) (hc : c ≠ 2 ^ b - 1) (hd : d ≤ normalize b k) (h0 : normalize b k ≠ 0) :
    judge b d k c = .valid (sampleRatio (normalize b k) (normalize b c)) :=
  (if_neg (not_or.mpr ⟨hk, hc⟩)).trans (if_neg (not_or.mpr ⟨not_lt.mpr hd, h0⟩))

theorem judge_saturated_iff : judge b d k c = .saturated ↔ k = 2 ^ b - 1 ∨ c = 2 ^ b - 1 := by
  refine ⟨fun h => ?_, judge_saturated⟩
  by_contra hn
  rw [judge, if_neg hn] at h
  split at h <;> cases h

/-! ### A station judged (R91 to R93, R99, R100) -/

/-- R91 to R93: what a verdict does to a station's record. -/
def judgedBy (u : State) (x : Station) : Verdict → Station
  | .saturated =>
    { x with
      saturation := satAdd 255 x.saturation 1
      state := if 3 ≤ satAdd 255 x.saturation 1 then .fault else x.state }
  | .dark => { x with saturation := 0, state := if x.state = .ok then .dark else x.state }
  | .valid sr =>
    { x with
      state := .ok, saturation := 0, lastValid := u.siteSecond, fresh := true, reseed := false
      srf := filtered u.params.filterShift x.reseed x.srf sr }

/-- R86 step 1: a station once a scan has completed. -/
def judgedStation (u : State) (sc : Scan) (n : StationIx) : Station :=
  if maskHas sc.measured n then judgedBy u (u.station n) (verdictOf u sc n) else u.station n

/-- R91: one more saturation is the third in a row, and puts the station in FAULT. -/
def entersFault (x : Station) : Bool := decide (3 ≤ satAdd 255 x.saturation 1) && x.state != .fault

/-- R91: the scan puts the station in FAULT. -/
def faulted (u : State) (sc : Scan) (n : StationIx) : Bool :=
  maskHas sc.measured n && decide (verdictOf u sc n = .saturated) && entersFault (u.station n)

theorem saturatedSample_eq (n : StationIx) (s : State) : saturatedSample n s = { s with
    stations := tset s.stations n (judgedBy s (s.station n) .saturated)
    board := { s.board with
      notice := if entersFault (s.station n) then s.board.notice ||| 512#13 else s.board.notice } } := by
  have hstate : (if entersFault (s.station n) then StationState.fault else (s.station n).state)
      = if 3 ≤ satAdd 255 (s.station n).saturation 1 then .fault else (s.station n).state := by
    unfold entersFault
    by_cases hfault : (s.station n).state = .fault
    · simp [hfault]
    · simp [hfault]
  have hrecord : saturatedSample n s = (fun t => if entersFault (s.station n) then setNotice .stationFault t else t)
      (modStation n (fun x => { x with
        saturation := satAdd 255 (s.station n).saturation 1
        state := if entersFault (s.station n) then .fault else x.state }) s) := rfl
  rw [hrecord, modStation, show (tget s.stations n).state = (s.station n).state from rfl, hstate]
  dsimp only
  split <;> rfl

theorem validSample_eq (n : StationIx) (sr : Nat) (s : State) : validSample n sr s
    = { s with stations := tset s.stations n (judgedBy s (s.station n) (.valid sr)) } := by
  have hreseed : ∀ r : Bool, ∀ k : Nat, (if r || k == 0 then false else r) = false := fun r k => by cases r <;> simp
  simp only [validSample, takeSample, modStation, tget_tset_self, tset_tset, hreseed]
  rfl

/-- R86 step 1: one station judged; the third saturation in a row sets STATION FAULT. -/
theorem judgeStation_eq (sc : Scan) (n : StationIx) (s : State) : judgeStation sc n s = { s with
    stations := tset s.stations n (judgedStation s sc n)
    board := { s.board with notice := if faulted s sc n then s.board.notice ||| 512#13 else s.board.notice } } := by
  unfold judgeStation judgedStation faulted
  cases hm : maskHas sc.measured n with
  | false =>
    rw [if_neg Bool.false_ne_true, if_neg Bool.false_ne_true, Bool.false_and, Bool.false_and,
      if_neg Bool.false_ne_true, State.station, tset_self]
  | true =>
    rw [if_pos rfl, if_pos rfl, Bool.true_and]
    cases hv : verdictOf s sc n with
    | dark => rfl
    | valid sr => exact validSample_eq n sr s
    | saturated => exact saturatedSample_eq n s

/-- R86 step 1: some stations judged, each on the record that the others leave as it is. -/
theorem forEach_judgeStation (hx : xs.Nodup) (sc : Scan) (u : State) : forEach xs (judgeStation sc) u = { u with
    stations := tabulate fun m => if m ∈ xs then judgedStation u sc m else u.station m
    board := { u.board with
      notice := if xs.any (faulted u sc) then u.board.notice ||| 512#13 else u.board.notice } } := by
  induction xs generalizing u with
  | nil => exact congrArg (fun v => { u with stations := v }) (tabulate_nil _).symm
  | cons x xs ih =>
    obtain ⟨hfresh, hx⟩ := List.nodup_cons.mp hx
    have hstation : ∀ m ∈ xs, (judgeStation sc x u).station m = u.station m := fun m hm => by
      rw [judgeStation_eq]
      exact tget_tset_ne _ (ne_of_mem_of_not_mem hm hfresh) _
    have hother : ∀ m ∈ xs, judgedStation (judgeStation sc x u) sc m = judgedStation u sc m := fun m hm => by
      rw [judgedStation, hstation m hm, judgeStation_eq]
      rfl
    have hfaulted : xs.any (faulted (judgeStation sc x u) sc) = xs.any (faulted u sc) := by
      rw [Bool.eq_iff_iff, List.any_eq_true, List.any_eq_true]
      refine exists_congr fun m => and_congr_right fun hm => ?_
      rw [faulted, hstation m hm, judgeStation_eq]
      rfl
    refine (ih hx (judgeStation sc x u)).trans ?_
    unfold State.station
    rw [show (judgeStation sc x u).stations = tset u.stations x (judgedStation u sc x) by rw [judgeStation_eq],
      tabulate_cons hfresh hother, hfaulted, judgeStation_eq, List.any_cons]
    cases faulted u sc x <;> cases xs.any (faulted u sc) <;> simp [BitVec.or_assoc]

/-! ### Several orders answered (R11, R87) -/

/-- R87: each of several orders is answered DONE with its own results. -/
def answerEach (xs : List (SlotIx × List Word)) (s : State) : State := forEach xs (fun a => answer a.1 .done 0 a.2) s

theorem answerEach_append (xs ys : List (SlotIx × List Word)) (s : State) :
    answerEach (xs ++ ys) s = answerEach ys (answerEach xs s) := List.foldl_append

section
variable {as : List (SlotIx × List Word)} {q : SlotIx} {ws : List Word}

theorem answerEach_frame (as : List (SlotIx × List Word)) (s : State) :
    answerEach as s = { s with board := (answerEach as s).board, memory := (answerEach as s).memory } := by
  obtain ⟨board, memory, h⟩ := forEach_keeps
    (P := fun v => ∃ board memory, v = { s with board := board, memory := memory })
    (f := fun (a : SlotIx × List Word) => answer a.1 .done 0 a.2)
    (fun a v h => by
      obtain ⟨_, _, rfl⟩ := h
      exact ⟨_, _, answer_frame a.1 .done 0 a.2 _⟩) as ⟨_, _, rfl⟩
  rw [show answerEach as s = _ from h]

theorem answerEach_wf (h : Memory.wf s.memory = true) : Memory.wf (answerEach as s).memory = true :=
  forEach_keeps (P := fun v => Memory.wf v.memory = true)
    (f := fun (a : SlotIx × List Word) => answer a.1 .done 0 a.2) (fun a _ hv => answer_wf a.1 .done 0 a.2 hv) as h

theorem answerEach_slot (as : List (SlotIx × List Word)) (s : State) (q : SlotIx) : (answerEach as s).slot q
    = if q ∈ as.map Prod.fst then { s.slot q with state := .answered, abortRequested := false } else s.slot q := by
  induction as generalizing s with
  | nil => rfl
  | cons a as ih =>
    rw [show answerEach (a :: as) s = answerEach as (answer a.1 .done 0 a.2 s) from rfl, ih, answer_slot]
    by_cases ha : q = a.1 <;> by_cases has : q ∈ as.map Prod.fst <;> simp [ha, has]

theorem answerEach_mem_other (hwf : Memory.wf s.memory = true) (h : q ∉ as.map Prod.fst) {i : Nat} (hi : i < 16) :
    (answerEach as s).mem (slotBase q + 16 + i) = s.mem (slotBase q + 16 + i) := by
  induction as generalizing s with
  | nil => rfl
  | cons a as ih =>
    obtain ⟨hne, h⟩ := not_or.mp (List.mem_cons.not.mp h)
    refine (ih (answer_wf a.1 .done 0 a.2 hwf) h).trans (answer_mem_other a.1 .done 0 a.2 hwf ?_)
    have hslot : q.1 ≠ a.1.1 := fun e => hne (Fin.ext e)
    simp only [slotBase, Config.orderBoardBase]
    omega

/-- R87: an order answered among others, each in its own slot, has its own answer. -/
theorem answerEach_answered (hwf : Memory.wf s.memory = true) (hn : (as.map Prod.fst).Nodup) (ha : (q, ws) ∈ as) :
    AnsweredWith (answerEach as s) q 1 0 ∧ ∀ i, i < 13 → (answerEach as s).mem (slotBase q + 19 + i) = ws.getD i 0 := by
  obtain ⟨before, after, rfl⟩ := List.append_of_mem ha
  have hlater : q ∉ after.map Prod.fst := by
    rw [List.map_append, List.map_cons] at hn
    exact (List.nodup_cons.mp (List.nodup_append.mp hn).2.1).1
  have hwf' : Memory.wf (answerEach before s).memory = true := answerEach_wf hwf
  have hsplit : answerEach (before ++ (q, ws) :: after) s
      = answerEach after (answer q .done 0 ws (answerEach before s)) := answerEach_append _ _ _
  have hmem : ∀ i, i < 16 → (answerEach (before ++ (q, ws) :: after) s).mem (slotBase q + 16 + i)
      = (answer q .done 0 ws (answerEach before s)).mem (slotBase q + 16 + i) := fun i hi => by
    rw [hsplit]
    exact answerEach_mem_other (answer_wf q .done 0 ws hwf') hlater hi
  obtain ⟨hslot, hclass, hdetail⟩ := answer_answeredWith q .done 0 ws hwf'
  refine ⟨⟨?_, (hmem 0 (by decide)).trans hclass, (hmem 1 (by decide)).trans hdetail⟩, fun i hi => ?_⟩
  · rw [hsplit, answerEach_slot, if_neg hlater]
    exact hslot
  · have h := hmem (3 + i) (by omega)
    rw [show slotBase q + 16 + (3 + i) = slotBase q + 19 + i by omega] at h
    exact h.trans (answer_result q .done 0 ws hwf' hi)

theorem answerEach_notice (as : List (SlotIx × List Word)) (s : State) {i : Nat} (hi : i ≠ 0) :
    (answerEach as s).board.notice.getLsbD i = s.board.notice.getLsbD i :=
  forEach_keeps (P := fun v => v.board.notice.getLsbD i = s.board.notice.getLsbD i)
    (f := fun (a : SlotIx × List Word) => answer a.1 .done 0 a.2)
    (fun a v h => by
      have hbit : (1#13 <<< Notice.answer.bit).getLsbD i = false := by
        simp [Notice.bit, hi]
      rw [answer_board, BitVec.getLsbD_or, hbit, Bool.or_false, h]) as rfl

end

end Sys2Proof.Machine
end

section
/-!
SUPPORT. The results of a scan (R87) and the steps of its completion (R86), for O36.
-/

namespace Sys2Proof.Machine

variable {s t u v : State} {n m : StationIx} {sc : Scan} {o : ScanOrder} {mask : Word} {c : Nat} {rest : List Nat}

/-! ### The results of a scan (R87) -/

/-- R90: the count of a station's clean cell in a scan. -/
def cleanCount (u : State) (sc : Scan) (n : StationIx) : Nat := rawCount sc.raw (u.stationConfig n).clean
/-- R90: the count of its soiled cell. -/
def soiledCount (u : State) (sc : Scan) (n : StationIx) : Nat := rawCount sc.raw (u.stationConfig n).soiled

/-- R90: the station of the scan gave a valid sample. -/
def validIn (u : State) (sc : Scan) (n : StationIx) : Bool :=
  maskHas sc.measured n && decide (cleanCount u sc n ≠ 2 ^ u.params.resolution - 1
    ∧ soiledCount u sc n ≠ 2 ^ u.params.resolution - 1
    ∧ u.params.darkFloor ≤ normalize u.params.resolution (cleanCount u sc n)
    ∧ normalize u.params.resolution (cleanCount u sc n) ≠ 0)

/-- R98: the sample ratio of a station's counts. -/
def ratioIn (u : State) (sc : Scan) (n : StationIx) : Nat :=
  sampleRatio (normalize u.params.resolution (cleanCount u sc n)) (normalize u.params.resolution (soiledCount u sc n))

theorem verdictOf_eq (u : State) (sc : Scan) (n : StationIx) : verdictOf u sc n
    = judge u.params.resolution u.params.darkFloor (cleanCount u sc n) (soiledCount u sc n) := rfl

theorem scanRatio_eq (u : State) (sc : Scan) (n : StationIx) :
    scanRatio u sc n = if validIn u sc n then some (ratioIn u sc n) else none := by
  unfold scanRatio validIn
  cases hm : maskHas sc.measured n with
  | false => rfl
  | true =>
    rw [if_pos rfl, Bool.true_and, verdictOf_eq]
    by_cases hfull : cleanCount u sc n = 2 ^ u.params.resolution - 1 ∨ soiledCount u sc n = 2 ^ u.params.resolution - 1
    · rw [judge_saturated hfull, if_neg fun h => ?_]
      obtain ⟨hk, hc, -⟩ := of_decide_eq_true h
      exact hfull.elim hk hc
    · obtain ⟨hk, hc⟩ := not_or.mp hfull
      by_cases hdark : normalize u.params.resolution (cleanCount u sc n) < u.params.darkFloor
          ∨ normalize u.params.resolution (cleanCount u sc n) = 0
      · rw [judge_dark hk hc hdark, if_neg fun h => ?_]
        obtain ⟨-, -, hd, h0⟩ := of_decide_eq_true h
        exact hdark.elim (not_lt.mpr hd) h0
      · obtain ⟨hd, h0⟩ := not_or.mp hdark
        rw [judge_valid hk hc (not_lt.mp hd) h0, if_pos (decide_eq_true ⟨hk, hc, not_lt.mp hd, h0⟩)]
        rfl

theorem scanResults_mask (u : State) (sc : Scan) (mask : Word) (n : StationIx) :
    maskHas ((scanResults u sc mask).getD 0 0) n = (maskHas mask n && validIn u sc n) := by
  rw [scanResults, List.getD_cons_zero, maskHas_stationMask, scanRatio_eq]
  cases validIn u sc n <;> rfl

theorem scanResults_ratio (u : State) (sc : Scan) (mask : Word) {i : Nat} (hi : i < 12) :
    (scanResults u sc mask).getD (i + 1) 0 = match ((List.finRange 16).filter (maskHas mask))[i]? with
      | some n => if validIn u sc n then word (ratioIn u sc n) else 0xFFFF
      | none => 0 := by
  rw [scanResults, List.getD_cons_succ, List.getD_eq_getElem?_getD, List.getElem?_map, List.getElem?_take_of_lt hi]
  show Option.getD (Option.map _ (((List.finRange 16).filter fun n => maskHas mask n)[i]?)) 0 = _
  cases ((List.finRange 16).filter fun n => maskHas mask n)[i]? with
  | none => rfl
  | some n =>
    dsimp only [Option.map_some, Option.getD_some]
    rw [scanRatio_eq]
    cases validIn u sc n <;> rfl

/-- R87: the covered orders with their results, by slot. -/
def scanAnswers (u : State) (sc : Scan) : List (SlotIx × List Word) :=
  let covered := u.scanner.orders.filter (·.covered)
  allSlots.filterMap fun q => (covered.find? fun o => o.slot == q).map fun o => (q, scanResults u sc o.mask)

theorem scanAnswers_nodup (u : State) (sc : Scan) : ((scanAnswers u sc).map Prod.fst).Nodup := by
  rw [scanAnswers, List.map_filterMap]
  refine List.Nodup.filterMap (fun q q' a hq hq' => ?_) (List.nodup_finRange 16)
  simp only [Option.map_map, Option.mem_def, Option.map_eq_some_iff, Function.comp_apply] at hq hq'
  obtain ⟨-, -, rfl⟩ := hq
  obtain ⟨-, -, h⟩ := hq'
  exact h.symm

section
variable (ho : o ∈ u.scanner.orders) (hc : o.covered = true)
include ho hc

/-- R87: a covered order's slot is looked up with success. -/
theorem covered_found : ∃ o', (u.scanner.orders.filter (·.covered)).find? (fun o' => o'.slot == o.slot) = some o'
    ∧ o' ∈ u.scanner.orders ∧ o'.covered = true ∧ o'.slot = o.slot := by
  have hsome : ((u.scanner.orders.filter (·.covered)).find? fun o' => o'.slot == o.slot).isSome = true :=
    List.find?_isSome.mpr ⟨o, List.mem_filter.mpr ⟨ho, hc⟩, beq_self_eq_true _⟩
  obtain ⟨o', ho'⟩ := Option.isSome_iff_exists.mp hsome
  obtain ⟨hmem, hcovered⟩ := List.mem_filter.mp (List.mem_of_find?_eq_some ho')
  have hslot : (o'.slot == o.slot) = true := List.find?_some (p := fun o' : ScanOrder => o'.slot == o.slot) ho'
  exact ⟨o', ho', hmem, hcovered, eq_of_beq hslot⟩

theorem slot_mem_scanAnswers (sc : Scan) : o.slot ∈ (scanAnswers u sc).map Prod.fst := by
  obtain ⟨o', ho', -⟩ := covered_found ho hc
  exact List.mem_map.mpr ⟨(o.slot, scanResults u sc o'.mask),
    List.mem_filterMap.mpr ⟨o.slot, List.mem_finRange _, by rw [ho']; rfl⟩, rfl⟩

theorem mem_scanAnswers (honly : ∀ o' ∈ u.scanner.orders, o'.covered = true → o'.slot = o.slot → o' = o) (sc : Scan) :
    (o.slot, scanResults u sc o.mask) ∈ scanAnswers u sc := by
  obtain ⟨o', ho', hmem, hcovered, hslot⟩ := covered_found ho hc
  rw [honly o' hmem hcovered hslot] at ho'
  exact List.mem_filterMap.mpr ⟨o.slot, List.mem_finRange _, by rw [ho']; rfl⟩

end

/-! ### A scan completes (R86) -/

/-- R86 step 1, R87: the stations are judged, and the covered orders leave. -/
def scanJudged (u : State) (sc : Scan) : State :=
  modScanner (fun x => { x with orders := x.orders.filter fun o => !o.covered })
    (forEach allStations (judgeStation sc) u)

theorem scanJudged_eq (u : State) (sc : Scan) : scanJudged u sc = { u with
    stations := tabulate (judgedStation u sc)
    board := { u.board with
      notice := if allStations.any (faulted u sc) then u.board.notice ||| 512#13 else u.board.notice }
    scanner := { u.scanner with orders := u.scanner.orders.filter fun o => !o.covered } } := by
  have hall : ∀ m, m ∈ allStations := List.mem_finRange
  rw [scanJudged, modScanner, forEach_judgeStation (xs := allStations) (List.nodup_finRange 16)]
  simp only [hall, if_true]

/-- R86 steps 1 to 3: the orders are answered, and SCAN DONE is set. -/
def scanAnswered (u : State) (sc : Scan) : State :=
  setNotice .scanDone (answerEach (scanAnswers u sc) (scanJudged u sc))

theorem scanAnswered_frame (u : State) (sc : Scan) : ∃ board memory, scanAnswered u sc = { u with
    stations := tabulate (judgedStation u sc)
    scanner := { u.scanner with orders := u.scanner.orders.filter fun o => !o.covered }
    board := board, memory := memory } := by
  obtain ⟨board, memory, hanswered⟩ : ∃ board memory, answerEach (scanAnswers u sc) (scanJudged u sc)
      = { scanJudged u sc with board := board, memory := memory } := ⟨_, _, answerEach_frame _ _⟩
  rw [scanAnswered, hanswered, scanJudged_eq]
  exact ⟨_, memory, rfl⟩

theorem scanAnswered_done (u : State) (sc : Scan) : (scanAnswered u sc).board.notice.getLsbD 10 = true := by
  simp [scanAnswered, Notice.bit]

theorem scanAnswered_fault (u : State) (sc : Scan) : (scanAnswered u sc).board.notice.getLsbD 9 = true ↔
    u.board.notice.getLsbD 9 = true ∨ ∃ n, faulted u sc n = true := by
  have hdone : (1#13 <<< Notice.scanDone.bit).getLsbD 9 = false := by decide
  rw [scanAnswered, setNotice_board, BitVec.getLsbD_or, hdone, Bool.or_false, answerEach_notice _ _ (by decide),
    scanJudged_eq]
  have hany : allStations.any (faulted u sc) = true ↔ ∃ n, faulted u sc n = true := by simp [allStations]
  rw [← hany]
  cases allStations.any (faulted u sc) <;> simp

theorem completeScan_eq (h : u.scanner.scan = some sc) : completeScan u =
    if u.farm.closeSlot.isSome then
      modScanner (fun x => { x with scan := some { sc with channels := [], telling := true } }) (scanAnswered u sc)
    else endScan (scanAnswered u sc) := by
  have hfarm : (scanAnswered u sc).farm = u.farm := by
    obtain ⟨board, memory, hframe⟩ := scanAnswered_frame u sc
    rw [hframe]
  rw [← hfarm, completeScan, h]
  rfl

theorem endScan_over (h : v.scanner.pendingMask = 0) :
    endScan v = { v with scanner := { v.scanner with scan := none } } := by
  rw [endScan, if_pos h, modScanner, ← h]

/-- R86 step 5: the scanner between two scans. -/
def scanOver (v : State) : State := { v with scanner := { v.scanner with scan := none, pendingMask := 0 } }

theorem endScan_next (h : v.scanner.pendingMask ≠ 0) : endScan v = startScan v.scanner.pendingMask (scanOver v) :=
  if_neg h

theorem endScan_frame (v : State) : ∃ scanner agenda, endScan v = { v with scanner := scanner, agenda := agenda } := by
  by_cases h : v.scanner.pendingMask = 0
  · exact ⟨_, _, endScan_over h⟩
  · rw [endScan_next h, startScan_eq]
    exact ⟨_, _, rfl⟩

theorem completeScan_frame (h : u.scanner.scan = some sc) : ∃ scanner agenda, completeScan u
    = { scanAnswered u sc with scanner := scanner, agenda := agenda } := by
  rw [completeScan_eq h]
  split
  · exact ⟨_, _, rfl⟩
  · exact endScan_frame _

end Sys2Proof.Machine
end

section
/-!
Measurements, the periodic timer, and the completion of a scan (O36).
-/

namespace Sys2Proof.Machine

variable {s t u v : State} {n m : StationIx} {sc : Scan} {o : ScanOrder} {mask : Word} {c : Nat} {rest : List Nat}

/-! ### What a completed scan leaves (R86) -/

theorem scanAnswered_scanner (u : State) (sc : Scan) : (scanAnswered u sc).scanner
    = { u.scanner with orders := u.scanner.orders.filter fun o => !o.covered } := by
  obtain ⟨_, _, hframe⟩ := scanAnswered_frame u sc
  rw [hframe]

theorem scanAnswered_agenda (u : State) (sc : Scan) : (scanAnswered u sc).agenda = u.agenda := by
  obtain ⟨_, _, hframe⟩ := scanAnswered_frame u sc
  rw [hframe]

theorem scanAnswered_stations (u : State) (sc : Scan) :
    (scanAnswered u sc).stations = tabulate (judgedStation u sc) := by
  obtain ⟨_, _, hframe⟩ := scanAnswered_frame u sc
  rw [hframe]

theorem measuredSet_congr (hp : t.plant = s.plant) (hs : t.stations = s.stations) (mask : Word) :
    measuredSet t mask = measuredSet s mask := by
  unfold measuredSet State.stationConfig State.station
  rw [hp, hs]

theorem channelsOf_congr (hp : t.plant = s.plant) (mask : Word) : channelsOf t mask = channelsOf s mask := by
  unfold channelsOf stationChannels State.stationConfig
  rw [hp]

section
variable (h : u.scanner.scan = some sc)
include h

theorem completeScan_board : (completeScan u).board = (scanAnswered u sc).board := by
  obtain ⟨_, _, hframe⟩ := completeScan_frame h
  rw [hframe]

theorem completeScan_memory : (completeScan u).memory = (scanAnswered u sc).memory := by
  obtain ⟨_, _, hframe⟩ := completeScan_frame h
  rw [hframe]

theorem completeScan_stations : (completeScan u).stations = tabulate (judgedStation u sc) := by
  obtain ⟨_, _, hframe⟩ := completeScan_frame h
  rw [hframe, ← scanAnswered_stations]

theorem completeScan_station (n : StationIx) : (completeScan u).station n = judgedStation u sc n := by
  rw [State.station, completeScan_stations h, tget_tabulate]

theorem completeScan_notice (i : Nat) :
    (completeScan u).board.notice.getLsbD i = (scanAnswered u sc).board.notice.getLsbD i := by
  rw [completeScan_board h]

theorem completeScan_slot (ho : o ∈ u.scanner.orders) (hc : o.covered = true) :
    ((completeScan u).slot o.slot).state = .answered := by
  have hslot : (completeScan u).slot o.slot = (answerEach (scanAnswers u sc) (scanJudged u sc)).slot o.slot := by
    rw [State.slot, completeScan_board h]
    rfl
  rw [hslot, answerEach_slot, if_pos (slot_mem_scanAnswers ho hc sc)]

/-- R87: the answer to a covered order that alone holds its slot. -/
theorem completeScan_answered (ho : o ∈ u.scanner.orders) (hc : o.covered = true) (hwf : Memory.wf u.memory = true)
    (honly : ∀ o' ∈ u.scanner.orders, o'.covered = true → o'.slot = o.slot → o' = o) :
    AnsweredWith (completeScan u) o.slot 1 0 ∧ ∀ i, i < 13 →
      (completeScan u).mem (slotBase o.slot + 19 + i) = (scanResults u sc o.mask).getD i 0 := by
  have hjudged : Memory.wf (scanJudged u sc).memory = true := by
    rw [scanJudged_eq]
    exact hwf
  obtain ⟨hanswered, hresults⟩ :=
    answerEach_answered hjudged (scanAnswers_nodup u sc) (mem_scanAnswers ho hc honly sc)
  have hmem : ∀ a, (completeScan u).mem a = (answerEach (scanAnswers u sc) (scanJudged u sc)).mem a := fun a => by
    rw [State.mem, completeScan_memory h]
    rfl
  obtain ⟨-, hclass, hdetail⟩ := hanswered
  exact ⟨⟨completeScan_slot h ho hc, (hmem _).trans hclass, (hmem _).trans hdetail⟩,
    fun i hi => (hmem _).trans (hresults i hi)⟩

/-- R86 step 4: with a DAY CLOSE held the scan stays in flight. -/
theorem completeScan_held (hclose : u.farm.closeSlot.isSome = true) : (completeScan u).scanner = { u.scanner with
    scan := some { sc with channels := [], telling := true }
    orders := u.scanner.orders.filter fun o => !o.covered } := by
  rw [completeScan_eq h, if_pos hclose, modScanner_scanner, scanAnswered_scanner]

section
variable (hclose : u.farm.closeSlot = none)
include hclose

theorem completeScan_ends : completeScan u = endScan (scanAnswered u sc) := by
  rw [completeScan_eq h, if_neg (by rw [hclose]; exact Bool.false_ne_true)]

/-- R86 step 5: the scan is over. -/
theorem completeScan_over (hpending : u.scanner.pendingMask = 0) : (completeScan u).scanner = { u.scanner with
    scan := none, orders := u.scanner.orders.filter fun o => !o.covered } := by
  have hmask : (scanAnswered u sc).scanner.pendingMask = 0 := by
    rw [scanAnswered_scanner]
    exact hpending
  rw [completeScan_ends h hclose, endScan_over hmask, scanAnswered_scanner]

/-- R86 step 5: the stations of the pending mask start the next scan. -/
theorem completeScan_next (hpending : u.scanner.pendingMask ≠ 0) :
    let t := completeScan u
    let m := measuredSet t u.scanner.pendingMask
    t.scanner = { u.scanner with
      pendingMask := 0
      scan := some { requested := u.scanner.pendingMask, measured := m, channels := channelsOf t m, raw := []
                     telling := false }
      orders := (u.scanner.orders.filter fun o => !o.covered).map fun o => { o with covered := true } }
    ∧ t.agenda = u.agenda ++ if channelsOf t m = [] then [Job.scanComplete] else [] := by
  have hmask : (scanAnswered u sc).scanner.pendingMask = u.scanner.pendingMask := by rw [scanAnswered_scanner]
  have ht : completeScan u = startScan u.scanner.pendingMask (scanOver (scanAnswered u sc)) := by
    rw [completeScan_ends h hclose, endScan_next (hmask ▸ hpending), hmask]
  have hplant : (completeScan u).plant = (scanOver (scanAnswered u sc)).plant := by
    rw [ht, startScan_eq]
  have hstations : (completeScan u).stations = (scanOver (scanAnswered u sc)).stations := by
    rw [ht, startScan_eq]
  dsimp only
  rw [measuredSet_congr hplant hstations, channelsOf_congr hplant, ht, startScan_eq]
  dsimp only [scanOver]
  rw [scanAnswered_scanner, scanAnswered_agenda]
  exact ⟨rfl, rfl⟩

end

end

/-! ### Stations judged (R90 to R93) -/

section
variable (hm : maskHas sc.measured n = true)
include hm

theorem judgedStation_saturated (h : cleanCount u sc n = 2 ^ u.params.resolution - 1
    ∨ soiledCount u sc n = 2 ^ u.params.resolution - 1) :
    judgedStation u sc n = judgedBy u (u.station n) .saturated := by
  rw [judgedStation, if_pos hm, verdictOf_eq, judge_saturated h]

section
variable (hk : cleanCount u sc n ≠ 2 ^ u.params.resolution - 1) (hc : soiledCount u sc n ≠ 2 ^ u.params.resolution - 1)
include hk hc

theorem judgedStation_dark (h : normalize u.params.resolution (cleanCount u sc n) < u.params.darkFloor
    ∨ normalize u.params.resolution (cleanCount u sc n) = 0) :
    judgedStation u sc n = judgedBy u (u.station n) .dark := by
  rw [judgedStation, if_pos hm, verdictOf_eq, judge_dark hk hc h]

theorem judgedStation_valid (hd : u.params.darkFloor ≤ normalize u.params.resolution (cleanCount u sc n))
    (h0 : normalize u.params.resolution (cleanCount u sc n) ≠ 0) :
    judgedStation u sc n = judgedBy u (u.station n) (.valid (ratioIn u sc n)) := by
  rw [judgedStation, if_pos hm, verdictOf_eq, judge_valid hk hc hd h0]
  rfl

end

end

theorem judgedStation_unmeasured (hm : maskHas sc.measured n = false) : judgedStation u sc n = u.station n :=
  if_neg (ne_true_of_eq_false hm)

theorem faulted_iff : faulted u sc n = true ↔ maskHas sc.measured n = true
    ∧ (cleanCount u sc n = 2 ^ u.params.resolution - 1 ∨ soiledCount u sc n = 2 ^ u.params.resolution - 1)
    ∧ 3 ≤ min 255 ((u.station n).saturation + 1) ∧ (u.station n).state ≠ .fault := by
  simp only [faulted, entersFault, verdictOf_eq, judge_saturated_iff, Bool.and_eq_true, decide_eq_true_eq, bne_iff_ne,
    and_assoc]
  rfl

/-- R99: a sample in the filter. -/
theorem filtered_eq (shift : Nat) (reseed : Bool) (srf sr : Nat) : filtered shift reseed srf sr =
    if reseed = true ∨ shift = 0 then sr
    else if srf ≤ sr then srf + (sr - srf + 2 ^ (shift - 1)) / 2 ^ shift
    else srf - (srf - sr + 2 ^ (shift - 1)) / 2 ^ shift := by
  simp [filtered, filterStep]

/-! ### Measurements (R82, R95) -/

theorem channelOwner_isSome (s : State) (mask : Word) (c : Nat) : (channelOwner s mask c).isSome = true ↔
    ∃ n, maskHas mask n = true ∧ ((s.stationConfig n).clean = c ∨ (s.stationConfig n).soiled = c) := by
  simp only [channelOwner, List.find?_isSome, Bool.and_eq_true, stationChannels_contains, Bool.or_eq_true, beq_iff_eq]
  constructor
  · rintro ⟨n, -, hm, hc⟩
    exact ⟨n, hm, hc.imp Eq.symm Eq.symm⟩
  · rintro ⟨n, hm, hc⟩
    exact ⟨n, List.mem_finRange n, hm, hc.imp Eq.symm Eq.symm⟩

/-- R82: the state when the count of the head channel has been taken. -/
def countTaken (sc : Scan) (periods : Nat) (s : State) : State :=
  { s with scanner := { s.scanner with
    scan := some (sc.measuredOne (channelOwner s sc.measured (sc.channels.headD 0)).isSome
      (min periods (fullScale s))) } }

theorem endMeasurement_eq (h : s.scanner.scan = some sc) (hc : sc.channels = c :: rest) (periods : Nat) :
    endMeasurement periods s =
      if rest = [] then completeScan (countTaken sc periods s) else countTaken sc periods s := by
  have hrest : ∀ owned count, (sc.measuredOne owned count).channels = rest := fun owned count => by
    rw [Scan.measuredOne, hc]
  rw [endMeasurement, h]
  dsimp only
  rw [hrest]
  rfl

/-- Settles O36: a measurement's end, the periodic timer, a request, and what a completed scan leaves. -/
theorem scanCompletes : Obligations.ScanCompletes := by
  unfold Obligations.ScanCompletes
  refine ⟨fun s hr hmode => ⟨fun sc c rest periods hscan ht hc => ?_, fun due hdue => ?_⟩, fun u mask => ?_,
    fun u sc hscan => ?_⟩
  · intro count owned raw after
    have hrunning : (running s && measuring s) = true := by
      simp [running, measuring, hmode, hscan, ht, hc]
    have hexec : exec (.measurementEnd periods) s
        = .next (drain (commit s (endMeasurement periods { s with agenda := [] }))) :=
      actWhen_eq (due := fun s => running s && measuring s) (endMeasurement periods) hr hrunning
    have hafter : countTaken sc periods { s with agenda := [] } = after := by
      have howned : (channelOwner s sc.measured c).isSome = true ↔ owned := channelOwner_isSome s sc.measured c
      have hraw : (if (channelOwner s sc.measured c).isSome then sc.raw ++ [(c, count)] else sc.raw) = raw :=
        if_congr howned rfl rfl
      rw [countTaken, Scan.measuredOne, hc]
      dsimp only [List.headD_cons, after]
      rw [← hraw]
      rfl
    rw [endMeasurement_eq (s := { s with agenda := [] }) hscan hc, hafter] at hexec
    refine ⟨fun hrest => ?_, fun hrest => ?_⟩
    · rw [hexec, if_neg hrest, drain_nil rfl]
    · rw [hexec, if_pos hrest]
  · have hrunning : (running s && s.scanner.periodicDue.isSome) = true := by simp [running, hmode, hdue]
    refine (actWhen_eq (due := fun s => running s && s.scanner.periodicDue.isSome) periodicExpires hr hrunning).trans ?_
    rw [periodicExpires, show ({ s with agenda := [] } : State).scanner.periodicDue = some due from hdue]
    rfl
  · exact ⟨fun hscan => requestScan_busy hscan mask, fun hscan =>
      (requestScan_idle hscan mask).trans (startScan_eq mask u)⟩
  · intro t b
    refine ⟨completeScan_over hscan, fun q hq => completeScan_held hscan (by rw [hq]; rfl), completeScan_next hscan,
      (completeScan_notice hscan 10).trans (scanAnswered_done u sc), fun o ho hc => completeScan_slot hscan ho hc,
      ⟨?_, fun o ho hc hwf honly => ?_⟩, fun n => ?_⟩
    · rw [show t.board.notice.getLsbD 9 = _ from completeScan_notice hscan 9, scanAnswered_fault]
      exact or_congr_right (exists_congr fun n => faulted_iff)
    · intro named
      obtain ⟨hanswered, hresults⟩ := completeScan_answered hscan ho hc hwf honly
      refine ⟨hanswered, fun n => ?_, fun i hi => ?_⟩
      · rw [show t.mem (slotBase o.slot + 19) = _ from hresults 0 (by decide), scanResults_mask]
        rfl
      · have h := hresults (i + 1) (by omega)
        rw [show slotBase o.slot + 19 + (i + 1) = slotBase o.slot + 20 + i by omega, scanResults_ratio u sc _ hi] at h
        exact h
    · rw [show t.station n = _ from completeScan_station hscan n]
      refine ⟨judgedStation_unmeasured, judgedStation_saturated, judgedStation_dark, fun hm hk hc hd h0 => ?_⟩
      refine (judgedStation_valid hm hk hc hd h0).trans ?_
      rw [judgedBy, filtered_eq]
      rfl

end Sys2Proof.Machine
end

section
/-!
That every cumulative account only grows, and what leaves the accounts as they stood (O56).
-/

namespace Sys2Proof.Machine

variable {c : Instr} {s t u : State} {f : State → State} {due : State → Bool}

/-! ### Accounts that grow (R115) -/

theorem Grows.trans {cap x y z : Nat} (h : Grows cap x y) (k : Grows cap y z) : Grows cap x z := fun hx =>
  have ⟨hxy, hy⟩ := h hx
  have ⟨hyz, hz⟩ := k hy
  ⟨hxy.trans hyz, hz⟩

theorem RowGrows.trans {x y z : Row} (h : RowGrows x y) (k : RowGrows y z) : RowGrows x z where
  cumLoss := h.cumLoss.trans k.cumLoss
  cumRecovered := h.cumRecovered.trans k.cumRecovered
  passEnergy := h.passEnergy.trans k.passEnergy
  passCount := h.passCount.trans k.passCount

theorem FarmGrows.trans {x y z : Farm} (h : FarmGrows x y) (k : FarmGrows y z) : FarmGrows x z where
  totalLoss := h.totalLoss.trans k.totalLoss
  totalRecovered := h.totalRecovered.trans k.totalRecovered
  passEnergy := h.passEnergy.trans k.passEnergy
  transitEnergy := h.transitEnergy.trans k.transitEnergy
  shuttleEnergy := h.shuttleEnergy.trans k.shuttleEnergy
  completePasses := h.completePasses.trans k.completePasses
  partialPasses := h.partialPasses.trans k.partialPasses
  closeCount := h.closeCount.trans k.closeCount

theorem AccountsGrow.refl (s : State) : AccountsGrow s s := ⟨fun _ => .refl, .refl⟩

theorem AccountsGrow.trans (h : AccountsGrow s t) (k : AccountsGrow t u) : AccountsGrow s u :=
  ⟨fun r => (h.1 r).trans (k.1 r), h.2.trans k.2⟩

theorem AccountsGrow.row (r : RowId) {g : Row → Row} (hg : RowGrows (tget s.rows r) (g (tget s.rows r))) :
    AccountsGrow s (modRow r g s) := by
  refine ⟨fun q => ?_, .refl⟩
  rw [modRow_rows, tget_tset]
  split
  next e => exact e ▸ hg
  next => exact .refl

/-! ### Accounts that stand (R115) -/

theorem RowGrows.of_accounts {x y : Row} (h : y.accounts = x.accounts) : RowGrows x y := by
  simp only [Row.accounts, List.cons.injEq, and_true] at h
  obtain ⟨hloss, hrecovered, henergy, hcount⟩ := h
  constructor <;> simp only [hloss, hrecovered, henergy, hcount, Grows.refl]

theorem FarmGrows.of_accounts {x y : Farm} (h : y.accounts = x.accounts) : FarmGrows x y := by
  simp only [Farm.accounts, List.cons.injEq, and_true] at h
  obtain ⟨hloss, hrecovered, hpass, htransit, hshuttle, hcomplete, hpartial, hclose⟩ := h
  constructor <;>
    simp only [hloss, hrecovered, hpass, htransit, hshuttle, hcomplete, hpartial, hclose, Grows.refl]

theorem AccountsStand.grows (h : AccountsStand s t) : AccountsGrow s t :=
  ⟨fun r => .of_accounts (h.1 r), .of_accounts h.2⟩

theorem AccountsStand.trans (h : AccountsStand s t) (k : AccountsStand t u) : AccountsStand s u :=
  ⟨fun r => (k.1 r).trans (h.1 r), k.2.trans h.2⟩

theorem AccountsStand.of_eq (hr : t.rows = s.rows) (hf : t.farm = s.farm) : AccountsStand s t :=
  ⟨fun r => by rw [hr], by rw [hf]⟩

theorem AccountsStand.refl (s : State) : AccountsStand s s := .of_eq rfl rfl

/-- R36, R117, pin and soft columns. -/
theorem warmReset_accounts (cause : ResetCause) (s : State) : AccountsStand s (warmReset cause s) := by
  refine ⟨fun r => ?_, rfl⟩
  simp only [warmReset, tget_tabulate]
  rfl

theorem assertPin_accounts (s : State) : AccountsStand s (assertPin s) := by
  rcases assertPin_eq s with h | h <;> rw [h]
  exacts [.refl s, warmReset_accounts s.board.resetCause s]

theorem releasePin_accounts (s : State) : AccountsStand s (releasePin s) := by
  rcases releasePin_eq s with h | h <;> rw [h]
  exacts [.refl s, warmReset_accounts .pin s]

theorem enterPlant_accounts (p : Plant) (s : State) : AccountsStand s (enterPlant p s) := by
  refine ⟨fun r => ?_, rfl⟩
  simp only [enterPlant, tget_tabulate]
  rfl

theorem setFlags_accounts (s : State) : AccountsStand s (setFlags s) := by
  refine ⟨fun r => ?_, rfl⟩
  simp only [setFlags, tget_tabulate]
  rfl

/-! ### Every command but power-on -/

/-- R115: what one small move does to the accounts. -/
theorem Small.accountsGrow (h : Small c s t) (hc : c ≠ .powerOnReset) : AccountsGrow s t := by
  cases h with
  | row r f h => exact .row r (h _).2
  | flags => exact (setFlags_accounts s).grows
  | transmission r tr =>
    have taken : AccountsGrow s (modRow r (fun x => { x with tr := tr }) s) := .row r ⟨.refl, .refl, .refl, .refl⟩
    exact taken.trans (.row r ⟨.refl, .refl, .refl, .refl⟩)
  | farm f h => exact ⟨fun _ => .refl, h _⟩
  | runEntry p => exact (enterPlant_accounts p s).grows
  | powerOn h => exact absurd h hc
  | pinAssert => exact (assertPin_accounts s).grows
  | pinRelease => exact (releasePin_accounts s).grows
  | soft => exact (warmReset_accounts .soft s).grows
  | rewriteEnd m => rw [endRewrite_frame]; exact .refl s
  | closeStation n => rw [closeStation_frame]; exact .refl s
  | release x r => rw [freeRecord_frame]; exact .refl s
  | _ => exact .refl s

theorem exec_accountsGrow (h : exec c s = .next t) (hc : c ≠ .powerOnReset) : AccountsGrow s t :=
  (exec_moves c h).keeps (P := AccountsGrow s) (fun _ _ hm hs => hs.trans (hm.accountsGrow hc)) (.refl s)

/-- R23, R36, R117: power takes every account back to 0. -/
theorem powerOn_accountsZero (s : State) : AccountsZero (powerOn s) := by
  refine ⟨fun r x hx => ?_, fun x hx => ?_⟩
  · simpa [powerOn, State.reset, Row.accounts, Row.powerOn] using hx
  · simpa [powerOn, State.reset, Farm.accounts, Farm.powerOn] using hx

/-! ### The commands that leave the accounts as they stood -/

/-- An effect that leaves the accounts and raises no notice leaves the accounts of the whole command. -/
theorem perform_accounts (hf : AccountsStand s (f { s with agenda := [] }))
    (hq : (f { s with agenda := [] }).agenda = []) : AccountsStand s (perform f s) := by
  rw [perform, drain_nil ((commit_agenda _ _).trans hq)]
  exact hf

theorem act_accounts (hf : AccountsStand s (f { s with agenda := [] })) (hq : (f { s with agenda := [] }).agenda = [])
    (h : act f s = .next t) : AccountsStand s t := by
  injection h with h
  subst h
  split
  exacts [.refl s, perform_accounts hf hq]

theorem actWhen_accounts (hf : AccountsStand s (f { s with agenda := [] }))
    (hq : (f { s with agenda := [] }).agenda = []) (h : actWhen due f s = .next t) : AccountsStand s t := by
  injection h with h
  subst h
  split
  exacts [.refl s, perform_accounts hf hq]

theorem softReset_accounts (h : act (warmReset .soft) s = .next t) : AccountsStand s t :=
  act_accounts (warmReset_accounts .soft _) rfl h

theorem writeRegister_soft {v : Word} (h : v.getLsbD 1 = true) : writeRegister .control v = warmReset .soft :=
  funext fun _ => if_pos h

theorem exec_softResets_accounts (hc : c.softResets) (h : exec c s = .next t) : AccountsStand s t := by
  cases c with
  | softReset request page => exact softReset_accounts h
  | registerWriteOther reg v =>
    obtain ⟨rfl, hv⟩ := hc
    exact softReset_accounts (writeRegister_soft hv ▸ h)
  | hostMemoryWrite a v =>
    obtain ⟨ha, hv⟩ := hc
    simp only [exec, execHostMemoryWrite, ha, writeRegister_soft hv] at h
    split at h
    · cases h
    · exact softReset_accounts h
  | _ => exact hc.elim

/-- R33: RUN entry keeps every account. -/
theorem enterRun_accounts (p : Plant) (u : State) : AccountsStand u (enterRun p u) := by
  obtain ⟨_, _, _, h, ht⟩ := enterRun_entered p u
  refine ⟨fun r => ?_, congrArg (·.farm.accounts) (h.frame_after ht)⟩
  rw [show tget (enterRun p u).rows r = _ from h.row_after ht r]
  rfl

theorem enterRun_agenda (p : Plant) (u : State) : (enterRun p u).agenda = u.agenda := by
  obtain ⟨_, _, _, h, ht⟩ := enterRun_entered p u
  exact (congrArg State.agenda (h.frame_after ht)).trans rfl

theorem exec_runEntryChecks_accounts (h : exec .runEntryChecks s = .next t) : AccountsStand s t := by
  simp only [exec, execRunEntryChecks] at h
  cases hf : firstFailure (plantRead s) (readPlant s).1 with
  | some x =>
    have hfailed := finishChecking_failed hf
    exact actWhen_accounts (by rw [hfailed]; exact .of_eq rfl rfl) (by rw [hfailed]; rfl) h
  | none =>
    have hpassed := finishChecking_passed hf
    exact actWhen_accounts (by rw [hpassed]; exact enterRun_accounts _ (plantRead s))
      (by rw [hpassed, enterRun_agenda]; rfl) h

/-- R35: the end of RUN changes no account. -/
theorem leaveRun_accounts (u : State) : AccountsStand u (leaveRun u) := by
  refine ⟨fun r => ?_, by rw [leaveRun_eq]; rfl⟩
  rw [show tget (leaveRun u).rows r = _ from leaveRun_row u r]
  rfl

theorem requestSetup_accounts (u : State) : AccountsStand u (requestSetup u) := by
  unfold requestSetup
  split
  · exact .refl u
  · split
    · exact .of_eq rfl rfl
    · split
      · exact .of_eq rfl rfl
      · exact leaveRun_accounts u

/-- R20, R34: a CONTROL write that asks for SETUP leaves every account and raises no notice. -/
theorem controlWrite_setup_accounts (page : Bool) (u : State) :
    AccountsStand u (controlWrite false page u) ∧ (controlWrite false page u).agenda = u.agenda := by
  by_cases hm : u.modes.mode = .run
  · rw [controlWrite_setup page hm]
    exact ⟨requestSetup_accounts { u with board := { u.board with modeRequest := false, statusPage := page } },
      requestSetup_agenda _⟩
  · rw [controlWrite_eq false page fun h => hm h.1]
    exact ⟨.of_eq rfl rfl, rfl⟩

/-- R18: a register write that ends no silence leaves every account. -/
theorem afterWrite_accounts (hs : s.board.silent = false) : AccountsStand s (afterWrite s) := by
  rw [hostSilence.1 s (.inl hs)]
  split <;> exact .of_eq rfl rfl

theorem exec_setupRequest_accounts {page : Bool} (hs : s.board.silent = false)
    (h : exec (.setupRequest page) s = .next t) : AccountsStand s t := by
  have ⟨hstand, hagenda⟩ := controlWrite_setup_accounts page (afterWrite s)
  exact act_accounts ((afterWrite_accounts hs).trans hstand) hagenda h

/-- Settles O56: growth by the small moves, power-on, and each command that leaves the accounts. -/
theorem accountsKept : Obligations.AccountsKept := by
  unfold Obligations.AccountsKept
  refine fun c s t h => ⟨exec_accountsGrow h, ?_, ?_⟩
  · rintro rfl
    cases h
    exact powerOn_accountsZero s
  · rintro (rfl | rfl | hc | rfl | rfl | ⟨hs, page, rfl⟩)
    · cases h; exact assertPin_accounts s
    · cases h; exact releasePin_accounts s
    · exact exec_softResets_accounts hc h
    · exact exec_runEntryChecks_accounts h
    · simp only [exec, execSetupAtFrameEnd] at h
      exact actWhen_accounts (leaveRun_accounts { s with agenda := [] }) (leaveRun_agenda _) h
    · exact exec_setupRequest_accounts hs h

end Sys2Proof.Machine
end

section
/-!
What a pass effect does, where a robot's energy goes, and what a surface reading sets (O38).
-/

namespace Sys2Proof.Machine

variable {s : State} {r : RobotId} {row : RowId} {p : Pass} {length c : Nat}

/-! ### The fraction covered (R110) -/

/-- R110: the fraction is 1, which is 256, exactly where the whole pass was covered. -/
theorem coveredFraction_whole (h : 1 ≤ length) : coveredFraction length c = 256 ↔ 2 * length ≤ c := by
  have hpos : 0 < 2 * length := by omega
  unfold coveredFraction
  constructor
  · intro hf
    by_contra hc
    have hlt : min c (2 * length) * 256 / (2 * length) < 256 := (Nat.div_lt_iff_lt_mul hpos).mpr (by omega)
    omega
  · intro hc
    rw [min_eq_right hc, Nat.mul_div_cancel_left 256 hpos]

theorem coveredFraction_le (length c : Nat) : coveredFraction length c ≤ 256 :=
  Nat.div_le_of_le_mul (Nat.mul_le_mul_right 256 (min_le_right c (2 * length)))

/-- R110: with the efficiency in its range a pass takes no more than the loss. -/
theorem lossTaken_le {loss efficiency f : Nat} (he : efficiency ≤ 255) (hf : f ≤ 256) :
    loss * efficiency * f / 65536 ≤ loss := by
  apply Nat.div_le_of_le_mul
  calc loss * efficiency * f ≤ loss * 256 * 256 := Nat.mul_le_mul (Nat.mul_le_mul_left loss (by omega)) hf
    _ = 65536 * loss := by ring

/-! ### Pass effects (R110 to R112) -/

/-- R102: a row's Tr and the daily loss that follows from it, as one update. -/
theorem setTransmission_eq (row : RowId) (tr : Nat) (s : State) : setTransmission row tr s
    = modRow row (fun x => { x with tr := tr, daily := dailyLoss (lossOf tr) (s.site row).yield }) s := by
  simp only [setTransmission, recomputeDaily, modRow, tget_tset_self, tset_tset]
  rfl

theorem lossAfter_le (loss efficiency f : Nat) : lossAfter loss efficiency f ≤ loss := Nat.sub_le _ _

/-- R101: the loss that is left is read back from the Tr that it gives. -/
theorem lossOf_lossAfter (tr efficiency f : Nat) :
    lossOf (32768 - lossAfter (lossOf tr) efficiency f) = lossAfter (lossOf tr) efficiency f :=
  Nat.sub_sub_self ((lossAfter_le _ _ _).trans (Nat.sub_le _ _))

/-- R110 to R112: a pass effect as one update of the row and one of the farm. -/
theorem passEffect_eq (h : 1 ≤ (s.site row).length) :
    let after := lossAfter (lossOf (s.row row).tr) s.params.efficiency (effectFraction s row c)
    let y := (s.site row).yield
    let recovered := dailyLoss (lossOf (s.row row).tr) y - dailyLoss after y
    passEffect row c s = markRewrite .farm (markRewrite (.row row)
      (modFarm (fun x => { x with
          totalRecovered := satAdd max32 x.totalRecovered recovered
          completePasses :=
            if 2 * (s.site row).length ≤ c then satAdd max32 x.completePasses 1 else x.completePasses
          partialPasses :=
            if 2 * (s.site row).length ≤ c then x.partialPasses else satAdd max32 x.partialPasses 1 })
        (modRow row (fun x => { x with
          tr := 32768 - after, daily := dailyLoss after y, cumRecovered := satAdd max32 x.cumRecovered recovered
          passCount := satAdd max16 x.passCount 1, lastPassEnd := s.siteSecond }) s))) := by
  intro after y recovered
  have hwhole : effectFraction s row c = 256 ↔ 2 * (s.site row).length ≤ c := coveredFraction_whole h
  unfold passEffect
  simp only [setTransmission_eq, lossOf_lossAfter, hwhole]
  simp only [modRow, tget_tset_self, tset_tset]
  rfl

/-! ### Energy (R113) -/

section
variable (ha : (s.robot r).activity = .cleaning)
include ha

theorem robotEnergy_farm (diff : Nat) :
    (robotEnergy r diff s).farm = { s.farm with passEnergy := satAdd max32 s.farm.passEnergy diff } := by
  unfold robotEnergy
  simp only [if_pos ha]
  cases (s.robot r).pass <;> rfl

/-- R113: the pass row of a robot that is CLEANING takes the energy. -/
theorem robotEnergy_row (hp : (s.robot r).pass = some p) (diff : Nat) : (robotEnergy r diff s).row p.row
    = { s.row p.row with passEnergy := satAdd max32 (s.row p.row).passEnergy diff } := by
  unfold robotEnergy
  simp only [if_pos ha, hp]
  exact tget_tset_self _ _ _

end

theorem robotEnergy_transit (ha : (s.robot r).activity ≠ .cleaning) (diff : Nat) : robotEnergy r diff s
    = { s with farm := { s.farm with transitEnergy := satAdd max32 s.farm.transitEnergy diff } } := if_neg ha

/-- R113: energy moves only accounts, which stand in the rows and the farm record. -/
theorem robotEnergy_frame (r : RobotId) (diff : Nat) (s : State) : robotEnergy r diff s
    = { s with rows := (robotEnergy r diff s).rows, farm := (robotEnergy r diff s).farm } := by
  unfold robotEnergy
  dsimp only
  split
  · split <;> rfl
  · rfl

theorem robotEnergy_robots (r : RobotId) (diff : Nat) (s : State) : (robotEnergy r diff s).robots = s.robots := by
  rw [robotEnergy_frame]

theorem robotEnergy_site (r : RobotId) (diff : Nat) (row : RowId) (s : State) :
    (robotEnergy r diff s).site row = s.site row := by
  rw [robotEnergy_frame]
  rfl

/-! ### Surface readings (R103) -/

/-- R103: a reading that is not the first on the OUT leg of a pass that cleans sets nothing. -/
theorem surfaceReading_ignored {leg : Leg} (reading : Nat)
    (h : ¬((s.robot r).activity = .cleaning ∧ leg = .out ∧ (s.robot r).surfaceTaken = false)) :
    surfaceReading r leg reading s = s := by
  unfold surfaceReading
  dsimp only
  split
  · exact if_neg h
  · rfl

/-- R103: the reading that is taken. -/
theorem surfaceReading_taken (hp : (s.robot r).pass = some p) (ha : (s.robot r).activity = .cleaning)
    (hs : (s.robot r).surfaceTaken = false) (reading : Nat) : surfaceReading r .out reading s
    = modRobot r (fun x => { x with surfaceTaken := true }) (setTransmission p.row (min reading 32768) s) := by
  unfold surfaceReading
  dsimp only
  rw [hp]
  exact if_pos ⟨ha, rfl, hs⟩

theorem surfaceReading_farm (r : RobotId) (leg : Leg) (reading : Nat) (s : State) :
    (surfaceReading r leg reading s).farm = s.farm := by
  unfold surfaceReading
  dsimp only
  split
  · split <;> rfl
  · rfl

/-- R103: a reading moves no row's pass energy. -/
theorem surfaceReading_passEnergy (r : RobotId) (leg : Leg) (reading : Nat) (row : RowId) (s : State) :
    ((surfaceReading r leg reading s).row row).passEnergy = (s.row row).passEnergy := by
  unfold surfaceReading
  dsimp only
  split
  · split
    · rw [setTransmission_eq, State.row, modRobot_rows, modRow_rows, tget_tset]
      split
      next e => rw [e]; rfl
      next => rfl
    · rfl
  · rfl

/-! ### A report's share of the accounts (R39 step 4) -/

theorem handle_accountReport (r : RobotId) (rep : RobotReport) (diff : Nat) (s : State) :
    handle (.accountReport r rep diff) s = accountReport r rep diff s := rfl

/-- The account unit's share of a report without a surface reading that counts is its energy. -/
theorem accountReport_unread {rep : RobotReport} (diff : Nat)
    (h : rep.surface = none ∨ rep.leg = .back ∨ (s.robot r).activity ≠ .cleaning ∨ (s.robot r).surfaceTaken = true) :
    accountReport r rep diff s = robotEnergy r diff s := by
  unfold accountReport
  dsimp only
  cases hx : rep.surface with
  | none => rfl
  | some x =>
    refine surfaceReading_ignored x fun ⟨ha, hl, hs⟩ => ?_
    rw [State.robot, robotEnergy_robots] at ha hs
    rcases h with h | h | h | h
    · cases hx.symm.trans h
    · cases hl.symm.trans h
    · exact h ha
    · cases hs.symm.trans h

/-- The reading of a report comes after its energy. -/
theorem accountReport_read {rep : RobotReport} {x : Nat} (hx : rep.surface = some x) (diff : Nat) :
    accountReport r rep diff s = surfaceReading r rep.leg x (robotEnergy r diff s) := by
  unfold accountReport
  rw [hx]

theorem accountReport_farm (r : RobotId) (rep : RobotReport) (diff : Nat) (s : State) :
    (accountReport r rep diff s).farm = (robotEnergy r diff s).farm := by
  cases hx : rep.surface with
  | none => rw [accountReport_unread diff (.inl hx)]
  | some x => rw [accountReport_read hx, surfaceReading_farm]

theorem accountReport_passEnergy (r : RobotId) (rep : RobotReport) (diff : Nat) (row : RowId) (s : State) :
    ((accountReport r rep diff s).row row).passEnergy = ((robotEnergy r diff s).row row).passEnergy := by
  cases hx : rep.surface with
  | none => rw [accountReport_unread diff (.inl hx)]
  | some x => rw [accountReport_read hx, surfaceReading_passEnergy]

/-- R103: the first reading on the OUT leg of a pass that cleans sets the pass row's Tr, and is the last taken. -/
theorem accountReport_taken {rep : RobotReport} {x : Nat} (hp : (s.robot r).pass = some p)
    (ha : (s.robot r).activity = .cleaning) (hs : (s.robot r).surfaceTaken = false) (hx : rep.surface = some x)
    (hl : rep.leg = .out) (diff : Nat) : accountReport r rep diff s
      = modRobot r (fun b => { b with surfaceTaken := true })
          (setTransmission p.row (min x 32768) (robotEnergy r diff s)) := by
  have hrobot : (robotEnergy r diff s).robot r = s.robot r := congrArg (tget · r) (robotEnergy_robots r diff s)
  rw [accountReport_read hx, hl]
  exact surfaceReading_taken (hrobot ▸ hp) (hrobot ▸ ha) (hrobot ▸ hs) x

/-- Settles O38: the pass effect as one update, and a report's energy and reading by what the robot does. -/
theorem accountUnit : Obligations.AccountUnit := by
  unfold Obligations.AccountUnit
  refine ⟨fun u r c h => ⟨passEffect_eq h, coveredFraction_whole h, coveredFraction_le _ c, lossAfter_le _ _ _,
    fun he => lossTaken_le he (coveredFraction_le _ c)⟩, fun u r rep diff => ?_⟩
  rw [handle_accountReport]
  refine ⟨fun ha => (accountReport_farm r rep diff u).trans (robotEnergy_farm ha diff), fun ha => ?transit,
    fun p hp ha => ⟨?passEnergy, fun h => ?unread, fun x hx hl hs => ?taken⟩⟩
  case transit => exact (accountReport_unread diff (.inr (.inr (.inl ha)))).trans (robotEnergy_transit ha diff)
  case passEnergy =>
    rw [accountReport_passEnergy, robotEnergy_row ha hp]
    rfl
  case unread =>
    rw [accountReport_unread diff (h.imp_right (Or.imp_right .inr)), robotEnergy_row ha hp]
    exact ⟨rfl, robotEnergy_robots r diff u⟩
  case taken =>
    rw [accountReport_taken hp ha hs hx hl, setTransmission_eq, robotEnergy_site]
    exact ⟨congrArg Row.tr (tget_tset_self _ _ _), congrArg Row.daily (tget_tset_self _ _ _),
      congrArg Robot.surfaceTaken (tget_tset_self _ _ _)⟩

end Sys2Proof.Machine
end
